-- ==== Sys2Proof/Word.lean ====
section
/-! DEFINITION. The plainest data the model is built from: bytes, tables of a fixed number of records, and bounded indices. -/

namespace Sys2Proof

/-- A byte of the Show Link. -/
abbrev Byte := BitVec 8

/-- A table of exactly `n` records (48 sections, 512 channels, ...), with its size carried as a proof. -/
structure Table (α : Type) (n : Nat) where
  items : List α
  size : items.length = n
deriving DecidableEq, Repr

namespace Table

variable {α β : Type} {n : Nat}

/-- The record at an index. -/
def get (t : Table α n) (i : Fin n) : α := t.items[i.1]'(by rw [t.size]; exact i.2)

/-- The table with the record at one index replaced. -/
def set (t : Table α n) (i : Fin n) (a : α) : Table α n :=
  ⟨t.items.set i.1 a, by rw [List.length_set, t.size]⟩

/-- The table with the record at one index changed by `f`. -/
def modify (t : Table α n) (i : Fin n) (f : α → α) : Table α n := t.set i (f (t.get i))

/-- The table with every record changed by `f`. -/
def map (t : Table α n) (f : α → β) : Table β n :=
  ⟨t.items.map f, by rw [List.length_map, t.size]⟩

/-- A table of `n` equal records. -/
def replicate (n : Nat) (a : α) : Table α n := ⟨List.replicate n a, List.length_replicate⟩

/-- A table given by a value for each index. -/
def ofFn (f : Fin n → α) : Table α n :=
  ⟨(List.finRange n).map f, by rw [List.length_map, List.length_finRange]⟩

/-- The table with every record changed by `f`, which also sees the index. -/
def mapIdx (t : Table α n) (f : Fin n → α → β) : Table β n := ofFn fun i => f i (t.get i)

end Table

/-- The index `k` when it lies in 0 to n − 1. -/
def fin? (n k : Nat) : Option (Fin n) := if h : k < n then some ⟨k, h⟩ else none

/-- All indices of a table of `n` records, in ascending order. -/
def indices (n : Nat) : List (Fin n) := List.finRange n

end Sys2Proof
end

