-- ==== Sys2Proof/Syntax.lean ====
section
/-! DEFINITION. The commands of the part: the requests the show computer can send (R175, R176), with every field as it
stands on the wire, and Instr, one constructor for each row of spec/opcode_table.json. Enumerations and indices are carried
as raw numbers: R172 hands a value beyond its list to the owning block, which refuses it. -/

namespace Sys2Proof

/-- A section link as sent: kind, section or point, end (R178). -/
structure RawLink where
  kind : Nat
  index : Nat
  fin : Nat
deriving DecidableEq, Repr

/-- A channel's binding field of 5 bytes as sent (R176): SIGNAL reads `item` as section and `aspect`; CHASE reads `item` as
axis, `start` and `width`; GATE reads `item` as crossing. -/
structure RawBinding where
  item : Nat
  aspect : Nat
  start : Nat
  width : Nat
deriving DecidableEq, Repr

/-- The fields of POINT_DEFINE with a definition (R57, R176). -/
structure RawPoint where
  section_ : Nat
  normalSection : Nat
  normalEnd : Nat
  reverseSection : Nat
  reverseEnd : Nat
  pulse : Nat
deriving DecidableEq, Repr

/-- The fields of CROSSING_DEFINE with a definition (R58, R178). -/
structure RawCrossing where
  axis : Nat
  openDelay : Nat
  gateTimeout : Nat
  members : List Nat
deriving DecidableEq, Repr

/-- The fields of AXIS_CONFIG after the axis (R106, R176). -/
structure RawAxisConfig where
  kind : Nat
  maxSpeed : Nat
  accel : Nat
  creep : Nat
  spr : Nat
  offset : Nat
  tolerance : Nat
  low : Int
  high : Int
  openPos : Int
  closedPos : Int
deriving DecidableEq, Repr

/-- A cue step record of 14 bytes (R179). The wait value is its three bytes `w4`, `w5`, `w6`. -/
structure StepRec where
  action : Nat
  target : Nat
  flags : Nat
  waitKind : Nat
  w4 : Nat
  w5 : Nat
  w6 : Nat
  timeout : Nat
  p1 : Nat
  p2 : Nat
  p3 : Nat
deriving DecidableEq, Repr

/-- The fields of TRIGGER_SET after the trigger (R150, R175). `par1` and `par2` are the two source parameter bytes. -/
structure RawTrigger where
  enabled : Bool
  source : Nat
  par1 : Nat
  par2 : Nat
  player : Nat
  list : Nat
  policy : Nat
deriving DecidableEq, Repr

/-- The requests of the Show Link, with their fields as R176 and 12.5 order them. -/
inductive Request where
  | identify
  | status
  | reset (scope : Nat)
  | noticeMask (mask : Nat)
  | clockSetRate (p m q : Nat) (glide : Option Nat)
  | clockHold
  | clockRun
  | clockSetTime (target mode : Nat)
  | clockQuery
  | groupSetMode (group mode : Nat)
  | groupSetCurve (group : Nat) (points : List (Nat × Nat))
  | groupConfig (group rounding gamma : Nat)
  | groupSetLevel (group level duration base : Nat)
  | groupSetBlink (group form on off burst : Nat)
  | gammaWrite (table : Nat) (entries : List Nat)
  | gammaQuery (table : Nat)
  | channelConfig (channel group kind : Nat) (trim : Int) (binding : RawBinding) (warm restrike : Nat)
  | pwmMap (output : Nat) (channel : Option Nat)
  | chainLength (chain length : Nat)
  | segmentSet (segment chain first count channel : Nat)
  | segmentClear (segment : Nat)
  | groupQuery (group : Nat)
  | channelQuery (channel : Nat)
  | layoutOpen
  | layoutClose
  | sectionDefine (sec : Nat) (linkA linkB : RawLink) (clearance filter : Nat)
  | sectionForget (sec : Nat)
  | pointDefine (point : Nat) (d : Option RawPoint)
  | crossingDefine (crossing : Nat) (d : Option RawCrossing)
  | layoutQuery (cls index : Nat)
  | pointThrow (point position : Nat)
  | throwUnitConfig (recharge : Nat)
  | gateRetry (crossing : Nat)
  | sectionQuery (sec : Nat)
  | crossingQuery (crossing : Nat)
  | throwQuery
  | trainConfig (train maxSpeed accel decel : Nat)
  | trainPlace (train : Nat) (secs : List (Nat × Nat))
  | trainRemove (train : Nat)
  | trainSpeed (train speed : Nat)
  | trainStop (train : Nat)
  | trainRoute (train mode : Nat) (secs : List Nat)
  | trainRelease (train : Nat)
  | trainDirection (train : Nat)
  | trainClearFault (train : Nat)
  | trainQuery (train : Nat)
  | axisConfig (axis : Nat) (cfg : RawAxisConfig)
  | axisSpeed (axis speed direction : Nat)
  | axisStopAt (axis angle : Nat)
  | axisMove (axis : Nat) (position : Int)
  | axisHome (axis : Nat)
  | axisStop (axis : Nat)
  | axisQuery (axis : Nat)
  | listWrite (list first : Nat) (endFlag : Bool) (steps : List StepRec)
  | listErase (list : Nat)
  | listQuery (list first count : Nat)
  | playerStart (player list policy : Nat)
  | playerStop (player : Nat)
  | playerPause (player : Nat)
  | playerResume (player : Nat)
  | playerPriority (player priority : Nat)
  | playerQuery (player : Nat)
  | inputConfig (input debounce : Nat)
  | counterConfig (input mode edge reload : Nat)
  | inputQuery (input : Nat)
  | auxSet (output value : Nat)
  | auxQuery
  | triggerSet (trigger : Nat) (record : RawTrigger)
  | triggerEnable (trigger : Nat) (flag : Bool)
  | triggerQuery (trigger : Nat)
  | triggerClearCounts (trigger : Nat)
  | railProgram (program : Nat) (steps : List (Nat × Nat))
  | railRaise
  | railLower
  | railSet (pattern : Nat)
  | supplyQuery
deriving DecidableEq, Repr

/-- The commands of the part, one for each row of spec/opcode_table.json, in the table's order. A request's command is its
valid frame arriving on the Show Link, with the tag the show computer chose and the fields of its payload. The other
commands are the part's own steps; their operands name the item concerned and, where the step samples input pins, the levels read. -/
inductive Instr where
  | powerOn
  | resetPin
  | receiveByte (byte gapUs : Nat)
  | unknownKind (kind tag : Nat) (payload : List Nat)
  | transmitFrameEnd
  | identify (tag : Nat)
  | status (tag : Nat)
  | reset (tag scope : Nat)
  | noticeMask (tag mask : Nat)
  | clockSetRate (tag p m q : Nat) (glide : Option Nat)
  | clockHold (tag : Nat)
  | clockRun (tag : Nat)
  | clockSetTime (tag target mode : Nat)
  | clockQuery (tag : Nat)
  | realMillisecond
  | glideArrival
  | groupSetMode (tag group mode : Nat)
  | groupSetCurve (tag group : Nat) (points : List (Nat × Nat))
  | groupConfig (tag group rounding gamma : Nat)
  | groupSetLevel (tag group level duration base : Nat)
  | fadeDone (group : Nat)
  | groupSetBlink (tag group form on off burst : Nat)
  | gammaWrite (tag table : Nat) (entries : List Nat)
  | gammaQuery (tag table : Nat)
  | channelConfig (tag channel group kind : Nat) (trim : Int) (binding : RawBinding) (warm restrike : Nat)
  | pwmMap (tag output : Nat) (channel : Option Nat)
  | chainLength (tag chain length : Nat)
  | segmentSet (tag segment chain first count channel : Nat)
  | segmentClear (tag segment : Nat)
  | groupQuery (tag group : Nat)
  | channelQuery (tag channel : Nat)
  | lightFrame
  | blinkPhaseEnd (group : Nat)
  | sodiumWarmReached (channel : Nat)
  | sodiumCoolingEnd (channel : Nat)
  | layoutOpen (tag : Nat)
  | layoutClose (tag : Nat)
  | sectionDefine (tag sec : Nat) (linkA linkB : RawLink) (clearance filter : Nat)
  | sectionForget (tag sec : Nat)
  | pointDefine (tag point : Nat) (d : Option RawPoint)
  | crossingDefine (tag crossing : Nat) (d : Option RawCrossing)
  | layoutQuery (tag cls index : Nat)
  | detectorSample (levels : Nat)
  | detectorEnter (sec : Nat)
  | detectorLeave (sec : Nat)
  | clearanceExpiry (sec : Nat)
  | pointThrow (tag point position : Nat)
  | throwUnitConfig (tag recharge : Nat)
  | pulseEnd
  | rechargeEnd
  | openDelayExpiry (crossing : Nat)
  | gateTimeoutExpiry (crossing : Nat)
  | gateRetry (tag crossing : Nat)
  | sectionQuery (tag sec : Nat)
  | crossingQuery (tag crossing : Nat)
  | throwQuery (tag : Nat)
  | trainConfig (tag train maxSpeed accel decel : Nat)
  | trainPlace (tag train : Nat) (secs : List (Nat × Nat))
  | trainRemove (tag train : Nat)
  | trainSpeed (tag train speed : Nat)
  | trainStop (tag train : Nat)
  | trainRoute (tag train mode : Nat) (secs : List Nat)
  | trainRelease (tag train : Nat)
  | trainDirection (tag train : Nat)
  | trainClearFault (tag train : Nat)
  | trainQuery (tag train : Nat)
  | trainRampStep (train : Nat)
  | axisConfig (tag axis : Nat) (cfg : RawAxisConfig)
  | axisSpeed (tag axis speed direction : Nat)
  | axisStopAt (tag axis angle : Nat)
  | axisMove (tag axis : Nat) (position : Int)
  | axisHome (tag axis : Nat)
  | axisStop (tag axis : Nat)
  | axisQuery (tag axis : Nat)
  | axisUpdate (levels : Nat)
  | axisArrival (axis : Nat) (input : Bool)
  | speedReached (axis : Nat) (input : Bool)
  | stopModeRest (axis : Nat) (input : Bool)
  | indexConfirm (axis : Nat)
  | homeConfirm (axis : Nat)
  | indexMissing (axis : Nat) (input : Bool)
  | homeMissing (axis : Nat) (input : Bool)
  | listWrite (tag list first : Nat) (endFlag : Bool) (steps : List StepRec)
  | listErase (tag list : Nat)
  | listQuery (tag list first count : Nat)
  | playerStart (tag player list policy : Nat)
  | playerStop (tag player : Nat)
  | playerPause (tag player : Nat)
  | playerResume (tag player : Nat)
  | playerPriority (tag player priority : Nat)
  | playerQuery (tag player : Nat)
  | waitExpiry (player : Nat)
  | waitTimeout (player : Nat)
  | inputSample (levels : Nat)
  | inputEdge (input : Nat)
  | inputConfig (tag input debounce : Nat)
  | counterConfig (tag input mode edge reload : Nat)
  | inputQuery (tag input : Nat)
  | auxSet (tag output value : Nat)
  | auxQuery (tag : Nat)
  | triggerSet (tag trigger : Nat) (record : RawTrigger)
  | triggerEnable (tag trigger : Nat) (flag : Bool)
  | triggerQuery (tag trigger : Nat)
  | triggerClearCounts (tag trigger : Nat)
  | railProgram (tag program : Nat) (steps : List (Nat × Nat))
  | railRaise (tag : Nat)
  | railLower (tag : Nat)
  | railSet (tag pattern : Nat)
  | supplyQuery (tag : Nat)
  | railProgramStep
  | overloadSample (active : Bool)
  | overloadOnset
  | overloadClear
  | overloadEnd
  | quietTimerExpiry
  | dressingKeySample (on : Bool)
  | dressing
deriving DecidableEq, Repr

end Sys2Proof
end

