-- ==== Sys2Proof/Decode.lean ====
section
/-! DEFINITION. The commands that a word of the opcode table's bits spells: none, since the table gives no row any bits. A request's
frame bytes are read by Sys2Proof.Machine.parseRequest instead. -/

namespace Sys2Proof

/-- No row of the table gives bits, so no word spells a command. Log entry 13 (DEDUCED). -/
def decodeTableWord (_nbits _w : Nat) : Option Instr := none

end Sys2Proof
end

