-- ==== Sys2Proof/Config.lean ====
section
/-! DEFINITION. What is fixed for the machine: the capacities of the part (R171), the constants its rules name,
the bound on one handling's internal work, and the one value the spec leaves open. -/

namespace Sys2Proof.Config

/-- One town day in town milliseconds (R5, R10). -/
def dayMs : Nat := 86400000

/-- The room of the notice queue (R169). -/
def noticeRoom : Nat := 32

/-- The number of receive slots (R165). -/
def slotCount : Nat := 4

/-- The room for BUSY replies in the reply list (R165). -/
def busyRoom : Nat := 4

/-- The largest number of sections a train holds (R85, R93). -/
def heldRoom : Nat := 16

/-- The largest number of frames on a player's call stack (R136). -/
def callRoom : Nat := 4

/-- The largest number of frames on a player's repeat stack (R135). -/
def repeatRoom : Nat := 8

/-- The room of the throw queue (R74). -/
def throwRoom : Nat := 24

/-- The real milliseconds for which the overload input stays quiet before the cut-off ends (R159). -/
def overloadEndMs : Nat := 2000

/-- The real milliseconds after which the onset count is forgotten (R160). -/
def quietMs : Nat := 60000

/-- The consecutive samples that confirm the dressing key (R161). -/
def keySamples : Nat := 50

/-- The largest gap within a frame, in microseconds (R164). -/
def gapUs : Nat := 5000

/-- How many internal pieces of work one command carries out before it leaves the rest for the next: 2^128
(DESIGN CHOICE, log entry 5). It is far above what any handling that ends can make: at most 4 nested calls of lists of 32 steps and 8
nested repeats of 255 rounds a player, so only players that run for ever at one moment of real time reach it. -/
def settleFuel : Nat := 340282366920938463463374607431768211456

/-- FREE VALUE (log entry 20): the angle a ROTARY axis holds after an AXIS_CONFIG under which its former position is no
angle of the new revolution. The spec states no angle there; the model keeps R104's range by taking it modulo spr. -/
opaque openAngle : Int → Nat → Nat

end Sys2Proof.Config
end

