-- ==== Sys2Proof/Machine/State.lean ====
section
/-! DEFINITION. The state of the LZ-7260 as plain data: every record the chapters give the part, block by block, the input
and output pins, the queue of waiting commands, and the model's own bookkeeping (which periodic steps of the present
millisecond are still due, and which internal work of the present handling is still to do). -/

namespace Sys2Proof.Machine

/-! ## Town Clock (R1, R2) -/

/-- The clock state (R2). -/
inductive ClockState where
  | run
  | glide
  | held
deriving DecidableEq, Repr

/-- The clock record (R2) with the real-time count (R1). -/
structure Clock where
  /-- The real-time count, 32 bits (R1). -/
  rt : BitVec 32
  /-- Town time in town milliseconds, 0 to 86,399,999. -/
  town : Nat
  day : Nat
  state : ClockState
  p : Nat
  m : Nat
  q : Nat
  /-- The accumulator A. -/
  acc : Nat
  glideRate : Nat
  /-- The glide record: its target, when present. -/
  target : Option Nat
  /-- The second remainder. -/
  rem : Nat
deriving DecidableEq, Repr

/-! ## Light Engine (R19, R25, R27, R28, R33, R34) -/

/-- A group's mode (R19). -/
inductive GroupMode where
  | curve
  | fixed
  | dark
deriving DecidableEq, Repr

/-- A group's rounding mode (R39). -/
inductive Rounding where
  | nearestEven
  | down
  | up
  | towardZero
deriving DecidableEq, Repr

/-- What a fade is counted in (R23): light frames or town seconds. -/
inductive FadeBase where
  | real
  | town
deriving DecidableEq, Repr

/-- A fade record (R19). -/
structure Fade where
  fromLevel : Nat
  toLevel : Nat
  duration : Nat
  elapsed : Nat
  base : FadeBase
deriving DecidableEq, Repr

/-- A blink generator that is not off (R25, R26). `burst` is the remaining burst count, 0 for no end. -/
structure Blink where
  onFrames : Nat
  offFrames : Nat
  burst : Nat
  phaseOn : Bool
  counter : Nat
deriving DecidableEq, Repr

/-- A group record (R19). An absent day curve is the empty list. -/
structure Group where
  mode : GroupMode
  curve : List (Nat × Nat)
  level : Nat
  fade : Option Fade
  rounding : Rounding
  gamma : Fin 4
  blink : Option Blink
deriving DecidableEq, Repr

/-- The aspect a SIGNAL channel shows (R28, R30). -/
inductive Aspect where
  | proceed
  | stop
  | occupied
deriving DecidableEq, Repr

/-- A channel's kind with the binding that belongs to it (R28). -/
inductive ChannelKind where
  | plain
  | sodium
  | signal (sec : Fin 48) (aspect : Aspect)
  | chase (axis : Fin 8) (start width : Nat)
  | gate (crossing : Fin 4)
deriving DecidableEq, Repr

/-- The state of a sodium lamp (R31). -/
inductive Sodium where
  | cold
  | warming (k : Nat)
  | warm
  | cooling (c : Nat)
deriving DecidableEq, Repr

/-- A channel record (R28). The output place is not stored here: it is read from the PWM map and the segments. -/
structure Channel where
  group : Fin 32
  kind : ChannelKind
  trim : Int
  warmFrames : Nat
  restrikeFrames : Nat
  sodium : Sodium
  lastV : Nat
  lastW : Nat
  lastD : Nat
deriving DecidableEq, Repr

/-- A segment descriptor (R34). -/
structure Segment where
  chain : Fin 4
  first : Nat
  count : Nat
  channel : Nat
deriving DecidableEq, Repr

/-- The Light Engine's records. -/
structure Light where
  groups : Table Group 32
  channels : Table Channel 512
  gammas : Table (List Nat) 4
  pwm : Table (Option (Fin 512)) 16
  chainLen : Table Nat 4
  segments : Table (Option Segment) 16
deriving DecidableEq, Repr

/-! ## Track Controller and Occupancy Monitor (R51, R54, R57, R58, R65, R68, R74, R75, R77) -/

/-- The configuration state of the layout (R51). -/
inductive ConfigState where
  | unconfigured
  | editing
  | operational
deriving DecidableEq, Repr

/-- A section's end. -/
inductive End where
  | a
  | b
deriving DecidableEq, Repr

/-- The sense in which a train travels a section (R63). -/
inductive Sense where
  | aToB
  | bToA
deriving DecidableEq, Repr

/-- What an end of a section is linked to (R54). -/
inductive Link where
  | buffer
  | plain (sec : Fin 48) (fin : End)
  | point (p : Fin 24)
deriving DecidableEq, Repr

/-- A section's record of definition (R54). -/
structure SectionDef where
  present : Bool
  linkA : Link
  linkB : Link
  clearance : Nat
  filter : Nat
  crossing : Option (Fin 4)
deriving DecidableEq, Repr

/-- A section's running state with its holder and, in CLEARING, its clearance timer (R68); `none` while the layout is not
OPERATIONAL or the section is not present. -/
inductive SecState where
  | none
  | free
  | pending (t : Fin 8)
  | reserved (t : Fin 8)
  | occupied (t : Fin 8)
  | clearing (ms : Nat)
  | stray
deriving DecidableEq, Repr

/-- A section's running record: its state and its waiting list (R68, R69). -/
structure SectionRun where
  state : SecState
  waiting : List (Fin 8)
deriving DecidableEq, Repr

/-- A point's position (R57). -/
inductive Position where
  | normal
  | reverse
  | unknown
deriving DecidableEq, Repr

/-- A leg of a point: a section and an end. -/
structure Leg where
  sec : Fin 48
  fin : End
deriving DecidableEq, Repr

/-- A point's definition (R57). -/
structure PointDef where
  sec : Fin 48
  normal : Leg
  reverse : Leg
deriving DecidableEq, Repr

/-- A point record (R57). -/
structure Point where
  defn : Option PointDef
  position : Position
  pulse : Nat
deriving DecidableEq, Repr

/-- A crossing's definition (R58). -/
structure CrossingDef where
  axis : Fin 8
  members : List (Fin 48)
deriving DecidableEq, Repr

/-- A crossing record (R58). -/
structure Crossing where
  defn : Option CrossingDef
  openDelay : Nat
  gateTimeout : Nat
deriving DecidableEq, Repr

/-- A crossing's command to its gate, and its demand (R77). -/
inductive GateWish where
  | close
  | open_
deriving DecidableEq, Repr

/-- A crossing's gate timeout (R77). -/
inductive GateTimer where
  | absent
  | running (ms : Nat)
  | suspended (ms : Nat)
deriving DecidableEq, Repr

/-- A crossing's coupling record (R77). `retry` is set from an accepted GATE_RETRY until it completes
or fails, or another command to the gate or the interlock takes its place (R78, R79). -/
structure Coupling where
  demand : GateWish
  last : Option GateWish
  openDelay : Option Nat
  timeout : GateTimer
  retry : Bool
deriving DecidableEq, Repr

/-- Who wanted a throw (R74). -/
inductive ThrowOrigin where
  | grant (t : Fin 8) (sec : Fin 48)
  | request
deriving DecidableEq, Repr

/-- An entry of the throw queue (R74). -/
structure ThrowEntry where
  point : Fin 24
  position : Position
  origin : ThrowOrigin
deriving DecidableEq, Repr

/-- The discharge unit (R75). A pulse keeps the position it carries and the train whose grant in flight it serves, if any. -/
inductive ThrowUnit where
  | ready
  | pulsing (point : Fin 24) (position : Position) (ms : Nat) (serves : Option (Fin 8))
  | recharging (ms : Nat)
deriving DecidableEq, Repr

/-- A detector record (R65): the confirmed state and, for EMPTY, the occupied run in samples, for OCCUPIED the empty run in ms. -/
structure Detector where
  occupied : Bool
  progress : Nat
deriving DecidableEq, Repr

/-- The Track Controller's and the Occupancy Monitor's records. -/
structure Track where
  config : ConfigState
  defs : Table SectionDef 48
  runs : Table SectionRun 48
  points : Table Point 24
  crossings : Table Crossing 4
  couplings : Table (Option Coupling) 4
  queue : List ThrowEntry
  unit_ : ThrowUnit
  recharge : Nat
  detectors : Table Detector 48
deriving DecidableEq, Repr

/-! ## Train Controller (R85) -/

/-- The reservation mode (R85). -/
inductive ReserveMode where
  | autoRelease
  | hold
deriving DecidableEq, Repr

/-- A train's claim (R85). A waiting claim keeps the end at which the train will enter. -/
inductive Claim where
  | none
  | waiting (sec : Fin 48) (entered : End)
  | granted (sec : Fin 48)
deriving DecidableEq, Repr

/-- The stop reason (R85). -/
inductive StopReason where
  | none
  | request
  | authority
  | rail
  | overload
  | dressing
deriving DecidableEq, Repr

/-- The halt fault (R85). -/
inductive HaltFault where
  | overrun
  | lost
  | conflict
deriving DecidableEq, Repr

/-- The direction of a train's next speed step (R96). -/
inductive RampDir where
  | level
  | up
  | down
deriving DecidableEq, Repr

/-- A train record (R85). The state UNPLACED, STANDING, RUNNING or HALTED follows from `placed`, `halt` and `speed` (R86).
`dir` is the direction of the needed step as last worked out, and `stepDue` marks a ramp step of the present millisecond. -/
structure Train where
  placed : Bool
  requested : Nat
  speed : Nat
  maxSpeed : Nat
  accel : Nat
  decel : Nat
  timer : Nat
  mode : ReserveMode
  /-- The held list, rear to front. -/
  held : List (Fin 48 × Sense)
  /-- The route queue, each section with its entered end. -/
  queue : List (Fin 48 × End)
  claim : Claim
  routeEnd : Option (Fin 48)
  stop : StopReason
  halt : Option HaltFault
  dir : RampDir
  stepDue : Bool
deriving DecidableEq, Repr

/-! ## Motion Controller (R104) -/

/-- An axis's kind (R104). -/
inductive AxisKind where
  | rotary
  | positional
  | gate
deriving DecidableEq, Repr

/-- An axis's state (R105). -/
inductive AxisState where
  | unhomed
  | idle
  | moving
  | homing
  | held
  | fault
deriving DecidableEq, Repr

/-- A direction of travel (R104). -/
inductive Dir where
  | forward
  | reverse
deriving DecidableEq, Repr

/-- What a moving axis is doing (R104): the motion mode with the wanted speed or the target that belongs to it. A ROTARY
stop-at keeps its stop angle and remaining distance. -/
inductive Motion where
  | none
  | speed (wanted : Nat) (dir : Dir)
  | position (target : Int)
  | stopAt (angle : Nat) (remaining : Nat)
  | stop
  | home
deriving DecidableEq, Repr

/-- The phase (R104). -/
inductive Phase where
  | cruise
  | reversing
deriving DecidableEq, Repr

/-- A gate goal (R104). -/
inductive GateGoal where
  | none
  | open_
  | closed
deriving DecidableEq, Repr

/-- An axis fault code (R104). -/
inductive AxisFaultCode where
  | indexMissing
  | homeMissing
  | gateTimeout
deriving DecidableEq, Repr

/-- The derived state of a gate (R118). -/
inductive GateState where
  | unknown
  | open_
  | closed
  | closing
  | opening
deriving DecidableEq, Repr

/-- An axis record (R104). `met` marks a wanted speed already reported (R111), `resume` a goal to carry out at the first
update after a WARM reset (R121), and `reported` the gate state last derived (R118). -/
structure Axis where
  kind : AxisKind
  maxSpeed : Nat
  accel : Nat
  creep : Nat
  spr : Nat
  offset : Nat
  tolerance : Nat
  low : Int
  high : Int
  openPos : Int
  closedPos : Int
  state : AxisState
  homed : Bool
  v : Nat
  dir : Dir
  pos : Int
  f : Nat
  motion : Motion
  phase : Phase
  goal : GateGoal
  indexRun : Nat
  armed : Bool
  travel : Nat
  homeRun : Nat
  homeTravel : Nat
  fault : Option AxisFaultCode
  met : Bool
  resume : Bool
  reported : GateState
deriving DecidableEq, Repr

/-! ## Events (introduction, 12.3) -/

/-- The reason of a ROUTE_FAULT (R70, R72, R82). -/
inductive RouteReason where
  | noThrow
  | released
  | halted
deriving DecidableEq, Repr

/-- A player fault code (R138). -/
inductive PlayerFaultCode where
  | waitTimeout
  | targetRefused
  | routeFault
  | axisFault
  | stackOverflow
  | listNotReady
  | recursion
  | repeatOverflow
deriving DecidableEq, Repr

/-- An input edge (R144). -/
inductive Edge where
  | rising
  | falling
deriving DecidableEq, Repr

/-- A supply rail (R154). -/
inductive Rail where
  | track
  | motion
  | lights
  | aux
deriving DecidableEq, Repr

/-- A rail program (R155). -/
inductive Program where
  | raise
  | lower
deriving DecidableEq, Repr

/-- The phase an OVERLOAD event reports (R159, R160). -/
inductive OverloadPhase where
  | begin
  | finish
  | lockout
deriving DecidableEq, Repr

/-- Why a frame was rejected (R164, R165). -/
inductive RejectReason where
  | length
  | gap
  | check
  | noRoom
deriving DecidableEq, Repr

/-- Why the part started (R170). -/
inductive StartCause where
  | powerOn
  | resetPin
  | coldRequest
deriving DecidableEq, Repr

/-- The events, each with the items of its parentheses. -/
inductive Event where
  | townMinute (m : Nat)
  | townDay (day : Nat)
  | timeJumped (old new : Nat)
  | clockLocked
  | fadeDone (group : Fin 32)
  | blinkDone (group : Fin 32)
  | sectionEnter (s : Fin 48) (t : Fin 8)
  | sectionLeave (s : Fin 48) (t : Fin 8)
  | sectionFree (s : Fin 48)
  | straySeen (s : Fin 48)
  | routeReady (t : Fin 8) (s : Fin 48)
  | routeFault (t : Fin 8) (reason : RouteReason)
  | pointSet (p : Fin 24) (position : Position)
  | trainStopped (t : Fin 8) (reason : StopReason)
  | trainHalted (t : Fin 8) (fault : HaltFault)
  | axisDone (a : Fin 8)
  | axisIndex (a : Fin 8) (error : Int) (slip : Bool)
  | axisFault (a : Fin 8) (code : AxisFaultCode)
  | gateState (c : Fin 4) (state : GateState)
  | cueMark (value : Nat)
  | playerEnd (p : Fin 8)
  | playerFault (p : Fin 8) (code : PlayerFaultCode)
  | playerDisplaced (p : Fin 8) (target : Fin 57)
  | inputEdge (i : Fin 8) (edge : Edge)
  | inputCount (i : Fin 8)
  | railChange (rail : Rail) (up : Bool)
  | railDone (program : Program)
  | overload (phase : OverloadPhase)
  | dressing (on : Bool)
  | frameReject (reason : RejectReason)
  | noticesLost (count : Nat)
  | started (cause : StartCause)
deriving DecidableEq, Repr

/-- An ending that an owning block hands to the Cue Engine; no event (R12, R24, R92, R119). -/
inductive Ending where
  | glide
  | fade (group : Fin 32)
  | route (t : Fin 8)
  | axis (a : Fin 8)
deriving DecidableEq, Repr

/-! ## Cue Engine (R123, R129, R131) -/

/-- A cue list's state (R123). -/
inductive ListState where
  | empty
  | writing
  | ready
deriving DecidableEq, Repr

/-- A cue list record (R123). -/
structure CueList where
  state : ListState
  length : Nat
  steps : Table StepRec 32
deriving DecidableEq, Repr

/-- A player's state (R129). -/
inductive PlayerState where
  | idle
  | running
  | waiting
  | blocked
  | paused
  | fault
deriving DecidableEq, Repr

/-- What an EVENT wait or an until-condition names: an event code and a subject, or ANY subject (R130). -/
structure EventSpec where
  code : Nat
  subject : Option Nat
deriving DecidableEq, Repr

/-- What a wait is still waiting for (R130). An EVENT wait keeps the timeout its step gave and what remains of it. -/
inductive WaitKind where
  | realMs (left : Nat)
  | townSeconds (left : Nat)
  | townAt (minute : Nat)
  | event (spec : EventSpec) (timeout : Option (Nat × Nat))
deriving DecidableEq, Repr

/-- A wait record (R129): `since` is the arrival number of the first event that can meet it (R130). -/
structure WaitRec where
  kind : WaitKind
  since : Nat
deriving DecidableEq, Repr

/-- What an await expects (R133). -/
inductive Expect where
  | fade (group : Fin 32)
  | route (t : Fin 8) (last : Nat)
  | axis (a : Fin 8)
  | glide
deriving DecidableEq, Repr

/-- What came of an await (R133). -/
inductive AwaitOutcome where
  | completed
  | failed (code : PlayerFaultCode) (detail : Nat)
deriving DecidableEq, Repr

/-- An await record (R129): the issued action, what completes it, and the outcome recorded while PAUSED (R140). `since` is
the arrival number after the action's own handling: an ending that arrived before it ended an earlier operation. -/
structure AwaitRec where
  action : Nat
  target : Nat
  expect : Expect
  since : Nat
  outcome : Option AwaitOutcome
deriving DecidableEq, Repr

/-- A repeat frame (R135). -/
structure RepeatFrame where
  begin : Nat
  remaining : Nat
  until_ : Option EventSpec
  seen : Bool
  depth : Nat
deriving DecidableEq, Repr

/-- What a BLOCKED player is blocked on (R129). -/
inductive Blocked where
  | target (x : Fin 57)
  | interlock
deriving DecidableEq, Repr

/-- A start policy (R139). -/
inductive Policy where
  | replace
  | skip
  | queue
deriving DecidableEq, Repr

/-- A player's recorded fault (R138). -/
structure PlayerFault where
  code : PlayerFaultCode
  detail : Nat
  list : Fin 64
  step : Nat
deriving DecidableEq, Repr

/-- A player record (R129). The held targets are read from the holder table. The call and repeat stacks have their top first. -/
structure Player where
  priority : Nat
  state : PlayerState
  cur : Option (Fin 64 × Nat)
  calls : List (Fin 64 × Nat)
  repeats : List RepeatFrame
  wait : Option WaitRec
  await : Option AwaitRec
  blocked : Option Blocked
  pendingStart : Option (Fin 64 × Policy)
  fault : Option PlayerFault
  prePause : Option PlayerState
deriving DecidableEq, Repr

/-- The Cue Engine's records. -/
structure Cue where
  lists : Table CueList 64
  players : Table Player 8
  holders : Table (Option (Fin 8)) 57
deriving DecidableEq, Repr

/-! ## Trigger Unit (R143, R146, R149, R150) -/

/-- An input conditioner (R143). -/
structure Conditioner where
  debounce : Nat
  high : Bool
  run : Nat
  initialized : Bool
deriving DecidableEq, Repr

/-- A counter's mode (R146). -/
inductive CounterMode where
  | off
  | reload
  | oneShot
deriving DecidableEq, Repr

/-- An input counter (R146). -/
structure Counter where
  mode : CounterMode
  edge : Edge
  reload : Nat
  count : Nat
deriving DecidableEq, Repr

/-- A trigger source (R151). -/
inductive Source where
  | townAt (minute : Nat)
  | townDay
  | inputEdge (i : Fin 8) (edge : Edge)
  | inputCount (i : Fin 8)
  | sectionEnter (s : Fin 48) (t : Option (Fin 8))
  | axisIndex (a : Fin 8)
  | cueMark (value : Nat)
  | dressingEnd
  | railDone (program : Program)
deriving DecidableEq, Repr

/-- A request's result code (introduction, R173). -/
inductive ResultCode where
  | ok
  | accepted
  | unknownKind
  | badLength
  | outOfRange
  | wrongState
  | notAdjacent
  | inUse
  | interlocked
  | busy
  | invalid
deriving DecidableEq, Repr

/-- A trigger's last outcome (R150), and the outcome of a start (R139). -/
inductive StartOutcome where
  | none
  | started
  | replaced
  | skipped
  | queued
  | refused (code : ResultCode)
deriving DecidableEq, Repr

/-- A trigger record (R150). -/
structure Trigger where
  enabled : Bool
  source : Source
  player : Fin 8
  list : Fin 64
  policy : Policy
  fires : Nat
  suppressed : Nat
  last : StartOutcome
  applied : Bool
deriving DecidableEq, Repr

/-- The Trigger Unit's records. -/
structure Trig where
  inputs : Table Conditioner 8
  counters : Table Counter 8
  aux : Table Bool 8
  triggers : Table Trigger 32
deriving DecidableEq, Repr

/-! ## Supply Sequencer (R154 to R161) -/

/-- Which rails are UP: the rail states, and a rail pattern (R154, R172). -/
structure Rails where
  track : Bool
  motion : Bool
  lights : Bool
  aux : Bool
deriving DecidableEq, Repr

/-- The sequencer (R156), with the step in progress and what remains of its delay. -/
inductive Sequencer where
  | idle
  | active (program : Program) (step : Fin 8) (ms : Nat)
deriving DecidableEq, Repr

/-- The Supply Sequencer's records. The dressing interlock is ENGAGED exactly while the confirmed key state is ON (R161). -/
structure Supply where
  rails : Rails
  raise : Table (Nat × Rails) 8
  lower : Table (Nat × Rails) 8
  seq : Sequencer
  overload : Bool
  overloadRun : Nat
  cutoff : Bool
  endTimer : Option Nat
  onsets : Nat
  quiet : Option Nat
  keyOn : Bool
  keyRun : Nat
deriving DecidableEq, Repr

/-! ## Show Link (R163 to R170) -/

/-- A reset's scope (R170). -/
inductive Scope where
  | warm
  | cold
deriving DecidableEq, Repr

/-- A reply's result: its code, its CLAMPED flag and its data (R166). -/
structure Answer where
  code : ResultCode
  clamped : Bool
  data : List Byte
deriving DecidableEq, Repr

/-- What the payload of a valid frame asks for (R166): a request, or the reason it reaches no block. -/
inductive Body where
  | request (r : Request)
  | unknownKind
  | badLength
deriving DecidableEq, Repr

/-- A valid frame: its kind, its tag and what its payload asks for. -/
structure Frame where
  kind : Nat
  tag : Nat
  body : Body
deriving DecidableEq, Repr

/-- An occupied receive slot (R165); `taken` once its request has been taken. -/
structure Slot where
  frame : Frame
  taken : Bool
deriving DecidableEq, Repr

/-- Which slot a reply answers for: a taken request's, none for a BUSY reply, or the RESET that waits for its own reply. -/
inductive ReplyOf where
  | request
  | busy
  | reset (scope : Scope)
deriving DecidableEq, Repr

/-- A reply of the reply list (R166). -/
structure Reply where
  kind : Nat
  tag : Nat
  answer : Answer
  origin : ReplyOf
deriving DecidableEq, Repr

/-- A notice (R14, R167): the event, and its stamps: the real-time count, the town time in seconds and the day count when the event was
raised. The record of R174 has no field for the day count. Log entry 47 (DESIGN CHOICE). -/
structure Notice where
  event : Event
  stamp : BitVec 32
  townSeconds : Nat
  day : Nat
deriving DecidableEq, Repr

/-- The receiver (R164): HUNTING, or IN_FRAME at the length byte, or IN_FRAME with the length and the bytes received after
it (kind, tag, payload, check), in order. -/
inductive Receiver where
  | hunting
  | atLength
  | inFrame (length : Nat) (bytes : List Byte)
deriving DecidableEq, Repr

/-- The transmitter (R167): IDLE, or SENDING a reply or a notice. -/
inductive Transmitter where
  | idle
  | reply (r : Reply)
  | notice (n : Notice)
deriving DecidableEq, Repr

/-- The Show Link's records. -/
structure ShowLink where
  rx : Receiver
  slots : List Slot
  replies : List Reply
  notices : List Notice
  mask : BitVec 9
  lost : Nat
  tx : Transmitter
  /-- The reset that waits to take effect (R170). -/
  resetWaiting : Option Scope
deriving DecidableEq, Repr

/-! ## Pins -/

/-- The input pins' levels, as last presented by a step that reads them: detectors, index or home inputs, window inputs, the
overload input and the dressing key. -/
structure Pins where
  detect : BitVec 48
  index : BitVec 8
  window : BitVec 8
  overload : Bool
  key : Bool
deriving DecidableEq, Repr

/-- The outputs that hold what a periodic event last sent: the PWM outputs' duties and the chain ports' words of the last
light frame (R35), and each axis's step pulses of the last axis update (R107). The other output lines are functions of the state. -/
structure Outs where
  pwm : Table Nat 16
  chains : Table (List (BitVec 16)) 4
  pulses : Table Nat 8
deriving DecidableEq, Repr

/-! ## The model's own bookkeeping -/

/-- Which periodic steps of the present real millisecond are still to be taken (log entry 2). -/
structure Sched where
  light : Bool
  detect : BitVec 48
  axes : BitVec 8
  inputs : BitVec 8
  overload : Bool
  key : Bool
deriving DecidableEq, Repr

/-- Where a player's run goes on (R128): at the step's wait, at its contention, after its action, or in a fault. -/
inductive Stage where
  | wait
  | contend
  | advance
  | fail (code : PlayerFaultCode) (detail : Nat)
deriving DecidableEq, Repr

/-- A piece of work of the handling in progress (log entry 4). -/
inductive Task where
  /-- Test whether a train claims its next section (R93). -/
  | claim (t : Fin 8)
  /-- Test a grant in flight for completion (R71). -/
  | complete (t : Fin 8)
  /-- Examine the head of the throw queue (R75). -/
  | examine
  /-- The clearance of a section has run out (R73). -/
  | expire (s : Fin 48)
  /-- The Track Controller takes a GATE_STATE (R71, R78). -/
  | gateSeen (c : Fin 4) (state : GateState)
  /-- A player's run goes on (R128). -/
  | run (p : Fin 8) (stage : Stage)
deriving DecidableEq, Repr

/-- What is held for the players until the run in progress stops (R128): an event or an ending. -/
inductive CueItem where
  | event (e : Event)
  | ending (x : Ending)
deriving DecidableEq, Repr

/-- The work of the handling in progress: the blocks' own work and the run in progress (`stack`, next first), the runs still
to be started (`runs`), the held events and endings with their arrival numbers (`held`), the triggers still to be applied
for the event the Trigger Unit is working on (`matched`), the events it has still to take (`events`), and the next arrival number. -/
structure Work where
  stack : List Task
  runs : List (Fin 8 × Stage)
  held : List (Nat × CueItem)
  matched : List (Fin 32)
  events : List Event
  arrival : Nat
deriving DecidableEq, Repr

/-- No work is left over. -/
def Work.isClear (w : Work) : Bool :=
  w.stack.isEmpty && w.runs.isEmpty && w.held.isEmpty && w.matched.isEmpty && w.events.isEmpty

/-! ## The state -/

/-- The state of the part. -/
structure State where
  clock : Clock
  light : Light
  track : Track
  trains : Table Train 8
  axes : Table Axis 8
  cue : Cue
  trig : Trig
  supply : Supply
  link : ShowLink
  pins : Pins
  outs : Outs
  sched : Sched
  work : Work
  /-- The commands that are waiting, first in, first out. -/
  pending : List Instr
deriving DecidableEq, Repr

/-- Why the machine stops. -/
inductive Fault where
  /-- Raised by any command whose predecessor left a handling unfinished that still does not finish within the bound of
  Config.settleFuel: players that start each other, or loop without a wait, for ever at one moment of real time. The spec
  gives no effect that would end such a run. Safe: the machine stops where the hardware may go on. -/
  | endlessRun
deriving DecidableEq, Repr

/-- Why a command has no meaning. -/
inductive Refusal where
  /-- Raised by no meaning: it stands for a row of the table without one, and every row has its meaning. Safe. -/
  | notModelled (mnemonic : String)
deriving DecidableEq, Repr

/-! ## Power-on values -/

/-- The clock record after power-on (R1, R2). -/
def Clock.initial : Clock :=
  { rt := 0, town := 43200000, day := 0, state := .run, p := 1, m := 1, q := 1, acc := 0, glideRate := 1200, target := none, rem := 0 }

/-- A group record after power-on (R19). -/
def Group.initial : Group :=
  { mode := .fixed, curve := [], level := 0, fade := none, rounding := .nearestEven, gamma := 0, blink := none }

/-- A channel record after power-on (R28). -/
def Channel.initial : Channel :=
  { group := 0, kind := .plain, trim := 0, warmFrames := 0, restrikeFrames := 0, sodium := .cold, lastV := 0, lastW := 0, lastD := 0 }

/-- Gamma table 0 after power-on (R27). -/
def gammaCurved : List Nat := [0, 2, 11, 26, 48, 79, 118, 166, 223, 289, 364, 449, 543, 648, 763, 888, 1023]

/-- Gamma tables 1 to 3 after power-on (R27). -/
def gammaLinear : List Nat := [0, 64, 128, 192, 256, 320, 384, 448, 512, 575, 639, 703, 767, 831, 895, 959, 1023]

/-- The Light Engine after power-on (R19, R27, R28, R33, R34). -/
def Light.initial : Light :=
  { groups := .replicate 32 Group.initial
    channels := .replicate 512 Channel.initial
    gammas := .ofFn fun i => if i = 0 then gammaCurved else gammaLinear
    pwm := .replicate 16 none
    chainLen := .replicate 4 0
    segments := .replicate 16 none }

/-- A section's definition after power-on (R54). -/
def SectionDef.initial : SectionDef :=
  { present := false, linkA := .buffer, linkB := .buffer, clearance := 500, filter := 300, crossing := none }

/-- The Track Controller and the Occupancy Monitor after power-on (R51, R54, R57, R58, R65, R74, R75). -/
def Track.initial : Track :=
  { config := .unconfigured
    defs := .replicate 48 SectionDef.initial
    runs := .replicate 48 { state := .none, waiting := [] }
    points := .replicate 24 { defn := none, position := .unknown, pulse := 200 }
    crossings := .replicate 4 { defn := none, openDelay := 1000, gateTimeout := 4000 }
    couplings := .replicate 4 none
    queue := []
    unit_ := .ready
    recharge := 800
    detectors := .replicate 48 { occupied := false, progress := 0 } }

/-- A train record after power-on (R85). -/
def Train.initial : Train :=
  { placed := false, requested := 0, speed := 0, maxSpeed := 255, accel := 20, decel := 10, timer := 0, mode := .autoRelease
    held := [], queue := [], claim := .none, routeEnd := none, stop := .none, halt := none, dir := .level, stepDue := false }

/-- An axis record after power-on (R104). -/
def Axis.initial : Axis :=
  { kind := .rotary, maxSpeed := 1000, accel := 10, creep := 50, spr := 3200, offset := 0, tolerance := 20
    low := -10000, high := 10000, openPos := 0, closedPos := 1000, state := .unhomed, homed := false, v := 0, dir := .forward
    pos := 0, f := 0, motion := .none, phase := .cruise, goal := .none, indexRun := 0, armed := true, travel := 0
    homeRun := 0, homeTravel := 0, fault := none, met := false, resume := false, reported := .unknown }

/-- A NONE step (R123). -/
def noneStep : StepRec :=
  { action := 0, target := 0, flags := 0, waitKind := 0, w4 := 0, w5 := 0, w6 := 0, timeout := 0, p1 := 0, p2 := 0, p3 := 0 }

/-- A cue list after power-on (R123). -/
def CueList.initial : CueList := { state := .empty, length := 0, steps := .replicate 32 noneStep }

/-- A player after power-on or a WARM reset, with its priority (R129). -/
def Player.initial (priority : Nat) : Player :=
  { priority := priority, state := .idle, cur := none, calls := [], repeats := [], wait := none, await := none, blocked := none
    pendingStart := none, fault := none, prePause := none }

/-- The Cue Engine after power-on (R123, R129, R131). -/
def Cue.initial : Cue :=
  { lists := .replicate 64 CueList.initial, players := .ofFn fun p => Player.initial p.1, holders := .replicate 57 none }

/-- A trigger after power-on (R150). -/
def Trigger.initial : Trigger :=
  { enabled := false, source := .townDay, player := 0, list := 0, policy := .skip, fires := 0, suppressed := 0, last := .none, applied := false }

/-- The Trigger Unit after power-on (R143, R146, R149, R150). The spec takes an input's confirmed level from its first sample;
until then it stands LOW here (DESIGN CHOICE, log entry 10). -/
def Trig.initial : Trig :=
  { inputs := .replicate 8 { debounce := 20, high := false, run := 0, initialized := false }
    counters := .replicate 8 { mode := .off, edge := .rising, reload := 0, count := 0 }
    aux := .replicate 8 false
    triggers := .replicate 32 Trigger.initial }

/-- The RAISE program after power-on (R155). -/
def raiseInitial : Table (Nat × Rails) 8 :=
  ⟨[(0, ⟨false, false, false, true⟩), (9, ⟨false, false, true, true⟩), (10, ⟨false, true, true, true⟩), (10, ⟨true, true, true, true⟩),
    (0, ⟨true, true, true, true⟩), (0, ⟨true, true, true, true⟩), (0, ⟨true, true, true, true⟩), (0, ⟨true, true, true, true⟩)], rfl⟩

/-- The LOWER program after power-on (R155). -/
def lowerInitial : Table (Nat × Rails) 8 :=
  ⟨[(0, ⟨false, true, true, true⟩), (8, ⟨false, false, true, true⟩), (9, ⟨false, false, false, true⟩), (9, ⟨false, false, false, false⟩),
    (0, ⟨false, false, false, false⟩), (0, ⟨false, false, false, false⟩), (0, ⟨false, false, false, false⟩), (0, ⟨false, false, false, false⟩)], rfl⟩

/-- The Supply Sequencer after power-on (R154, R155, R156, R159, R160, R161). -/
def Supply.initial : Supply :=
  { rails := ⟨false, false, false, false⟩, raise := raiseInitial, lower := lowerInitial, seq := .idle
    overload := false, overloadRun := 0, cutoff := false, endTimer := none, onsets := 0, quiet := none, keyOn := false, keyRun := 0 }

/-- The notice mask after power-on: every class but CLOCK (R168). -/
def initialMask : BitVec 9 := 0x1FE

/-- The Show Link after a start (R164, R165, R168, R169, R170): STARTED(cause) is the first notice queued, and the idle
transmitter picks it at once (R167). -/
def ShowLink.initial (cause : StartCause) : ShowLink :=
  { rx := .hunting, slots := [], replies := [], notices := [], mask := initialMask, lost := 0
    tx := .notice { event := .started cause, stamp := 0, townSeconds := 43200, day := 0 }, resetWaiting := none }

/-- The outputs before the first light frame and axis update: 0 on every one (R33, R34). -/
def Outs.initial : Outs := { pwm := .replicate 16 0, chains := .replicate 4 [], pulses := .replicate 8 0 }

/-- No periodic step is due: the first real millisecond is still to come. -/
def Sched.initial : Sched := { light := false, detect := 0, axes := 0, inputs := 0, overload := false, key := false }

/-- No work. -/
def Work.initial : Work := { stack := [], runs := [], held := [], matched := [], events := [], arrival := 0 }

/-- The part after a start from the given cause, with the given input levels and waiting commands: every block at its
power-on values (R170). Log entry 12 (DESIGN CHOICE). -/
def State.start (cause : StartCause) (pins : Pins) (pending : List Instr) : State :=
  { clock := Clock.initial, light := Light.initial, track := Track.initial, trains := .replicate 8 Train.initial
    axes := .replicate 8 Axis.initial, cue := Cue.initial, trig := Trig.initial, supply := Supply.initial
    link := ShowLink.initial cause, pins := pins, outs := Outs.initial, sched := Sched.initial, work := Work.initial, pending := pending }

/-- The input levels at reset: every input at rest (DESIGN CHOICE, log entry 10; the pins are the outside's). -/
def Pins.initial : Pins := { detect := 0, index := 0, window := 0, overload := false, key := false }

/-- The machine right after power-on. -/
def State.reset : State := State.start .powerOn Pins.initial []

end Sys2Proof.Machine
end

