-- ==== Sys2Proof/Machine/Codes.lean ====
section
/-! DEFINITION. The numbers that stand for the part's enumerations (R172, R173, R174, R180), the class, subject and details
of every event (introduction, R174), and the readings of an enumeration's number as it comes in a request. -/

namespace Sys2Proof.Machine

/-! ## Result codes and kinds (R173, R175) -/

/-- A result code's number (R173); 8 is not used. -/
def ResultCode.code : ResultCode → Nat
  | .ok => 0
  | .accepted => 1
  | .unknownKind => 2
  | .badLength => 3
  | .outOfRange => 4
  | .wrongState => 5
  | .notAdjacent => 6
  | .inUse => 7
  | .interlocked => 9
  | .busy => 10
  | .invalid => 11

/-! ## Enumerations numbered in the order their rules list them (R172) -/

def ClockState.code : ClockState → Nat
  | .run => 0
  | .glide => 1
  | .held => 2

def GroupMode.code : GroupMode → Nat
  | .curve => 0
  | .fixed => 1
  | .dark => 2

def Rounding.code : Rounding → Nat
  | .nearestEven => 0
  | .down => 1
  | .up => 2
  | .towardZero => 3

def FadeBase.code : FadeBase → Nat
  | .real => 0
  | .town => 1

def Aspect.code : Aspect → Nat
  | .proceed => 0
  | .stop => 1
  | .occupied => 2

def ChannelKind.code : ChannelKind → Nat
  | .plain => 0
  | .sodium => 1
  | .signal _ _ => 2
  | .chase _ _ _ => 3
  | .gate _ => 4

def Sodium.code : Sodium → Nat
  | .cold => 0
  | .warming _ => 1
  | .warm => 2
  | .cooling _ => 3

def ConfigState.code : ConfigState → Nat
  | .unconfigured => 0
  | .editing => 1
  | .operational => 2

def End.code : End → Nat
  | .a => 0
  | .b => 1

def Sense.code : Sense → Nat
  | .aToB => 0
  | .bToA => 1

def Position.code : Position → Nat
  | .normal => 0
  | .reverse => 1
  | .unknown => 2

def GateWish.code : GateWish → Nat
  | .close => 0
  | .open_ => 1

def ReserveMode.code : ReserveMode → Nat
  | .autoRelease => 0
  | .hold => 1

def AxisKind.code : AxisKind → Nat
  | .rotary => 0
  | .positional => 1
  | .gate => 2

def AxisState.code : AxisState → Nat
  | .unhomed => 0
  | .idle => 1
  | .moving => 2
  | .homing => 3
  | .held => 4
  | .fault => 5

def Dir.code : Dir → Nat
  | .forward => 0
  | .reverse => 1

def ListState.code : ListState → Nat
  | .empty => 0
  | .writing => 1
  | .ready => 2

def PlayerState.code : PlayerState → Nat
  | .idle => 0
  | .running => 1
  | .waiting => 2
  | .blocked => 3
  | .paused => 4
  | .fault => 5

def CounterMode.code : CounterMode → Nat
  | .off => 0
  | .reload => 1
  | .oneShot => 2

/-- A rail's number (R172). -/
def Rail.code : Rail → Nat
  | .track => 0
  | .motion => 1
  | .lights => 2
  | .aux => 3

/-- A rail pattern as one byte: bit n set for rail n (R172). -/
def Rails.code (r : Rails) : Nat :=
  r.track.toNat + 2 * r.motion.toNat + 4 * r.lights.toNat + 8 * r.aux.toNat

/-- The rail pattern of a byte; its upper four bits are ignored (R172). -/
def railsOf (x : Nat) : Rails :=
  { track := x.testBit 0, motion := x.testBit 1, lights := x.testBit 2, aux := x.testBit 3 }

/-! ## Enumerations of R180 -/

def RouteReason.code : RouteReason → Nat
  | .noThrow => 0
  | .released => 1
  | .halted => 2

def StopReason.code : StopReason → Nat
  | .none => 0
  | .request => 1
  | .authority => 2
  | .rail => 3
  | .overload => 4
  | .dressing => 5

def HaltFault.code : HaltFault → Nat
  | .overrun => 0
  | .lost => 1
  | .conflict => 2

def AxisFaultCode.code : AxisFaultCode → Nat
  | .indexMissing => 0
  | .homeMissing => 1
  | .gateTimeout => 2

def GateState.code : GateState → Nat
  | .unknown => 0
  | .open_ => 1
  | .closed => 2
  | .closing => 3
  | .opening => 4

def PlayerFaultCode.code : PlayerFaultCode → Nat
  | .waitTimeout => 0
  | .targetRefused => 1
  | .routeFault => 2
  | .axisFault => 3
  | .stackOverflow => 4
  | .listNotReady => 5
  | .recursion => 6
  | .repeatOverflow => 7

def Edge.code : Edge → Nat
  | .rising => 0
  | .falling => 1

def Program.code : Program → Nat
  | .raise => 0
  | .lower => 1

def OverloadPhase.code : OverloadPhase → Nat
  | .begin => 0
  | .finish => 1
  | .lockout => 2

def RejectReason.code : RejectReason → Nat
  | .length => 0
  | .gap => 1
  | .check => 2
  | .noRoom => 3

def StartCause.code : StartCause → Nat
  | .powerOn => 0
  | .resetPin => 1
  | .coldRequest => 2

def Policy.code : Policy → Nat
  | .replace => 0
  | .skip => 1
  | .queue => 2

def StartOutcome.code : StartOutcome → Nat
  | .none => 0
  | .started => 1
  | .replaced => 2
  | .skipped => 3
  | .queued => 4
  | .refused _ => 5

def Source.code : Source → Nat
  | .townAt _ => 0
  | .townDay => 1
  | .inputEdge _ _ => 2
  | .inputCount _ => 3
  | .sectionEnter _ _ => 4
  | .axisIndex _ => 5
  | .cueMark _ => 6
  | .dressingEnd => 7
  | .railDone _ => 8

/-! ## Readings of a number as an enumeration; none beyond the list (R172) -/

def groupModeOf : Nat → Option GroupMode
  | 0 => some .curve
  | 1 => some .fixed
  | 2 => some .dark
  | _ => none

def roundingOf : Nat → Option Rounding
  | 0 => some .nearestEven
  | 1 => some .down
  | 2 => some .up
  | 3 => some .towardZero
  | _ => none

def fadeBaseOf : Nat → Option FadeBase
  | 0 => some .real
  | 1 => some .town
  | _ => none

def aspectOf : Nat → Option Aspect
  | 0 => some .proceed
  | 1 => some .stop
  | 2 => some .occupied
  | _ => none

def endOf : Nat → Option End
  | 0 => some .a
  | 1 => some .b
  | _ => none

def senseOf : Nat → Option Sense
  | 0 => some .aToB
  | 1 => some .bToA
  | _ => none

def positionOf : Nat → Option Position
  | 0 => some .normal
  | 1 => some .reverse
  | _ => none

def reserveModeOf : Nat → Option ReserveMode
  | 0 => some .autoRelease
  | 1 => some .hold
  | _ => none

def axisKindOf : Nat → Option AxisKind
  | 0 => some .rotary
  | 1 => some .positional
  | 2 => some .gate
  | _ => none

def dirOf : Nat → Option Dir
  | 0 => some .forward
  | 1 => some .reverse
  | _ => none

def counterModeOf : Nat → Option CounterMode
  | 0 => some .off
  | 1 => some .reload
  | 2 => some .oneShot
  | _ => none

def edgeOf : Nat → Option Edge
  | 0 => some .rising
  | 1 => some .falling
  | _ => none

def programOf : Nat → Option Program
  | 0 => some .raise
  | 1 => some .lower
  | _ => none

def policyOf : Nat → Option Policy
  | 0 => some .replace
  | 1 => some .skip
  | 2 => some .queue
  | _ => none

/-- The word ON or OFF of AUX_SET, numbered in the order the words stand (R149, R172): ON 0, OFF 1. -/
def onOffOf : Nat → Option Bool
  | 0 => some true
  | 1 => some false
  | _ => none

/-- The number of ON or OFF. -/
def onOffCode (on : Bool) : Nat := if on then 0 else 1

/-! ## Event classes, codes, subjects and details (introduction, R168, R174) -/

/-- An event's class, numbered as the bits of the notice mask: CLOCK 0 to LINK 8 (R172). -/
def Event.cls : Event → Fin 9
  | .townMinute _ | .townDay _ | .timeJumped _ _ | .clockLocked => 0
  | .fadeDone _ | .blinkDone _ => 1
  | .sectionEnter _ _ | .sectionLeave _ _ | .sectionFree _ | .straySeen _ | .routeReady _ _ | .routeFault _ _ | .pointSet _ _ => 2
  | .trainStopped _ _ | .trainHalted _ _ => 3
  | .axisDone _ | .axisIndex _ _ _ | .axisFault _ _ | .gateState _ _ => 4
  | .cueMark _ | .playerEnd _ | .playerFault _ _ | .playerDisplaced _ _ => 5
  | .inputEdge _ _ | .inputCount _ => 6
  | .railChange _ _ | .railDone _ | .overload _ | .dressing _ => 7
  | .frameReject _ | .noticesLost _ | .started _ => 8

/-- An event's code (R174). -/
def Event.code : Event → Nat
  | .townMinute _ => 0x01
  | .townDay _ => 0x02
  | .timeJumped _ _ => 0x03
  | .clockLocked => 0x04
  | .fadeDone _ => 0x10
  | .blinkDone _ => 0x11
  | .sectionEnter _ _ => 0x20
  | .sectionLeave _ _ => 0x21
  | .sectionFree _ => 0x22
  | .straySeen _ => 0x23
  | .routeReady _ _ => 0x24
  | .routeFault _ _ => 0x25
  | .pointSet _ _ => 0x26
  | .trainStopped _ _ => 0x30
  | .trainHalted _ _ => 0x31
  | .axisDone _ => 0x40
  | .axisIndex _ _ _ => 0x41
  | .axisFault _ _ => 0x42
  | .gateState _ _ => 0x43
  | .cueMark _ => 0x50
  | .playerEnd _ => 0x51
  | .playerFault _ _ => 0x52
  | .playerDisplaced _ _ => 0x53
  | .inputEdge _ _ => 0x60
  | .inputCount _ => 0x61
  | .railChange _ _ => 0x70
  | .railDone _ => 0x71
  | .overload _ => 0x72
  | .dressing _ => 0x73
  | .frameReject _ => 0x78
  | .noticesLost _ => 0x79
  | .started _ => 0x7A

/-- The event codes a cue step or a trigger can name (R174). -/
def eventCodes : List Nat :=
  [0x01, 0x02, 0x03, 0x04, 0x10, 0x11, 0x20, 0x21, 0x22, 0x23, 0x24, 0x25, 0x26, 0x30, 0x31, 0x40, 0x41, 0x42, 0x43,
   0x50, 0x51, 0x52, 0x53, 0x60, 0x61, 0x70, 0x71, 0x72, 0x73, 0x78, 0x79, 0x7A]

/-- An event's subject: the first item in its parentheses. TIME_JUMPED and CLOCK_LOCKED have none (R174). -/
def Event.subject : Event → Option Nat
  | .townMinute m => some m
  | .townDay day => some day
  | .timeJumped _ _ => none
  | .clockLocked => none
  | .fadeDone g => some g.1
  | .blinkDone g => some g.1
  | .sectionEnter s _ => some s.1
  | .sectionLeave s _ => some s.1
  | .sectionFree s => some s.1
  | .straySeen s => some s.1
  | .routeReady t _ => some t.1
  | .routeFault t _ => some t.1
  | .pointSet p _ => some p.1
  | .trainStopped t _ => some t.1
  | .trainHalted t _ => some t.1
  | .axisDone a => some a.1
  | .axisIndex a _ _ => some a.1
  | .axisFault a _ => some a.1
  | .gateState c _ => some c.1
  | .cueMark v => some v
  | .playerEnd p => some p.1
  | .playerFault p _ => some p.1
  | .playerDisplaced p _ => some p.1
  | .inputEdge i _ => some i.1
  | .inputCount i => some i.1
  | .railChange r _ => some r.code
  | .railDone p => some p.code
  | .overload phase => some phase.code
  | .dressing on => some on.toNat
  | .frameReject r => some r.code
  | .noticesLost n => some n
  | .started c => some c.code

/-- An event's second item, sent as detail1; TIME_JUMPED sends its old town time there (R174). An item an event does not
carry is 0 (R167). -/
def Event.detail1 : Event → Int
  | .timeJumped old _ => old
  | .sectionEnter _ t => t.1
  | .sectionLeave _ t => t.1
  | .routeReady _ s => s.1
  | .routeFault _ r => r.code
  | .pointSet _ pos => pos.code
  | .trainStopped _ r => r.code
  | .trainHalted _ f => f.code
  | .axisIndex _ err _ => err
  | .axisFault _ c => c.code
  | .gateState _ g => g.code
  | .playerFault _ c => c.code
  | .playerDisplaced _ x => x.1
  | .inputEdge _ e => e.code
  | .railChange _ up => up.toNat
  | .townMinute _ | .townDay _ | .clockLocked | .fadeDone _ | .blinkDone _ | .sectionFree _ | .straySeen _ | .axisDone _
  | .cueMark _ | .playerEnd _ | .inputCount _ | .railDone _ | .overload _ | .dressing _ | .frameReject _ | .noticesLost _
  | .started _ => 0

/-- An event's third item, sent as detail2; TIME_JUMPED sends its new town time there (R174). -/
def Event.detail2 : Event → Nat
  | .timeJumped _ new => new
  | .axisIndex _ _ slip => slip.toNat
  | .townMinute _ | .townDay _ | .clockLocked | .fadeDone _ | .blinkDone _ | .sectionEnter _ _ | .sectionLeave _ _
  | .sectionFree _ | .straySeen _ | .routeReady _ _ | .routeFault _ _ | .pointSet _ _ | .trainStopped _ _ | .trainHalted _ _
  | .axisDone _ | .axisFault _ _ | .gateState _ _ | .cueMark _ | .playerEnd _ | .playerFault _ _ | .playerDisplaced _ _
  | .inputEdge _ _ | .inputCount _ | .railChange _ _ | .railDone _ | .overload _ | .dressing _ | .frameReject _
  | .noticesLost _ | .started _ => 0

/-- Whether an event is of the code a spec names, and of its subject when it names one. An event without a subject matches
on its code alone (R130). -/
def EventSpec.matches (spec : EventSpec) (e : Event) : Bool :=
  spec.code == e.code &&
    match spec.subject, e.subject with
    | some x, some y => x == y
    | _, _ => true

/-! ## The 57 targets (8.4) -/

/-- The number of a group as a target. -/
def groupTarget (g : Fin 32) : Fin 57 := ⟨g.1, by omega⟩

/-- The number of a train as a target. -/
def trainTarget (t : Fin 8) : Fin 57 := ⟨32 + t.1, by omega⟩

/-- The number of an axis as a target. -/
def axisTarget (a : Fin 8) : Fin 57 := ⟨40 + a.1, by omega⟩

/-- The number of an aux output as a target. -/
def auxTarget (x : Fin 8) : Fin 57 := ⟨48 + x.1, by omega⟩

/-- The number of the clock as a target. -/
def clockTarget : Fin 57 := 56

end Sys2Proof.Machine
end

