-- ==== Sys2Proof/Machine/Bytes.lean ====
section
/-! DEFINITION. Frames, their check, and what a request's payload says (R163, R172 to R179): the frame check, the bytes of a
frame, the reading of every request's payload with the length that suits its kind, the payload that carries a request, and
the bytes of replies and notices. A payload is a list of bytes as numbers. -/

namespace Sys2Proof.Machine

/-! ## Little-endian byte forms (R172) -/

/-- The `w` low bytes of a number, least significant byte first (R172). -/
def leBytes : Nat → Nat → List Byte
  | 0, _ => []
  | w + 1, x => BitVec.ofNat 8 x :: leBytes w (x / 256)

/-- The two's complement number of `w` bytes that stands for a signed value (R172). -/
def toUnsigned (w : Nat) (x : Int) : Nat := (x % (2 ^ (8 * w) : Nat)).toNat

/-- The signed value that `w` bytes stand for in two's complement (R172). -/
def toSigned (w : Nat) (x : Nat) : Int := if x < 2 ^ (8 * w - 1) then (x : Int) else (x : Int) - (2 ^ (8 * w) : Nat)

/-- The number whose bytes are given, least significant byte first (R172). -/
def leNat : List Byte → Nat
  | [] => 0
  | b :: bs => b.toNat + 256 * leNat bs

/-! ## The frame check (R163) -/

/-- `n` shifts of the frame check register: polynomial x^16 + x^12 + x^5 + 1, high bit first. -/
def crcBits : Nat → BitVec 16 → BitVec 16
  | 0, c => c
  | n + 1, c => crcBits n (if c.msb then (c <<< 1) ^^^ 0x1021#16 else c <<< 1)

/-- One byte into the frame check. -/
def crcByte (c : BitVec 16) (b : Byte) : BitVec 16 := crcBits 8 (c ^^^ (b.zeroExtend 16 <<< 8))

/-- The frame check of a run of bytes: initial value 0xFFFF, no reflection, no final inversion (R163). -/
def crc16 (bytes : List Byte) : BitVec 16 := bytes.foldl crcByte 0xFFFF#16

/-! ## The frame envelope (R173) -/

/-- The lead byte (R163). -/
def leadByte : Byte := 0xC5#8

/-- The bytes the check covers: length, kind, tag, payload. -/
def coveredBytes (kind tag : Nat) (payload : List Byte) : List Byte :=
  BitVec.ofNat 8 (payload.length + 2) :: BitVec.ofNat 8 kind :: BitVec.ofNat 8 tag :: payload

/-- A whole frame as it stands on the line (R173). -/
def frameBytes (kind tag : Nat) (payload : List Byte) : List Byte :=
  let covered := coveredBytes kind tag payload
  let check := crc16 covered
  leadByte :: covered ++ [(check >>> 8).truncate 8, check.truncate 8]

/-- The kind of a reply: the request's kind with its top bit set (R166). -/
def replyKind (kind : Nat) : Nat := if kind < 128 then kind + 128 else kind

/-! ## Fields of a payload (R172) -/

/-- The byte at an offset. -/
def u8 (p : List Nat) (i : Nat) : Nat := p.getD i 0

/-- The two bytes at an offset, least significant first. -/
def u16 (p : List Nat) (i : Nat) : Nat := p.getD i 0 + 256 * p.getD (i + 1) 0

/-- The four bytes at an offset, least significant first. -/
def u32 (p : List Nat) (i : Nat) : Nat := u16 p i + 65536 * u16 p (i + 2)

/-- A flag is bit 0 of its byte (R172; log entry 6). -/
def flagAt (p : List Nat) (i : Nat) : Bool := u8 p i % 2 == 1

/-- NONE in a two-byte field (R172). -/
def none16 : Nat := 0xFFFF

/-- NONE in a one-byte field (R172). -/
def none8 : Nat := 0xFF

/-- The single bytes of a payload from an offset on. -/
def bytesFrom (p : List Nat) (i : Nat) : List Nat := p.drop i

/-- `n` items of `w` bytes each, from an offset on. -/
def itemsFrom {α : Type} (f : List Nat → Nat → α) (w : Nat) (p : List Nat) : Nat → Nat → List α
  | _, 0 => []
  | i, n + 1 => f p i :: itemsFrom f w p (i + w) n

/-- A curve point: the minute and the level, 2 bytes each (R178). -/
def pointAt (p : List Nat) (i : Nat) : Nat × Nat := (u16 p i, u16 p (i + 2))

/-- A pair of single bytes: a placed section and its sense, or a program step's delay and pattern (R175, R178). -/
def pairAt (p : List Nat) (i : Nat) : Nat × Nat := (u8 p i, u8 p (i + 1))

/-- A section link: kind, section or point, end (R178). -/
def linkAt (p : List Nat) (i : Nat) : RawLink := { kind := u8 p i, index := u8 p (i + 1), fin := u8 p (i + 2) }

/-- A cue step record (R179). -/
def stepAt (p : List Nat) (i : Nat) : StepRec :=
  { action := u8 p i, target := u8 p (i + 1), flags := u8 p (i + 2), waitKind := u8 p (i + 3), w4 := u8 p (i + 4)
    w5 := u8 p (i + 5), w6 := u8 p (i + 6), timeout := u16 p (i + 7), p1 := u16 p (i + 9), p2 := u16 p (i + 11), p3 := u8 p (i + 13) }

/-- The binding field of 5 bytes, by the channel's kind (R176); bytes the kind does not use are ignored (R172). -/
def bindingAt (kind : Nat) (p : List Nat) (i : Nat) : RawBinding :=
  if kind = 2 then { item := u8 p i, aspect := u8 p (i + 1), start := 0, width := 0 }
  else if kind = 3 then { item := u8 p i, aspect := 0, start := u16 p (i + 1), width := u16 p (i + 3) }
  else if kind = 4 then { item := u8 p i, aspect := 0, start := 0, width := 0 }
  else { item := 0, aspect := 0, start := 0, width := 0 }

/-- The fields of AXIS_CONFIG after the axis (R176). -/
def axisConfigAt (p : List Nat) : RawAxisConfig :=
  { kind := u8 p 1, maxSpeed := u16 p 2, accel := u16 p 4, creep := u16 p 6, spr := u16 p 8, offset := u16 p 10
    tolerance := u16 p 12, low := toSigned 4 (u32 p 14), high := toSigned 4 (u32 p 18), openPos := toSigned 4 (u32 p 22)
    closedPos := toSigned 4 (u32 p 26) }

/-- The fields of POINT_DEFINE after the point; with the flag clear the rest is ignored (R176, R178). -/
def pointDefAt (p : List Nat) : Option RawPoint :=
  if flagAt p 1 then
    some { section_ := u8 p 2, normalSection := u8 p 3, normalEnd := u8 p 4, reverseSection := u8 p 5, reverseEnd := u8 p 6, pulse := u16 p 7 }
  else none

/-- The fields of CROSSING_DEFINE after the crossing; with the flag clear the rest is ignored (R178). -/
def crossingDefAt (p : List Nat) : Option RawCrossing :=
  if flagAt p 1 then some { axis := u8 p 2, openDelay := u16 p 3, gateTimeout := u16 p 5, members := bytesFrom p 7 } else none

/-- A request whose kind suits one length. -/
def fixed (n : Nat) (p : List Nat) (r : Request) : Body := if p.length = n then .request r else .badLength

/-- A request whose kind suits `base + width × n` bytes for n from `lo` to `hi`. -/
def listed (base width lo hi : Nat) (p : List Nat) (r : Nat → Request) : Body :=
  let n := (p.length - base) / width
  if p.length = base + width * n ∧ lo ≤ n ∧ n ≤ hi then .request (r n) else .badLength

/-- What a payload asks for: its kind first, then its length, then its fields (R166, R175, R176, R178). -/
def parseRequest (kind : Nat) (p : List Nat) : Body :=
  match kind with
  | 0x01 => fixed 0 p .identify
  | 0x02 => fixed 0 p .status
  | 0x03 => fixed 1 p (.reset (u8 p 0))
  | 0x04 => fixed 2 p (.noticeMask (u16 p 0))
  | 0x08 =>
    if p.length = 4 then .request (.clockSetRate (u8 p 0) (u16 p 1) (u8 p 3) none)
    else fixed 6 p (.clockSetRate (u8 p 0) (u16 p 1) (u8 p 3) (some (u16 p 4)))
  | 0x09 => fixed 0 p .clockHold
  | 0x0A => fixed 0 p .clockRun
  | 0x0B => fixed 5 p (.clockSetTime (u32 p 0) (u8 p 4))
  | 0x0C => fixed 0 p .clockQuery
  | 0x10 => fixed 2 p (.groupSetMode (u8 p 0) (u8 p 1))
  | 0x11 => listed 1 4 0 16 p fun n => .groupSetCurve (u8 p 0) (itemsFrom pointAt 4 p 1 n)
  | 0x12 => fixed 3 p (.groupConfig (u8 p 0) (u8 p 1) (u8 p 2))
  | 0x13 => fixed 6 p (.groupSetLevel (u8 p 0) (u16 p 1) (u16 p 3) (u8 p 5))
  | 0x14 => fixed 5 p (.groupSetBlink (u8 p 0) (u8 p 1) (u8 p 2) (u8 p 3) (u8 p 4))
  | 0x15 => fixed 35 p (.gammaWrite (u8 p 0) (itemsFrom u16 2 p 1 17))
  | 0x16 => fixed 1 p (.gammaQuery (u8 p 0))
  | 0x17 => fixed 15 p (.channelConfig (u16 p 0) (u8 p 2) (u8 p 3) (toSigned 2 (u16 p 4)) (bindingAt (u8 p 3) p 6) (u16 p 11) (u16 p 13))
  | 0x18 => fixed 3 p (.pwmMap (u8 p 0) (if u16 p 1 = none16 then none else some (u16 p 1)))
  | 0x19 => fixed 2 p (.chainLength (u8 p 0) (u8 p 1))
  | 0x1A => fixed 6 p (.segmentSet (u8 p 0) (u8 p 1) (u8 p 2) (u8 p 3) (u16 p 4))
  | 0x1B => fixed 1 p (.segmentClear (u8 p 0))
  | 0x1C => fixed 1 p (.groupQuery (u8 p 0))
  | 0x1D => fixed 2 p (.channelQuery (u16 p 0))
  | 0x20 => fixed 0 p .layoutOpen
  | 0x21 => fixed 0 p .layoutClose
  | 0x22 => fixed 11 p (.sectionDefine (u8 p 0) (linkAt p 1) (linkAt p 4) (u16 p 7) (u16 p 9))
  | 0x23 => fixed 1 p (.sectionForget (u8 p 0))
  | 0x24 => fixed 9 p (.pointDefine (u8 p 0) (pointDefAt p))
  | 0x25 => listed 7 1 0 4 p fun _ => .crossingDefine (u8 p 0) (crossingDefAt p)
  | 0x26 => fixed 2 p (.layoutQuery (u8 p 0) (u8 p 1))
  | 0x27 => fixed 2 p (.pointThrow (u8 p 0) (u8 p 1))
  | 0x28 => fixed 2 p (.throwUnitConfig (u16 p 0))
  | 0x29 => fixed 1 p (.gateRetry (u8 p 0))
  | 0x2A => fixed 1 p (.sectionQuery (u8 p 0))
  | 0x2B => fixed 1 p (.crossingQuery (u8 p 0))
  | 0x2C => fixed 0 p .throwQuery
  | 0x30 => fixed 4 p (.trainConfig (u8 p 0) (u8 p 1) (u8 p 2) (u8 p 3))
  | 0x31 => listed 1 2 1 4 p fun n => .trainPlace (u8 p 0) (itemsFrom pairAt 2 p 1 n)
  | 0x32 => fixed 1 p (.trainRemove (u8 p 0))
  | 0x33 => fixed 2 p (.trainSpeed (u8 p 0) (u8 p 1))
  | 0x34 => fixed 1 p (.trainStop (u8 p 0))
  | 0x35 => listed 2 1 1 12 p fun _ => .trainRoute (u8 p 0) (u8 p 1) (bytesFrom p 2)
  | 0x36 => fixed 1 p (.trainRelease (u8 p 0))
  | 0x37 => fixed 1 p (.trainDirection (u8 p 0))
  | 0x38 => fixed 1 p (.trainClearFault (u8 p 0))
  | 0x39 => fixed 1 p (.trainQuery (u8 p 0))
  | 0x40 => fixed 30 p (.axisConfig (u8 p 0) (axisConfigAt p))
  | 0x41 => fixed 4 p (.axisSpeed (u8 p 0) (u16 p 1) (u8 p 3))
  | 0x42 => fixed 3 p (.axisStopAt (u8 p 0) (u16 p 1))
  | 0x43 => fixed 5 p (.axisMove (u8 p 0) (toSigned 4 (u32 p 1)))
  | 0x44 => fixed 1 p (.axisHome (u8 p 0))
  | 0x45 => fixed 1 p (.axisStop (u8 p 0))
  | 0x46 => fixed 1 p (.axisQuery (u8 p 0))
  | 0x50 => listed 3 14 0 17 p fun n => .listWrite (u8 p 0) (u8 p 1) (flagAt p 2) (itemsFrom stepAt 14 p 3 n)
  | 0x51 => fixed 1 p (.listErase (u8 p 0))
  | 0x52 => fixed 3 p (.listQuery (u8 p 0) (u8 p 1) (u8 p 2))
  | 0x53 => fixed 3 p (.playerStart (u8 p 0) (u8 p 1) (u8 p 2))
  | 0x54 => fixed 1 p (.playerStop (u8 p 0))
  | 0x55 => fixed 1 p (.playerPause (u8 p 0))
  | 0x56 => fixed 1 p (.playerResume (u8 p 0))
  | 0x57 => fixed 2 p (.playerPriority (u8 p 0) (u8 p 1))
  | 0x58 => fixed 1 p (.playerQuery (u8 p 0))
  | 0x60 => fixed 3 p (.inputConfig (u8 p 0) (u16 p 1))
  | 0x61 => fixed 5 p (.counterConfig (u8 p 0) (u8 p 1) (u8 p 2) (u16 p 3))
  | 0x62 => fixed 1 p (.inputQuery (u8 p 0))
  | 0x63 => fixed 2 p (.auxSet (u8 p 0) (u8 p 1))
  | 0x64 => fixed 0 p .auxQuery
  | 0x65 =>
    fixed 8 p (.triggerSet (u8 p 0)
      { enabled := flagAt p 1, source := u8 p 2, par1 := u8 p 3, par2 := u8 p 4, player := u8 p 5, list := u8 p 6, policy := u8 p 7 })
  | 0x66 => fixed 2 p (.triggerEnable (u8 p 0) (flagAt p 1))
  | 0x67 => fixed 1 p (.triggerQuery (u8 p 0))
  | 0x68 => fixed 1 p (.triggerClearCounts (u8 p 0))
  | 0x70 => fixed 17 p (.railProgram (u8 p 0) (itemsFrom pairAt 2 p 1 8))
  | 0x71 => fixed 0 p .railRaise
  | 0x72 => fixed 0 p .railLower
  | 0x73 => fixed 1 p (.railSet (u8 p 0))
  | 0x74 => fixed 0 p .supplyQuery
  | _ => .unknownKind

/-! ## The payload that carries a request (R175, R176, R178, R179) -/

/-- A request's kind (R175). -/
def requestKind : Request → Nat
  | .identify => 0x01
  | .status => 0x02
  | .reset _ => 0x03
  | .noticeMask _ => 0x04
  | .clockSetRate _ _ _ _ => 0x08
  | .clockHold => 0x09
  | .clockRun => 0x0A
  | .clockSetTime _ _ => 0x0B
  | .clockQuery => 0x0C
  | .groupSetMode _ _ => 0x10
  | .groupSetCurve _ _ => 0x11
  | .groupConfig _ _ _ => 0x12
  | .groupSetLevel _ _ _ _ => 0x13
  | .groupSetBlink _ _ _ _ _ => 0x14
  | .gammaWrite _ _ => 0x15
  | .gammaQuery _ => 0x16
  | .channelConfig _ _ _ _ _ _ _ => 0x17
  | .pwmMap _ _ => 0x18
  | .chainLength _ _ => 0x19
  | .segmentSet _ _ _ _ _ => 0x1A
  | .segmentClear _ => 0x1B
  | .groupQuery _ => 0x1C
  | .channelQuery _ => 0x1D
  | .layoutOpen => 0x20
  | .layoutClose => 0x21
  | .sectionDefine _ _ _ _ _ => 0x22
  | .sectionForget _ => 0x23
  | .pointDefine _ _ => 0x24
  | .crossingDefine _ _ => 0x25
  | .layoutQuery _ _ => 0x26
  | .pointThrow _ _ => 0x27
  | .throwUnitConfig _ => 0x28
  | .gateRetry _ => 0x29
  | .sectionQuery _ => 0x2A
  | .crossingQuery _ => 0x2B
  | .throwQuery => 0x2C
  | .trainConfig _ _ _ _ => 0x30
  | .trainPlace _ _ => 0x31
  | .trainRemove _ => 0x32
  | .trainSpeed _ _ => 0x33
  | .trainStop _ => 0x34
  | .trainRoute _ _ _ => 0x35
  | .trainRelease _ => 0x36
  | .trainDirection _ => 0x37
  | .trainClearFault _ => 0x38
  | .trainQuery _ => 0x39
  | .axisConfig _ _ => 0x40
  | .axisSpeed _ _ _ => 0x41
  | .axisStopAt _ _ => 0x42
  | .axisMove _ _ => 0x43
  | .axisHome _ => 0x44
  | .axisStop _ => 0x45
  | .axisQuery _ => 0x46
  | .listWrite _ _ _ _ => 0x50
  | .listErase _ => 0x51
  | .listQuery _ _ _ => 0x52
  | .playerStart _ _ _ => 0x53
  | .playerStop _ => 0x54
  | .playerPause _ => 0x55
  | .playerResume _ => 0x56
  | .playerPriority _ _ => 0x57
  | .playerQuery _ => 0x58
  | .inputConfig _ _ => 0x60
  | .counterConfig _ _ _ _ => 0x61
  | .inputQuery _ => 0x62
  | .auxSet _ _ => 0x63
  | .auxQuery => 0x64
  | .triggerSet _ _ => 0x65
  | .triggerEnable _ _ => 0x66
  | .triggerQuery _ => 0x67
  | .triggerClearCounts _ => 0x68
  | .railProgram _ _ => 0x70
  | .railRaise => 0x71
  | .railLower => 0x72
  | .railSet _ => 0x73
  | .supplyQuery => 0x74

/-- A two-byte field. -/
def b16 (x : Nat) : List Nat := [x % 256, x / 256 % 256]

/-- A four-byte field. -/
def b32 (x : Nat) : List Nat := b16 (x % 65536) ++ b16 (x / 65536 % 65536)

/-- A flag's byte. -/
def bFlag (f : Bool) : Nat := if f then 1 else 0

/-- A section link's three bytes (R178). -/
def bLink (l : RawLink) : List Nat := [l.kind, l.index, l.fin]

/-- A cue step record's 14 bytes (R179). -/
def bStep (r : StepRec) : List Nat :=
  [r.action, r.target, r.flags, r.waitKind, r.w4, r.w5, r.w6] ++ b16 r.timeout ++ b16 r.p1 ++ b16 r.p2 ++ [r.p3]

/-- A binding field's five bytes, unused ones 0 (R172, R176). -/
def bBinding (kind : Nat) (b : RawBinding) : List Nat :=
  if kind = 2 then [b.item, b.aspect, 0, 0, 0]
  else if kind = 3 then b.item :: b16 b.start ++ b16 b.width
  else if kind = 4 then [b.item, 0, 0, 0, 0]
  else [0, 0, 0, 0, 0]

/-- AXIS_CONFIG's bytes after the axis (R176). -/
def bAxisConfig (c : RawAxisConfig) : List Nat :=
  c.kind :: b16 c.maxSpeed ++ b16 c.accel ++ b16 c.creep ++ b16 c.spr ++ b16 c.offset ++ b16 c.tolerance
    ++ b32 (toUnsigned 4 c.low) ++ b32 (toUnsigned 4 c.high) ++ b32 (toUnsigned 4 c.openPos) ++ b32 (toUnsigned 4 c.closedPos)

/-- The payload of a request. -/
def requestPayload : Request → List Nat
  | .identify | .status | .clockHold | .clockRun | .clockQuery | .layoutOpen | .layoutClose | .throwQuery | .auxQuery
  | .railRaise | .railLower | .supplyQuery => []
  | .reset scope => [scope]
  | .noticeMask mask => b16 mask
  | .clockSetRate p m q none => p :: b16 m ++ [q]
  | .clockSetRate p m q (some glide) => p :: b16 m ++ [q] ++ b16 glide
  | .clockSetTime target mode => b32 target ++ [mode]
  | .groupSetMode group mode => [group, mode]
  | .groupSetCurve group points => group :: points.flatMap fun x => b16 x.1 ++ b16 x.2
  | .groupConfig group rounding gamma => [group, rounding, gamma]
  | .groupSetLevel group level duration base => group :: b16 level ++ b16 duration ++ [base]
  | .groupSetBlink group form on off burst => [group, form, on, off, burst]
  | .gammaWrite table entries => table :: entries.flatMap b16
  | .gammaQuery table => [table]
  | .channelConfig channel group kind trim binding warm restrike =>
    b16 channel ++ [group, kind] ++ b16 (toUnsigned 2 trim) ++ bBinding kind binding ++ b16 warm ++ b16 restrike
  | .pwmMap output channel => output :: b16 (channel.getD none16)
  | .chainLength chain length => [chain, length]
  | .segmentSet segment chain first count channel => [segment, chain, first, count] ++ b16 channel
  | .segmentClear segment => [segment]
  | .groupQuery group => [group]
  | .channelQuery channel => b16 channel
  | .sectionDefine sec linkA linkB clearance filter => sec :: bLink linkA ++ bLink linkB ++ b16 clearance ++ b16 filter
  | .sectionForget sec => [sec]
  | .pointDefine point none => [point, 0, 0, 0, 0, 0, 0, 0, 0]
  | .pointDefine point (some d) =>
    [point, 1, d.section_, d.normalSection, d.normalEnd, d.reverseSection, d.reverseEnd] ++ b16 d.pulse
  | .crossingDefine crossing none => [crossing, 0, 0, 0, 0, 0, 0]
  | .crossingDefine crossing (some d) => [crossing, 1, d.axis] ++ b16 d.openDelay ++ b16 d.gateTimeout ++ d.members
  | .layoutQuery cls index => [cls, index]
  | .pointThrow point position => [point, position]
  | .throwUnitConfig recharge => b16 recharge
  | .gateRetry crossing => [crossing]
  | .sectionQuery sec => [sec]
  | .crossingQuery crossing => [crossing]
  | .trainConfig train maxSpeed accel decel => [train, maxSpeed, accel, decel]
  | .trainPlace train secs => train :: secs.flatMap fun x => [x.1, x.2]
  | .trainRemove train => [train]
  | .trainSpeed train speed => [train, speed]
  | .trainStop train => [train]
  | .trainRoute train mode secs => train :: mode :: secs
  | .trainRelease train => [train]
  | .trainDirection train => [train]
  | .trainClearFault train => [train]
  | .trainQuery train => [train]
  | .axisConfig axis cfg => axis :: bAxisConfig cfg
  | .axisSpeed axis speed direction => axis :: b16 speed ++ [direction]
  | .axisStopAt axis angle => axis :: b16 angle
  | .axisMove axis position => axis :: b32 (toUnsigned 4 position)
  | .axisHome axis => [axis]
  | .axisStop axis => [axis]
  | .axisQuery axis => [axis]
  | .listWrite list first endFlag steps => [list, first, bFlag endFlag] ++ steps.flatMap bStep
  | .listErase list => [list]
  | .listQuery list first count => [list, first, count]
  | .playerStart player list policy => [player, list, policy]
  | .playerStop player => [player]
  | .playerPause player => [player]
  | .playerResume player => [player]
  | .playerPriority player priority => [player, priority]
  | .playerQuery player => [player]
  | .inputConfig input debounce => input :: b16 debounce
  | .counterConfig input mode edge reload => [input, mode, edge] ++ b16 reload
  | .inputQuery input => [input]
  | .auxSet output value => [output, value]
  | .triggerSet trigger r => [trigger, bFlag r.enabled, r.source, r.par1, r.par2, r.player, r.list, r.policy]
  | .triggerEnable trigger flag => [trigger, bFlag flag]
  | .triggerQuery trigger => [trigger]
  | .triggerClearCounts trigger => [trigger]
  | .railProgram program steps => program :: steps.flatMap fun x => [x.1, x.2]
  | .railSet pattern => [pattern]

/-- The frame a request's command stands for: its kind, its tag and its payload. -/
def requestFrame (tag : Nat) (r : Request) : Frame := { kind := requestKind r, tag := tag, body := .request r }

/-- The frame of a kind with a payload, read by its kind (R166). -/
def readFrame (kind tag : Nat) (payload : List Nat) : Frame := { kind := kind, tag := tag, body := parseRequest kind payload }

/-! ## What the part sends (R166, R167, R173, R174) -/

/-- A value as `w` bytes of reply data. -/
def dat (w x : Nat) : List Byte := leBytes w x

/-- A signed value as `w` bytes of reply data. -/
def datS (w : Nat) (x : Int) : List Byte := leBytes w (toUnsigned w x)

/-- A lone flag (R177). -/
def datF (f : Bool) : List Byte := dat 1 f.toNat

/-- A single value that may be absent, NONE when absent (R177): every byte 0xFF, also in the two-byte values that are no channel. Log
entry 42 (DESIGN CHOICE). -/
def datO (w : Nat) (x : Option Nat) : List Byte := dat w (x.getD (2 ^ (8 * w) - 1))

/-- A list of varying length: a one-byte count, then its items (R177). -/
def datL {α : Type} (l : List α) (f : α → List Byte) : List Byte := dat 1 l.length ++ l.flatMap f

/-- A record that may be absent: 1 and its fields, or 0 and as many zero bytes (R177). -/
def datR {α : Type} (x : Option α) (width : Nat) (f : α → List Byte) : List Byte :=
  match x with
  | some a => dat 1 1 ++ f a
  | none => dat 1 0 ++ List.replicate width 0#8

/-- A reply's payload: the result code, the flags byte and the data (R173). -/
def Answer.payload (a : Answer) : List Byte := dat 1 a.code.code ++ datF a.clamped ++ a.data

/-- The bytes of a reply on the line (R166, R173). -/
def Reply.bytes (r : Reply) : List Byte := frameBytes r.kind r.tag r.answer.payload

/-- A notice record of 19 bytes (R174). It has no field for the day count. Log entry 47 (DESIGN CHOICE). -/
def Notice.record (n : Notice) : List Byte :=
  dat 1 n.event.code ++ dat 2 (n.event.subject.getD 0) ++ datS 4 n.event.detail1 ++ dat 4 n.event.detail2
    ++ dat 4 n.stamp.toNat ++ dat 4 n.townSeconds

/-- The bytes of a notice on the line: kind 0x7F, tag 0 and the record (R174). -/
def Notice.bytes (n : Notice) : List Byte := frameBytes 0x7F 0 n.record

/-- The frame on the transmit line, empty when the transmitter is IDLE (R167). -/
def Transmitter.bytes : Transmitter → List Byte
  | .idle => []
  | .reply r => r.bytes
  | .notice n => n.bytes

end Sys2Proof.Machine
end

