-- ==== Sys2Proof/Machine/Ops.lean ====
section
/-! DEFINITION. The operations every block shares: one named update for each record of the state, the answers a request can be
given (R166, R173), raising an event (R168, R169) and handing an ending to the Cue Engine, and putting off a block's own work. -/

namespace Sys2Proof.Machine

/-! ## Named updates -/

/-- Changes the Town Clock's record. -/
def State.modClock (f : Clock → Clock) (s : State) : State := { s with clock := f s.clock }

/-- Changes a group's record. -/
def State.modGroup (g : Fin 32) (f : Group → Group) (s : State) : State :=
  { s with light := { s.light with groups := s.light.groups.modify g f } }

/-- Changes a channel's record. -/
def State.modChannel (c : Fin 512) (f : Channel → Channel) (s : State) : State :=
  { s with light := { s.light with channels := s.light.channels.modify c f } }

/-- Changes the Light Engine's records. -/
def State.modLight (f : Light → Light) (s : State) : State := { s with light := f s.light }

/-- Changes the Track Controller's and the Occupancy Monitor's records. -/
def State.modTrack (f : Track → Track) (s : State) : State := { s with track := f s.track }

/-- Changes a section's running record. -/
def State.modRun (x : Fin 48) (f : SectionRun → SectionRun) (s : State) : State :=
  { s with track := { s.track with runs := s.track.runs.modify x f } }

/-- Changes a point's record. -/
def State.modPoint (p : Fin 24) (f : Point → Point) (s : State) : State :=
  { s with track := { s.track with points := s.track.points.modify p f } }

/-- Sets a crossing's coupling record. -/
def State.setCoupling (c : Fin 4) (k : Option Coupling) (s : State) : State :=
  { s with track := { s.track with couplings := s.track.couplings.set c k } }

/-- Sets the throw queue. -/
def State.setQueue (q : List ThrowEntry) (s : State) : State := { s with track := { s.track with queue := q } }

/-- Sets the discharge unit. -/
def State.setUnit (u : ThrowUnit) (s : State) : State := { s with track := { s.track with unit_ := u } }

/-- Changes a train's record. -/
def State.modTrain (t : Fin 8) (f : Train → Train) (s : State) : State := { s with trains := s.trains.modify t f }

/-- Changes an axis's record. -/
def State.modAxis (a : Fin 8) (f : Axis → Axis) (s : State) : State := { s with axes := s.axes.modify a f }

/-- Changes every train's record. -/
def State.modTrains (f : Train → Train) (s : State) : State := { s with trains := s.trains.map f }

/-- Changes every axis's record. -/
def State.modAxes (f : Axis → Axis) (s : State) : State := { s with axes := s.axes.map f }

/-- Changes the Cue Engine's records. -/
def State.modCue (f : Cue → Cue) (s : State) : State := { s with cue := f s.cue }

/-- Changes a player's record. -/
def State.modPlayer (p : Fin 8) (f : Player → Player) (s : State) : State :=
  { s with cue := { s.cue with players := s.cue.players.modify p f } }

/-- Changes a cue list's record. -/
def State.modList (l : Fin 64) (f : CueList → CueList) (s : State) : State :=
  { s with cue := { s.cue with lists := s.cue.lists.modify l f } }

/-- Names a target's holder, or none. -/
def State.setHolder (x : Fin 57) (p : Option (Fin 8)) (s : State) : State :=
  { s with cue := { s.cue with holders := s.cue.holders.set x p } }

/-- Changes the Trigger Unit's records. -/
def State.modTrig (f : Trig → Trig) (s : State) : State := { s with trig := f s.trig }

/-- Changes an input conditioner. -/
def State.modInput (i : Fin 8) (f : Conditioner → Conditioner) (s : State) : State :=
  { s with trig := { s.trig with inputs := s.trig.inputs.modify i f } }

/-- Changes an input counter. -/
def State.modCounter (i : Fin 8) (f : Counter → Counter) (s : State) : State :=
  { s with trig := { s.trig with counters := s.trig.counters.modify i f } }

/-- Changes a trigger. -/
def State.modTrigger (i : Fin 32) (f : Trigger → Trigger) (s : State) : State :=
  { s with trig := { s.trig with triggers := s.trig.triggers.modify i f } }

/-- Changes the Supply Sequencer's records. -/
def State.modSupply (f : Supply → Supply) (s : State) : State := { s with supply := f s.supply }

/-- Changes the Show Link's records. -/
def State.modLink (f : ShowLink → ShowLink) (s : State) : State := { s with link := f s.link }

/-- Changes the input pins. -/
def State.modPins (f : Pins → Pins) (s : State) : State := { s with pins := f s.pins }

/-- Changes the marks of the periodic steps still due. -/
def State.modSched (f : Sched → Sched) (s : State) : State := { s with sched := f s.sched }

/-- Changes the outputs. -/
def State.modOuts (f : Outs → Outs) (s : State) : State := { s with outs := f s.outs }

/-- Changes the work of the handling in progress. -/
def State.modWork (f : Work → Work) (s : State) : State := { s with work := f s.work }

/-! ## Answers (R166, R173) -/

/-- OK with data. -/
def okWith (data : List Byte) : Answer := { code := .ok, clamped := false, data := data }

/-- OK without data. -/
def okay : Answer := okWith []

/-- ACCEPTED without data. -/
def taken : Answer := { code := .accepted, clamped := false, data := [] }

/-- The answer with its CLAMPED flag set or clear. -/
def Answer.clampedBy (a : Answer) (c : Bool) : Answer := { a with clamped := c }

/-- A refusal whose rule names no detail. Log entry 31 (DEDUCED). -/
def refuse (code : ResultCode) : Answer := { code := code, clamped := false, data := [] }

/-- A refusal with its four-byte detail: the reason's or field's number, the index, and the end (R173). Log entry 31 (DEDUCED). -/
def refuseAt (code : ResultCode) (row index fin : Nat) : Answer :=
  { code := code, clamped := false, data := dat 1 row ++ dat 2 index ++ dat 1 fin }

/-- What every block's handling of a request gives: the state after it and its answer. -/
abbrev Handled := State × Answer

/-! ## Notices (R168, R169) -/

/-- The notice of an event raised now, with its stamps: the real-time count and the town seconds (R167) and the day count (R14). Log entry
47 (DESIGN CHOICE). -/
def State.noticeOf (s : State) (e : Event) : Notice :=
  { event := e, stamp := s.clock.rt, townSeconds := s.clock.town / 1000, day := s.clock.day }

/-- Whether offering a notice now first reports what was lost (R169). -/
def ShowLink.reportsLost (l : ShowLink) : Bool := l.notices.length < Config.noticeRoom && 0 < l.lost

/-- A notice offered to the queue (R169). `report` is the NOTICES_LOST notice of the present lost count. -/
def ShowLink.offer (report n : Notice) (l : ShowLink) : ShowLink :=
  if l.notices.length < Config.noticeRoom then
    if l.lost = 0 then { l with notices := l.notices ++ [n] }
    else if l.notices.length + 1 < Config.noticeRoom then { l with notices := l.notices ++ [report, n], lost := 0 }
    else { l with notices := l.notices ++ [report], lost := 1 }
  else { l with lost := min 255 (l.lost + 1) }

/-- STARTED and NOTICES_LOST are queued whatever the mask says (R168). -/
def Event.always : Event → Bool
  | .started _ => true
  | .noticesLost _ => true
  | _ => false

/-- Whether the Show Link makes a notice of an event (R168). -/
def ShowLink.wants (l : ShowLink) (e : Event) : Bool := e.always || l.mask.getLsbD e.cls.1

/-! ## Events and endings (introduction, R128, R135, R168) -/

/-- A repeat frame's seen flag after an event (R135). -/
def markFrame (e : Event) (f : RepeatFrame) : RepeatFrame :=
  match f.until_ with
  | some spec => { f with seen := f.seen || spec.matches e }
  | none => f

/-- A player's repeat frames after an event: it sets their seen flags at once, in every state (R135). -/
def markSeen (e : Event) (p : Player) : Player := { p with repeats := p.repeats.map (markFrame e) }

/-- The event is held for the players' waits and awaits (R128) and offered to the Trigger Unit. -/
def Work.addEvent (e : Event) (w : Work) : Work :=
  { w with held := w.held ++ [(w.arrival, .event e)], events := w.events ++ [e], arrival := w.arrival + 1 }

/-- The ending is held for the players' awaits (R128); no other block sees it. -/
def Work.addEnding (x : Ending) (w : Work) : Work :=
  { w with held := w.held ++ [(w.arrival, .ending x)], arrival := w.arrival + 1 }

/-- An event offered to the Cue Engine and the Trigger Unit (introduction). -/
def State.offerBlocks (e : Event) (s : State) : State :=
  { s with cue := { s.cue with players := s.cue.players.map (markSeen e) }, work := s.work.addEvent e }

/-- An event announced: the Show Link makes a notice of it if its class is enabled, after a report of lost notices where one is
due, and it is offered to the Cue Engine and the Trigger Unit whatever its class (R168, R169). -/
def State.announce (e : Event) (s : State) : State :=
  if s.link.wants e then
    let s1 := if s.link.reportsLost then s.offerBlocks (.noticesLost s.link.lost) else s
    { s1 with link := s.link.offer (s.noticeOf (.noticesLost s.link.lost)) (s.noticeOf e) }.offerBlocks e
  else s.offerBlocks e

/-- Room appears in the notice queue: with notices lost, NOTICES_LOST is appended, and offered to the blocks (R169). -/
def reportLost (s : State) : State :=
  if 0 < s.link.lost then
    (s.modLink fun l => { l with notices := l.notices ++ [s.noticeOf (.noticesLost l.lost)], lost := 0 }).offerBlocks (.noticesLost s.link.lost)
  else s

/-- The transmitter picks its next frame: the oldest reply, else the oldest notice, else it is IDLE (R167). Log entry 7
(DEDUCED). -/
def pick (s : State) : State :=
  match s.link.replies with
  | r :: rest => s.modLink fun l => { l with tx := .reply r, replies := rest }
  | [] =>
    match s.link.notices with
    | n :: rest => reportLost (s.modLink fun l => { l with tx := .notice n, notices := rest })
    | [] => s.modLink fun l => { l with tx := .idle }

/-- Nothing is being sent, no reply waits, and no request that was taken has its reply still to come: a notice queued now is
picked at once (R166, R167). Log entry 7 (DEDUCED). -/
def ShowLink.idles (l : ShowLink) : Bool := l.tx == .idle && l.replies.isEmpty && l.slots.all fun x => !x.taken

/-- An event raised: it is announced, and a transmitter that is IDLE picks at once (R167, R168). -/
def State.raise (e : Event) (s : State) : State :=
  let s1 := s.announce e
  if s1.link.idles then pick s1 else s1

/-- Several events raised in order. -/
def State.raiseAll (es : List Event) (s : State) : State := es.foldl (fun s e => s.raise e) s

/-- An ending handed to the Cue Engine; it is no event (R12, R24, R92, R119). -/
def State.handEnding (x : Ending) (s : State) : State := s.modWork (Work.addEnding x)

/-- A block's own work put off until the present piece of work is done (log entry 4). -/
def State.later (t : Task) (s : State) : State := s.modWork fun w => { w with stack := w.stack ++ [t] }

/-- A player's run put off until the run in progress has stopped (R128). -/
def State.laterRun (p : Fin 8) (stage : Stage) (s : State) : State := s.modWork fun w => { w with runs := w.runs ++ [(p, stage)] }

/-- The same change for every index of a list, in order. -/
def forEach {α : Type} (l : List α) (f : α → State → State) (s : State) : State := l.foldl (fun s a => f a s) s

/-! ## Clamping and priority -/

/-- A value brought to the nearest limit of `lo` to `hi`. -/
def clampTo (lo hi x : Nat) : Nat := max lo (min hi x)

/-- A signed value brought to the nearest limit. -/
def clampInt (lo hi x : Int) : Int := max lo (min hi x)

/-- Inserts an index behind every index of at least its weight. -/
def insertByWeight {n : Nat} (weight : Fin n → Nat) (i : Fin n) : List (Fin n) → List (Fin n)
  | [] => [i]
  | j :: js => if weight j < weight i then i :: j :: js else j :: insertByWeight weight i js

/-- Descending weight, ties to the earlier entry: with the indices in ascending order, ties go to the lowest index. -/
def byWeight {n : Nat} (weight : Fin n → Nat) (l : List (Fin n)) : List (Fin n) :=
  l.foldl (fun acc i => insertByWeight weight i acc) []

/-! ## Reads several blocks make -/

/-- The dressing interlock is ENGAGED exactly while the confirmed key state is ON (R161). -/
def State.engaged (s : State) : Bool := s.supply.keyOn

/-- The first index of a list for which a test holds. A refusal names it where several items fail and the rule does
not say which is named (log entry 57, DESIGN CHOICE). -/
def firstIdx {α : Type} (test : α → Bool) : List α → Nat → Option Nat
  | [], _ => none
  | a :: as, i => if test a then some i else firstIdx test as (i + 1)

end Sys2Proof.Machine
end

