-- ==== Sys2Proof/Machine/Axis.lean ====
section
/-! DEFINITION. The Motion Controller (R104 to R122): the axis update, targets, homing and index correction, the requests, gate
axes, and what the rails, the dressing interlock and a WARM reset do to an axis. -/

namespace Sys2Proof.Machine

/-! ## Readings of the record -/

/-- The lower limit of travel: the soft limit, or the smaller gate position (R104). -/
def Axis.lowLimit (x : Axis) : Int := if x.kind = .gate then min x.openPos x.closedPos else x.low

/-- The upper limit of travel: the soft limit, or the larger gate position (R104). -/
def Axis.highLimit (x : Axis) : Int := if x.kind = .gate then max x.openPos x.closedPos else x.high

/-- The stopping distance S = ceil(v × v / (2000 × a)) (R108). -/
def stoppingDistance (v a : Nat) : Nat := (v * v + (2000 * a - 1)) / (2000 * a)

/-- The stopping distance from an axis's present speed. -/
def Axis.stopping (x : Axis) : Nat := stoppingDistance x.v x.accel

/-- The direction from an axis's position toward a target; its own direction when it stands there. -/
def Axis.toward (x : Axis) (target : Int) : Dir :=
  if x.pos < target then .forward else if target < x.pos then .reverse else x.dir

/-- The rest state: IDLE when homed, UNHOMED otherwise (R105). -/
def Axis.restState (x : Axis) : AxisState := if x.homed then .idle else .unhomed

/-- An axis that comes to rest (R105). -/
def Axis.rest (x : Axis) : Axis :=
  { x with state := x.restState, v := 0, f := 0, motion := .none, phase := .cruise, met := false }

/-- Whether an axis is MOVING or HOMING, so that stopping it from outside hands over an axis ending (R119, R120). -/
def Axis.underWay (x : Axis) : Bool := x.state == .moving || x.state == .homing

/-- Whether the axis update works on an axis (R107). -/
def Axis.updates (x : Axis) : Bool := x.underWay || (x.state == .fault && 0 < x.v)

/-- The position of a gate goal; none for no goal. -/
def Axis.goalPos (x : Axis) : Option Int :=
  match x.goal with
  | .none => none
  | .open_ => some x.openPos
  | .closed => some x.closedPos

/-- The derived gate state (R118); an axis of another kind reads UNKNOWN (log entry 22). -/
def Axis.gateState (x : Axis) : GateState :=
  if x.kind ≠ .gate ∨ x.homed = false then .unknown
  else if x.state = .idle ∧ x.pos = x.openPos then .open_
  else if x.state = .idle ∧ x.pos = x.closedPos then .closed
  else if x.state = .moving ∧ x.motion = .position x.closedPos then .closing
  else .opening

/-- The homing direction (R114). -/
def Axis.homeDir (x : Axis) : Dir := if x.kind = .rotary then .forward else .reverse

/-! ## Targets, homing and faults -/

/-- A position taken as target, from rest or as a retarget (R110). -/
def Axis.retarget (p : Int) (x : Axis) : Axis :=
  let y := { x with state := .moving, motion := .position p, met := false }
  let ahead := (x.dir = .forward ∧ x.pos < p) ∨ (x.dir = .reverse ∧ p < x.pos)
  if x.v = 0 then { y with dir := x.toward p, phase := .cruise }
  else if ahead ∧ x.stopping ≤ (p - x.pos).natAbs then { y with phase := .cruise }
  else { y with phase := .reversing }

/-- The remaining distance of a stop-at from an angle, lengthened by one revolution when it falls short of S (R112). -/
def stopAtDistance (spr angle : Nat) (pos : Int) (dir : Dir) (stopping : Nat) : Nat :=
  let d := match dir with
    | .forward => (((angle : Int) - pos) % spr).toNat
    | .reverse => ((pos - angle) % spr).toNat
  if d < stopping then d + spr else d

/-- Entering HOMING in HOME mode (R114): through REVERSING when the axis moves the other way. Log entry 18 (DEDUCED). -/
def Axis.enterHoming (x : Axis) : Axis :=
  let y := { x with state := .homing, homed := false, fault := none, homeRun := 0, homeTravel := 0, motion := .home, met := false }
  if x.v = 0 then { y with dir := x.homeDir, phase := .cruise }
  else if x.dir = x.homeDir then { y with phase := .cruise }
  else { y with phase := .reversing }

/-- Entering FAULT with a code (R118). The motion mode and the phase in FAULT are log entry 49 (DESIGN CHOICE). -/
def Axis.enterFault (code : AxisFaultCode) (x : Axis) : Axis :=
  { x with state := .fault, homed := false, fault := some code, motion := .none, phase := .cruise, goal := .none, met := false,
           f := if x.v = 0 then 0 else x.f }

/-! ## The axis update (R107 to R109, R113, R114) -/

/-- A speed moved toward a wanted speed by at most `a` (R107). -/
def ramp (v a wanted : Nat) : Nat := if v < wanted then min (v + a) wanted else max (v - a) wanted

/-- Step 1 toward a wanted speed in a wanted direction, through REVERSING when the direction differs (R107). -/
def Axis.rampTo (wanted : Nat) (d : Dir) (x : Axis) : Axis :=
  if d ≠ x.dir ∧ 0 < x.v then
    if x.v ≤ x.accel then { x with v := 0, dir := d, phase := .cruise } else { x with v := x.v - x.accel, phase := .reversing }
  else { x with v := ramp x.v x.accel wanted, dir := d, phase := .cruise }

/-- Step 1 toward a target at the remaining distance `R` (R108, R110). -/
def Axis.targetSpeed (R : Nat) (x : Axis) : Nat :=
  if R ≤ x.stopping then max (x.v - x.accel) x.creep else min (x.v + x.accel) x.maxSpeed

/-- Step 1, velocity (R107, R108, R110). -/
def Axis.velocity (x : Axis) : Axis :=
  if x.state = .fault then { x with v := x.v - x.accel }
  else
    match x.motion with
    | .none => x
    | .speed w d => x.rampTo w d
    | .home => x.rampTo x.creep x.homeDir
    | .stop => { x with v := x.v - x.accel }
    | .stopAt _ r => { x with v := x.targetSpeed r }
    | .position p =>
      match x.phase with
      | .cruise => { x with v := x.targetSpeed (p - x.pos).natAbs }
      | .reversing =>
        if x.v ≤ x.accel then { x with v := 0, dir := x.toward p, phase := .cruise } else { x with v := x.v - x.accel }

/-- The distance to the limit in the direction of travel, for an axis that has one (R109). Log entry 23 (DEDUCED). -/
def Axis.limitDistance (x : Axis) : Option Nat :=
  if x.kind = .rotary ∨ x.homed = false then none
  else
    match x.dir with
    | .forward => some (x.highLimit - x.pos).toNat
    | .reverse => some (x.pos - x.lowLimit).toNat

/-- The step count cut to the target's remaining distance: a TARGET-mode axis in CRUISE (R108). Log entry 23 (DEDUCED). -/
def Axis.cutToTarget (n : Nat) (x : Axis) : Nat :=
  match x.motion, x.phase with
  | .position p, .cruise => min n (p - x.pos).natAbs
  | .stopAt _ r, _ => min n r
  | _, _ => n

/-- Step 4, emission of `n` steps (R107): position or angle, travel since index, home travel, remaining distance. Log entry 17
(DEDUCED). -/
def Axis.emit (n : Nat) (x : Axis) : Axis :=
  let p := match x.dir with
    | .forward => x.pos + n
    | .reverse => x.pos - n
  { x with
    pos := if x.kind = .rotary then p % x.spr else p
    travel := if x.kind = .rotary ∧ x.dir = .forward then min (x.travel + n) (2 * x.spr + 20) else x.travel
    homeTravel := if x.motion = .home then x.homeTravel + n else x.homeTravel
    motion := match x.motion with
      | .stopAt angle r => .stopAt angle (r - n)
      | m => m }

/-- The signed error of a confirmed index (R113). -/
def indexError (spr offset : Nat) (angle : Int) : Int :=
  let d := (angle - offset) % spr
  if d ≤ (spr / 2 : Nat) then d else d - spr

/-- The index run after a sample: it counts toward the run only under forward travel (R113). -/
def indexRunAfter (input counts : Bool) (run : Nat) : Nat := if input && counts then min 2 (run + 1) else 0

/-- A confirmed index (R113): the angle becomes the offset, the axis is homed unless it is in FAULT (R105), and a stop-at is laid out
again with S from the speed before the update. Log entry 19 (DESIGN CHOICE). -/
def Axis.confirmIndex (stopping : Nat) (x : Axis) : Axis :=
  { x with
    indexRun := 0, armed := false, travel := 0, pos := x.offset, homed := x.state != .fault
    motion := match x.motion with
      | .stopAt angle _ => .stopAt angle (stopAtDistance x.spr angle x.offset x.dir stopping)
      | m => m }

/-- What an axis update ends with (R107, step 6). -/
inductive UpdateEnd where
  | goesOn
  | arrival
  | speedReached
  | stopRest
  | homed
  | homedOnward
  | missing (code : AxisFaultCode)
deriving DecidableEq, Repr

/-- The result of one axis update: the record, the step pulses, a confirmed index with its error and slip, and the end. -/
structure UpdateResult where
  axis : Axis
  pulses : Nat
  index : Option (Int × Bool)
  finish : UpdateEnd
deriving DecidableEq, Repr

/-- Step 6 for a home that is confirmed (R114): a GATE axis with a goal goes on to it. The home run stands at the 2 that
confirmed it. Log entry 18 (DEDUCED). An axis that was still REVERSING keeps its direction. Log entry 56 (DESIGN CHOICE). -/
def Axis.homeConfirmed (x : Axis) : Axis × UpdateEnd :=
  let y := { x with pos := 0, v := 0, f := 0, homed := true, homeRun := 2 }
  match y.goalPos with
  | some p => if y.kind = .gate ∧ p ≠ 0 then (y.retarget p, .homedOnward) else (y.rest, .homed)
  | none => (y.rest, .homed)

/-- Step 6, the completion by motion mode when nothing is missing (R107 to R111). `limited` marks a limit stop. -/
def Axis.complete (limited : Bool) (x : Axis) : Axis × UpdateEnd :=
  match x.motion with
  | .position p =>
    if x.phase = .cruise ∧ x.pos = p then (x.rest, .arrival)
    else if limited ∧ x.phase = .reversing then ({ x with v := 0, f := 0, dir := x.toward p, phase := .cruise }, .goesOn)
    else (x, .goesOn)
  | .stopAt _ r => if r = 0 then (x.rest, .arrival) else (x, .goesOn)
  | .speed w d =>
    if x.v = w ∧ x.dir = d ∧ x.met = false then
      if w = 0 then (x.rest, .speedReached) else ({ x with met := true }, .speedReached)
    else (x, .goesOn)
  | .stop => if x.v = 0 ∨ limited then (x.rest, .stopRest) else (x, .goesOn)
  | .home => (x, .goesOn)
  | .none => (x, .goesOn)

/-- Step 6 for an axis whose input is not missing: completion by motion mode, and in FAULT the fraction is cleared once the axis
stands (R107). -/
def Axis.conclude (limited : Bool) (x : Axis) : Axis × UpdateEnd :=
  if x.state = .fault then ({ x with f := if x.v = 0 then 0 else x.f }, .goesOn) else x.complete limited

/-- One axis update of an axis that is MOVING, HOMING, or decelerating in FAULT, with the level of its input (R107). Log entry 19
(DESIGN CHOICE). -/
def Axis.update (input : Bool) (x0 : Axis) : UpdateResult :=
  let x1 := x0.velocity
  let n0 := (x1.f + x1.v) / 1000
  let n1 := x1.cutToTarget n0
  let limited := x1.limitDistance.any fun d => d ≤ n1
  let n := (x1.limitDistance.map fun d => min n1 d).getD n1
  let x2 := { x1 with f := (x1.f + x1.v) % 1000 }.emit n
  if x2.kind = .rotary then
    let run := indexRunAfter input (x0.dir == .forward && 0 < x0.v) x2.indexRun
    let armed := x2.armed || !input
    if run = 2 ∧ armed then
      let err := indexError x2.spr x2.offset x2.pos
      let report := if x2.homed then (err, decide (x2.tolerance < err.natAbs)) else (0, false)
      let x3 := x2.confirmIndex x0.stopping
      if x2.state ≠ .fault ∧ x2.motion = .home then { axis := x3.rest, pulses := n, index := some report, finish := .homed }
      else
        let c := x3.conclude false
        { axis := c.1, pulses := n, index := some report, finish := c.2 }
    else
      let x3 := { x2 with indexRun := run, armed := armed }
      if x2.state ≠ .fault ∧ 2 * x3.spr < x3.travel then
        { axis := x3.enterFault .indexMissing, pulses := n, index := none, finish := .missing .indexMissing }
      else
        let c := x3.conclude false
        { axis := c.1, pulses := n, index := none, finish := c.2 }
  else if x2.state ≠ .fault ∧ x2.motion = .home then
    let run := if input then min 2 (x2.homeRun + 1) else 0
    if run = 2 then
      let c := x2.homeConfirmed
      { axis := c.1, pulses := n, index := none, finish := c.2 }
    else
      let x3 := { x2 with homeRun := run }
      if 2 * (x3.highLimit - x3.lowLimit).toNat + 100 < x3.homeTravel then
        { axis := x3.enterFault .homeMissing, pulses := n, index := none, finish := .missing .homeMissing }
      else { axis := x3, pulses := n, index := none, finish := .goesOn }
  else
    let c := x2.conclude limited
    { axis := c.1, pulses := n, index := none, finish := c.2 }

/-! ## Events of an axis (R118, R122) -/

/-- The crossings, in index order, whose gate axis is `a`. -/
def State.crossingsOf (s : State) (a : Fin 8) : List (Fin 4) :=
  (indices 4).filter fun c => (s.track.crossings.get c).defn.any fun d => d.axis == a

/-- A change of an axis's derived gate state: GATE_STATE for each crossing it serves, which the Track Controller takes in turn (R118). -/
def syncGate (a : Fin 8) (s : State) : State :=
  let x := s.axes.get a
  if x.gateState = x.reported then s
  else
    let s1 := s.modAxis a fun x => { x with reported := x.gateState }
    if x.kind = .gate then
      forEach (s.crossingsOf a) (fun c s => (s.raise (.gateState c x.gateState)).later (.gateSeen c x.gateState)) s1
    else s1

/-- A fault of an axis; an axis already in FAULT keeps its code and raises nothing (R118). -/
def faultAxis (a : Fin 8) (code : AxisFaultCode) (s : State) : State :=
  if (s.axes.get a).state = .fault then s
  else syncGate a ((s.modAxis a (Axis.enterFault code)).raise (.axisFault a code))

/-- The events of an update's end (R122). -/
def UpdateEnd.events (a : Fin 8) : UpdateEnd → List Event
  | .goesOn => []
  | .arrival => [.axisDone a]
  | .speedReached => [.axisDone a]
  | .stopRest => [.axisDone a]
  | .homed => [.axisDone a]
  | .homedOnward => []
  | .missing code => [.axisFault a code]

/-- The events of an update, in order: the confirmed index, then its end. Log entry 36 (DESIGN CHOICE). -/
def UpdateResult.events (a : Fin 8) (r : UpdateResult) : List Event :=
  (match r.index with
    | some (err, slip) => [Event.axisIndex a err slip]
    | none => []) ++ r.finish.events a

/-! ## Requests (R106, R111 to R116) -/

/-- The fields of a taken AXIS_CONFIG, clamped (R106). -/
def Axis.configured (k : AxisKind) (c : RawAxisConfig) (x : Axis) : Axis :=
  let maxSpeed := clampTo 1 20000 c.maxSpeed
  { x with
    kind := k, maxSpeed := maxSpeed, accel := clampTo 1 2000 c.accel, creep := min maxSpeed (clampTo 1 1000 c.creep), spr := c.spr
    offset := c.offset, tolerance := min 1000 c.tolerance, low := c.low, high := c.high, openPos := c.openPos, closedPos := c.closedPos }

/-- Whether a configuration changes more than speeds, accel or tolerance (R106). -/
def Axis.differsIn (k : AxisKind) (c : RawAxisConfig) (x : Axis) : Bool :=
  !(x.kind == k && x.spr == c.spr && x.offset == c.offset && x.low == c.low && x.high == c.high && x.openPos == c.openPos
    && x.closedPos == c.closedPos)

/-- The record after a taken AXIS_CONFIG (R106). An angle the new revolution does not hold is open (log entry 20). -/
def Axis.reconfigure (k : AxisKind) (c : RawAxisConfig) (x : Axis) : Axis :=
  let y := x.configured k c
  let differs := x.differsIn k c
  let homed := x.homed && !differs && x.state != .fault
  { y with
    homed := homed
    state := if homed then .idle else .unhomed
    fault := none, travel := 0, indexRun := 0, homeRun := 0, armed := true, goal := .none
    f := if x.state = .fault then 0 else y.f
    pos := if k = .rotary ∧ ¬(0 ≤ x.pos ∧ x.pos < c.spr) then ((Config.openAngle x.pos c.spr % c.spr : Nat) : Int) else y.pos }

/-- Whether a clamp changes a field of AXIS_CONFIG (R106). -/
def axisConfigClamps (c : RawAxisConfig) : Bool :=
  c.maxSpeed < 1 || 20000 < c.maxSpeed || c.accel < 1 || 2000 < c.accel || c.creep < 1 || 1000 < c.creep || 1000 < c.tolerance
    || clampTo 1 20000 c.maxSpeed < clampTo 1 1000 c.creep

/-- Gate positions that lie in ±1,000,000, are unequal, and have 0 between them or at one of them (R106). -/
def gatePositionsValid (o c : Int) : Bool :=
  -1000000 ≤ o && o ≤ 1000000 && -1000000 ≤ c && c ≤ 1000000 && o != c && min o c ≤ 0 && 0 ≤ max o c

/-- AXIS_CONFIG (R106). -/
def doAxisConfig (axis : Nat) (c : RawAxisConfig) (s : State) : Handled :=
  match fin? 8 axis, axisKindOf c.kind with
  | some a, some k =>
    let x := s.axes.get a
    if c.spr < 2 ∨ 65535 < c.spr ∨ c.spr ≤ c.offset then (s, refuse .outOfRange)
    else if c.low < -1000000 ∨ 0 < c.low ∨ c.high < 0 ∨ 1000000 < c.high then (s, refuse .outOfRange)
    else if gatePositionsValid c.openPos c.closedPos = false then (s, refuse .invalid)
    else if ¬(x.state = .unhomed ∨ x.state = .idle ∨ (x.state = .fault ∧ x.v = 0)) then (s, refuse .wrongState)
    else
      match s.crossingsOf a with
      | i :: _ =>
        if s.track.config = .operational ∧ k ≠ .gate then (s, refuseAt .inUse 5 i.1 0)
        else (syncGate a (s.modAxis a (Axis.reconfigure k c)), okay.clampedBy (axisConfigClamps c))
      | [] => (syncGate a (s.modAxis a (Axis.reconfigure k c)), okay.clampedBy (axisConfigClamps c))
  | _, _ => (s, refuse .outOfRange)

/-- What an AXIS_SPEED already met asks (R111): a speed of 0 of an axis at rest, or the running speed and direction. -/
def Axis.meets (speed : Nat) (d : Dir) (x : Axis) : Bool :=
  if x.state == .moving then 0 < speed && x.v == speed && x.dir == d else speed == 0

/-- AXIS_SPEED put in force (R111). -/
def Axis.startSpeed (speed : Nat) (d : Dir) (x : Axis) : Axis :=
  let y := { x with state := .moving, motion := .speed speed d, met := false }
  if x.v = 0 then { y with dir := d, phase := .cruise }
  else if x.dir = d then { y with phase := .cruise }
  else { y with phase := .reversing }

/-- AXIS_SPEED (R111, R116). Log entry 39 (DEDUCED). -/
def doAxisSpeed (axis speed direction : Nat) (s : State) : Handled :=
  match fin? 8 axis with
  | none => (s, refuse .outOfRange)
  | some a =>
    let x := s.axes.get a
    if x.kind = .gate then (s, refuse .inUse)
    else if x.kind ≠ .rotary then (s, refuse .wrongState)
    else if x.state = .held then (s, refuse .interlocked)
    else if s.supply.rails.motion = false then (s, refuse .interlocked)
    else if ¬(x.state = .unhomed ∨ x.state = .idle ∨ x.state = .moving) then (s, refuse .wrongState)
    else
      match dirOf direction with
      | none => (s, refuse .outOfRange)
      | some d =>
        let w := min speed x.maxSpeed
        let clamped := decide (x.maxSpeed < speed)
        if x.meets w d then
          let s1 := if x.state = .moving then s.modAxis a fun x => { x.startSpeed w d with met := true } else s
          (s1.raise (.axisDone a), okay.clampedBy clamped)
        else (s.modAxis a (Axis.startSpeed w d), taken.clampedBy clamped)

/-- AXIS_STOP_AT put in force (R112). -/
def Axis.startStopAt (angle : Nat) (x : Axis) : Axis :=
  let dir := if x.state = .moving then x.dir else .forward
  { x with state := .moving, dir := dir, phase := .cruise, met := false
           motion := .stopAt angle (stopAtDistance x.spr angle x.pos dir x.stopping) }

/-- AXIS_STOP_AT (R112, R116). -/
def doAxisStopAt (axis angle : Nat) (s : State) : Handled :=
  match fin? 8 axis with
  | none => (s, refuse .outOfRange)
  | some a =>
    let x := s.axes.get a
    if x.kind = .gate then (s, refuse .inUse)
    else if x.kind ≠ .rotary then (s, refuse .wrongState)
    else if x.state = .held then (s, refuse .interlocked)
    else if s.supply.rails.motion = false then (s, refuse .interlocked)
    else if ¬(x.homed = true ∧ (x.state = .idle ∨ x.state = .moving)) then (s, refuse .wrongState)
    else if x.spr ≤ angle then (s, refuse .outOfRange)
    else
      let y := x.startStopAt angle
      if y.motion = .stopAt angle 0 then ((s.modAxis a fun x => (x.startStopAt angle).rest).raise (.axisDone a), okay)
      else (s.modAxis a (Axis.startStopAt angle), taken)

/-- AXIS_MOVE (R114, R116). -/
def doAxisMove (axis : Nat) (position : Int) (s : State) : Handled :=
  match fin? 8 axis with
  | none => (s, refuse .outOfRange)
  | some a =>
    let x := s.axes.get a
    if x.kind = .gate then (s, refuse .inUse)
    else if x.kind ≠ .positional then (s, refuse .wrongState)
    else if x.state = .held then (s, refuse .interlocked)
    else if s.supply.rails.motion = false then (s, refuse .interlocked)
    else if ¬(x.homed = true ∧ (x.state = .idle ∨ x.state = .moving)) then (s, refuse .wrongState)
    else
      let p := clampInt x.low x.high position
      let clamped := decide (p ≠ position)
      if x.state = .idle ∧ x.pos = p then (s.raise (.axisDone a), okay.clampedBy clamped)
      else (s.modAxis a (Axis.retarget p), taken.clampedBy clamped)

/-- AXIS_HOME (R114, R116). -/
def doAxisHome (axis : Nat) (s : State) : Handled :=
  match fin? 8 axis with
  | none => (s, refuse .outOfRange)
  | some a =>
    let x := s.axes.get a
    if x.state = .held then (s, refuse .interlocked)
    else if s.supply.rails.motion = false then (s, refuse .interlocked)
    else if x.state = .homing then (s, taken)
    else (syncGate a (s.modAxis a Axis.enterHoming), taken)

/-- AXIS_STOP (R115, R116). In STOP mode the axis shows phase CRUISE, from REVERSING too: log entry 62 (DESIGN CHOICE). -/
def doAxisStop (axis : Nat) (s : State) : Handled :=
  match fin? 8 axis with
  | none => (s, refuse .outOfRange)
  | some a =>
    let x := s.axes.get a
    if x.kind = .gate then (s, refuse .inUse)
    else if x.state = .held then (s, refuse .interlocked)
    else if x.state = .fault then (s, refuse .wrongState)
    else if x.underWay then
      (s.modAxis a fun x => { x with state := .moving, motion := .stop, phase := .cruise, met := false }, taken)
    else (s.raise (.axisDone a), okay)

/-- A motion mode's number: NONE, SPEED, TARGET, STOP, HOME in the order of R104; NONE is 0xFF (R172). -/
def Motion.code : Motion → Nat
  | .none => 0xFF
  | .speed _ _ => 0
  | .position _ => 1
  | .stopAt _ _ => 1
  | .stop => 2
  | .home => 3

/-- A gate goal's number: OPEN 0, CLOSED 1, NONE 0xFF (R172). -/
def GateGoal.code : GateGoal → Nat
  | .none => 0xFF
  | .open_ => 0
  | .closed => 1

/-- A phase's number. -/
def Phase.code : Phase → Nat
  | .cruise => 0
  | .reversing => 1

/-- The wanted speed and direction in a reply, as a record that may be absent (R177). -/
def datWanted : Motion → List Byte
  | .speed w d => dat 1 1 ++ dat 2 w ++ dat 1 d.code
  | _ => dat 1 0 ++ dat 3 0

/-- The target in a reply, as a record that may be absent (R177): for a ROTARY axis the stop angle in the two bytes of AXIS_STOP_AT, for
another kind the position in the four bytes of AXIS_MOVE, each with its remaining distance (R122). Log entry 43 (DESIGN CHOICE). -/
def datTarget (x : Axis) : List Byte :=
  match x.motion with
  | .position p => dat 1 1 ++ datS 4 p ++ dat 4 (p - x.pos).natAbs
  | .stopAt angle r => dat 1 1 ++ dat 2 angle ++ dat 4 r
  | _ => dat 1 0 ++ List.replicate (if x.kind = .rotary then 6 else 8) 0#8

/-- AXIS_QUERY (R122). The position or angle takes four bytes for every kind: log entry 65 (DESIGN CHOICE). -/
def doAxisQuery (axis : Nat) (s : State) : Handled :=
  match fin? 8 axis with
  | none => (s, refuse .outOfRange)
  | some a =>
    let x := s.axes.get a
    (s, okWith (dat 1 x.kind.code ++ dat 2 x.maxSpeed ++ dat 2 x.accel ++ dat 2 x.creep ++ dat 2 x.spr ++ dat 2 x.offset
      ++ dat 2 x.tolerance ++ datS 4 x.low ++ datS 4 x.high ++ datS 4 x.openPos ++ datS 4 x.closedPos ++ dat 1 x.state.code
      ++ datF x.homed ++ dat 2 x.v ++ dat 1 x.dir.code ++ datS 4 x.pos ++ dat 2 x.f ++ dat 1 x.motion.code ++ datWanted x.motion
      ++ datTarget x ++ dat 1 x.phase.code ++ dat 1 x.goal.code ++ dat 1 x.gateState.code ++ dat 1 x.indexRun ++ datF x.armed
      ++ dat 4 x.travel ++ dat 1 x.homeRun ++ dat 4 x.homeTravel ++ datO 1 (x.fault.map AxisFaultCode.code)))

/-! ## Gate axes (R117, R118) -/

/-- A crossing command as a goal. -/
def GateWish.goal : GateWish → GateGoal
  | .close => .closed
  | .open_ => .open_

/-- The position a crossing command asks for. -/
def Axis.wishPos (x : Axis) : GateWish → Int
  | .close => x.closedPos
  | .open_ => x.openPos

/-- A gate axis takes a crossing command (R117). -/
def Axis.command (railUp : Bool) (w : GateWish) (x : Axis) : Axis :=
  if x.kind ≠ .gate ∨ x.state = .fault then x
  else
    let y := { x with goal := w.goal }
    if x.state = .held ∨ railUp = false then y
    else if x.state = .homing then y
    else if x.homed = false then y.enterHoming
    else if x.state = .idle ∧ x.pos = x.wishPos w then y
    else y.retarget (x.wishPos w)

/-- A crossing command to its gate axis, with the GATE_STATE of any change (R117, R118). -/
def gateCommand (a : Fin 8) (w : GateWish) (s : State) : State :=
  syncGate a (s.modAxis a (Axis.command s.supply.rails.motion w))

/-- A kept goal carried out as its command would be (R117, R120, R121). -/
def carryGoal (a : Fin 8) (s : State) : State :=
  match (s.axes.get a).goal with
  | .none => s
  | .open_ => gateCommand a .open_ s
  | .closed => gateCommand a .close s

/-- GATE_RETRY at the gate axis (R118): with the MOTION rail DOWN the goal and the need to home are kept. An axis that is already HOMING
enters it afresh, which is log entry 48 (DESIGN CHOICE). -/
def Axis.retry (railUp : Bool) (x : Axis) : Axis :=
  let y := { x with goal := .closed, fault := none }
  if railUp then y.enterHoming else { y with homed := false, state := if x.state = .held then .held else .unhomed }

/-- GATE_RETRY reaches the gate axis from its crossing (R118). -/
def retryGate (a : Fin 8) (s : State) : State := syncGate a (s.modAxis a (Axis.retry s.supply.rails.motion))

/-! ## The rail, the interlock and a WARM reset (R119 to R121) -/

/-- An axis at RAIL_CHANGE(MOTION, DOWN) (R119). The phase is log entry 49 (DESIGN CHOICE). -/
def Axis.railDown (x : Axis) : Axis :=
  { x with v := 0, f := 0, motion := .none, phase := .cruise, met := false, homed := false, fault := none
           state := if x.state = .held then .held else .unhomed, travel := 0, indexRun := 0, homeRun := 0, armed := true }

/-- An axis at DRESSING(on) (R120). The phase is log entry 49 (DESIGN CHOICE). -/
def Axis.hold (x : Axis) : Axis :=
  { x with v := 0, f := 0, motion := .none, phase := .cruise, met := false, goal := .none, state := .held }

/-- An axis that leaves HELD at DRESSING(off) (R120); re-entering FAULT drops the goal (R117). Log entry 28 (DEDUCED). -/
def Axis.unhold (x : Axis) : Axis :=
  if x.state = .held then
    if x.fault.isSome then { x with state := .fault, goal := .none } else { x with state := x.restState }
  else x

/-- An axis after a WARM reset (R121). The travel since index is kept, as R121 says, where R113 says that the resets set it to 0. Log entry
55 (DESIGN CHOICE). -/
def Axis.warm (x : Axis) : Axis :=
  { x with v := 0, f := 0, motion := .none, phase := .cruise, met := false
           fault := if x.state = .fault then none else x.fault
           state := match x.state with
             | .fault => .unhomed
             | .moving => x.restState
             | .homing => x.restState
             | st => st
           indexRun := 0, homeRun := 0, homeTravel := 0
           resume := x.kind == .gate && x.goal != .none }

/-- The axes under way, in index order. -/
def State.axesUnderWay (s : State) : List (Fin 8) := (indices 8).filter fun a => (s.axes.get a).underWay

/-- The same change to every axis, then an axis ending for each in a list, then each changed gate state (R119, R120), all
in ascending index: log entry 58 (DESIGN CHOICE). -/
def stopAxes (f : Axis → Axis) (ended : List (Fin 8)) (s : State) : State :=
  forEach (indices 8) syncGate (forEach ended (fun a => State.handEnding (.axis a)) (s.modAxes f))

/-- RAIL_CHANGE(MOTION, DOWN) (R119). -/
def motionDown (s : State) : State := stopAxes Axis.railDown s.axesUnderWay s

/-- RAIL_CHANGE(MOTION, UP): each GATE axis UNHOMED with a goal enters HOMING (R119). -/
def Axis.railUp (x : Axis) : Axis := if x.kind = .gate ∧ x.state = .unhomed ∧ x.goal ≠ .none then x.enterHoming else x

/-- RAIL_CHANGE(MOTION, UP) (R119). -/
def motionUp (s : State) : State := stopAxes Axis.railUp [] s

/-- DRESSING(on) at the axes (R120). -/
def holdAxes (s : State) : State := stopAxes Axis.hold s.axesUnderWay s

/-- DRESSING(off) at the axes: they leave HELD, then each gate axis with a goal carries it out while its rail is UP (R120), in
ascending index: log entry 58 (DESIGN CHOICE). -/
def releaseAxes (s : State) : State :=
  let s1 := stopAxes Axis.unhold [] s
  if s.supply.rails.motion then
    forEach ((indices 8).filter fun a => (s.axes.get a).kind == .gate && (s.axes.get a).state == .held) carryGoal s1
  else s1

/-- The Motion Controller's WARM reset (R121). -/
def warmAxes (s : State) : State := stopAxes Axis.warm [] s

/-! ## The update of one axis -/

/-- The level of an axis's direction line: high for FORWARD (R104). Log entry 41 (DEDUCED). -/
def State.directionLine (s : State) (a : Fin 8) : Bool := (s.axes.get a).dir == .forward

/-- The level of an axis's index or home input. -/
def State.axisInput (s : State) (a : Fin 8) : Bool := s.pins.index.getLsbD a.1

/-- The due update of one axis (R107): an axis that moves is updated with its input's level; a gate goal kept over a WARM reset
is carried out at the first update (R121). Log entry 36 (DESIGN CHOICE). -/
def updateAxis (a : Fin 8) (s : State) : State :=
  let s0 := s.modSched fun d => { d with axes := d.axes &&& ~~~(1#8 <<< a.1) }
  let x := s.axes.get a
  if x.updates then
    let r := x.update (s.axisInput a)
    let s1 := (s0.modAxis a fun _ => { r.axis with resume := false }).modOuts fun o => { o with pulses := o.pulses.set a r.pulses }
    syncGate a (s1.raiseAll (r.events a))
  else
    let s1 := (s0.modAxis a fun x => { x with resume := false }).modOuts fun o => { o with pulses := o.pulses.set a 0 }
    if x.resume then carryGoal a s1 else s1

end Sys2Proof.Machine
end

