-- ==== Sys2Proof/Machine/Drive.lean ====
section
/-! DEFINITION. What the Train Controller works out for a train (R63, R86, R87, R95, R96, R98): its state, its head and authority,
its effective target speed and needed speed step, the section outputs, and how a train stops and how its route ends. -/

namespace Sys2Proof.Machine

/-! ## Senses and ends (R63) -/

/-- The sense in which a section entered at an end is travelled. -/
def End.sense : End → Sense
  | .a => .aToB
  | .b => .bToA

/-- The end by which a train leaves a section. -/
def Sense.exitEnd : Sense → End
  | .aToB => .b
  | .bToA => .a

/-- The other sense. -/
def Sense.flip : Sense → Sense
  | .aToB => .bToA
  | .bToA => .aToB

/-- The other end. -/
def End.other : End → End
  | .a => .b
  | .b => .a

/-! ## Section states -/

/-- A section's running state (R68). -/
def State.sec (s : State) (x : Fin 48) : SecState := (s.track.runs.get x).state

/-- A section's holder train (R68). -/
def SecState.holder : SecState → Option (Fin 8)
  | .pending t => some t
  | .reserved t => some t
  | .occupied t => some t
  | _ => Option.none

/-- The sections a train holds, rear to front. -/
def State.heldOf (s : State) (t : Fin 8) : List (Fin 48 × Sense) := (s.trains.get t).held

/-- A train's frontmost held section with its sense. -/
def State.frontOf (s : State) (t : Fin 8) : Option (Fin 48 × Sense) := (s.heldOf t).getLast?

/-! ## Head, authority, state (R86, R87) -/

/-- The list index of a train's head: its frontmost OCCUPIED section (R87). -/
def State.headIndex (s : State) (t : Fin 8) : Option Nat :=
  ((s.heldOf t).zipIdx.filter fun e => s.sec e.1.1 == .occupied t).getLast?.map fun e => e.2

/-- The authority: the RESERVED sections immediately in front of the head (R87). -/
def State.authority (s : State) (t : Fin 8) : List (Fin 48) :=
  match s.headIndex t with
  | none => []
  | some i => (((s.heldOf t).drop (i + 1)).takeWhile fun e => s.sec e.1 == .reserved t).map Prod.fst

/-- A train's state (R86). -/
inductive TrainState where
  | unplaced
  | standing
  | running
  | halted
deriving DecidableEq, Repr

/-- The state of a train follows from whether it is placed, its halt fault and its current speed (R86). -/
def Train.state (x : Train) : TrainState :=
  if x.placed = false then .unplaced else if x.halt.isSome then .halted else if x.speed = 0 then .standing else .running

def TrainState.code : TrainState → Nat
  | .unplaced => 0
  | .standing => 1
  | .running => 2
  | .halted => 3

/-- Detection reads and trains run only while track power is on: the TRACK rail UP and the cut-off inactive (R67, R95). -/
def State.trackPowered (s : State) : Bool := s.supply.rails.track && !s.supply.cutoff

/-- The effective target speed of a placed train (R95), and 0 for an UNPLACED one. Log entry 50 (DESIGN CHOICE). -/
def State.effective (s : State) (t : Fin 8) : Nat :=
  let x := s.trains.get t
  if x.placed = false ∨ x.halt.isSome ∨ s.trackPowered = false ∨ s.engaged ∨ s.authority t = [] then 0 else x.requested

/-! ## The ramp (R96) -/

/-- The direction of the step from a current speed toward an effective target (R96). -/
def neededDir (speed target : Nat) : RampDir := if speed < target then .up else if target < speed then .down else .level

/-- A train whose needed step is `d`: when the direction is another than before, the ramp timer starts again from 0 (R96). -/
def Train.aim (d : RampDir) (x : Train) : Train := if x.dir = d then x else { x with dir := d, timer := 0, stepDue := false }

/-- The needed step of a train worked out again (R95, R96). -/
def resync (t : Fin 8) (s : State) : State := s.modTrain t (Train.aim (neededDir (s.trains.get t).speed (s.effective t)))

/-- The needed step of every train worked out again. -/
def resyncAll (s : State) : State := forEach (indices 8) resync s

/-- The ramp interval of the needed step (R96). -/
def Train.interval (x : Train) : Nat := if x.dir = .up then x.accel else x.decel

/-- The ramp timer at a real millisecond: it counts while a step is needed, and marks the step due when it has reached the
interval (R96). -/
def Train.tick (x : Train) : Train :=
  if x.dir = .level then x
  else
    let n := min 255 (x.timer + 1)
    { x with timer := n, stepDue := decide (x.interval ≤ n) }

/-- One ramp step of a train (R96). -/
def Train.step (x : Train) : Train :=
  { x with timer := 0, stepDue := false, speed := if x.dir = .up then x.speed + 1 else x.speed - 1 }

/-- The stop reason when the ramp brings the speed to 0 (R96). -/
def Train.rampReason (x : Train) : StopReason := if x.requested = 0 then .request else .authority

/-- A due ramp step (R96). -/
def rampStep (t : Fin 8) (s : State) : State :=
  let x := s.trains.get t
  if x.stepDue = true ∧ x.dir ≠ .level then
    let s1 := s.modTrain t Train.step
    let s2 :=
      if x.dir = .down ∧ x.speed = 1 then
        (s1.modTrain t fun y => { y with stop := y.rampReason }).raise (.trainStopped t x.rampReason)
      else s1
    resync t s2
  else s

/-! ## Section outputs (R63, R98) -/

/-- The duty of a section's PWM line (R98). Log entry 41 (DEDUCED). -/
def State.sectionDuty (s : State) (x : Fin 48) : Nat :=
  if s.trackPowered = true ∧ s.engaged = false ∧ s.track.config = .operational then
    match s.sec x with
    | .occupied t => (s.trains.get t).speed * 1023 / 255
    | .reserved t => if (s.authority t).contains x then (s.trains.get t).speed * 1023 / 255 else 0
    | _ => 0
  else 0

/-- The sense in which a section's holder travels it. -/
def State.senseOf (s : State) (x : Fin 48) : Option Sense :=
  match (s.sec x).holder with
  | none => none
  | some t => ((s.heldOf t).find? fun e => e.1 == x).map Prod.snd

/-- The level of a section's polarity line: high for A_TO_B (R63). -/
def State.polarity (s : State) (x : Fin 48) : Bool :=
  s.track.config == .operational && s.senseOf x == some .aToB

/-! ## Stops and route endings (R92, R93, R99, R100) -/

/-- A train at once at speed 0 for a supply condition (R99). -/
def emergencyStopOne (reason : StopReason) (t : Fin 8) (s : State) : State :=
  let x := s.trains.get t
  if x.placed = true ∧ x.halt = none then
    if x.speed = 0 then s.modTrain t fun y => { y with timer := 0, stepDue := false }
    else (s.modTrain t fun y => { y with timer := 0, stepDue := false, speed := 0, stop := reason }).raise (.trainStopped t reason)
  else s

/-- Every train stops at once (R99), in ascending index: log entry 58 (DESIGN CHOICE). -/
def emergencyStop (reason : StopReason) (s : State) : State :=
  resyncAll (forEach (indices 8) (emergencyStopOne reason) s)

/-- The route of a train ends by a ROUTE_FAULT: claim NONE, route queue cleared, route closed (R93). -/
def routeFault (t : Fin 8) (reason : RouteReason) (s : State) : State :=
  (s.modTrain t fun x => { x with claim := .none, queue := [], routeEnd := none }).raise (.routeFault t reason)

/-- An open route is replaced or closed without fault: the Cue Engine is handed a route ending (R92, R94, R100). -/
def routeEnding (t : Fin 8) (s : State) : State :=
  if (s.trains.get t).routeEnd.isSome then s.handEnding (.route t) else s

/-- A halt handed to the Train Controller; a train already HALTED keeps its first fault (R100). -/
def haltTrain (t : Fin 8) (fault : HaltFault) (s : State) : State :=
  if (s.trains.get t).halt.isSome then s
  else
    resync t ((s.modTrain t fun x =>
      { x with speed := 0, requested := 0, timer := 0, stepDue := false, halt := some fault, stop := .none }).raise (.trainHalted t fault))

/-- A train after a WARM reset (R85). -/
def Train.warm (x : Train) : Train :=
  { x with requested := 0, speed := 0, timer := 0, queue := [], claim := .none, routeEnd := none
           stop := if x.placed then .request else .none, halt := none, dir := .level, stepDue := false }

/-- The Train Controller's WARM reset (R85). -/
def warmTrains (s : State) : State := s.modTrains Train.warm

end Sys2Proof.Machine
end

