-- ==== Sys2Proof/Machine/Light.lean ====
section
/-! DEFINITION. The Light Engine's records and requests (R19 to R37): rounded division and the group level a fade gives, fades,
blink generators, gamma tables, channels, output places, and the queries. -/

namespace Sys2Proof.Machine

/-! ## Rounded division (R39) -/

/-- A signed quotient rounded by a rounding mode; the denominator is positive (R39). -/
def roundDiv (mode : Rounding) (num : Int) (den : Nat) : Int :=
  match mode with
  | .down => num / (den : Int)
  | .up => -((-num) / (den : Int))
  | .towardZero => num.tdiv den
  | .nearestEven =>
    let q := num / (den : Int)
    let r := num % (den : Int)
    if 2 * r < den then q else if 2 * r > den then q + 1 else if q % 2 = 0 then q else q + 1

/-! ## Fades (R23, R24, R43) -/

/-- The level a fade gives at its elapsed count (R43). -/
def fadeLevel (mode : Rounding) (f : Fade) : Nat :=
  ((f.fromLevel : Int) + roundDiv mode (((f.toLevel : Int) - f.fromLevel) * f.elapsed) f.duration).toNat

/-- The group level G: the record's, or what the fade in flight gives (R43). -/
def Group.levelNow (g : Group) : Nat :=
  match g.fade with
  | none => g.level
  | some f => fadeLevel g.rounding f

/-- Whether a group has a fade of a base in flight. -/
def Group.fades (base : FadeBase) (g : Group) : Bool :=
  match g.fade with
  | some f => f.base == base
  | none => false

/-- Whether adding `n` to a fade of the given base ends it. -/
def Group.endsFade (base : FadeBase) (n : Nat) (g : Group) : Bool :=
  match g.fade with
  | some f => f.base == base && f.duration ≤ f.elapsed + n
  | none => false

/-- A group whose fade has reached its duration: G becomes the to-level and the fade is absent (R23). -/
def Group.finish (g : Group) : Group :=
  match g.fade with
  | some f => { g with level := f.toLevel, fade := none }
  | none => g

/-- A group whose fade has counted `n` further, short of its duration (R23). -/
def Group.countFade (n : Nat) (g : Group) : Group :=
  match g.fade with
  | some f => { g with fade := some { f with elapsed := f.elapsed + n } }
  | none => g

/-- One group's fade of a base takes `n` (light frames or town seconds): it counts, or it ends and FADE_DONE is raised (R23). -/
def advanceFade (base : FadeBase) (n : Nat) (g : Fin 32) (s : State) : State :=
  let r := s.light.groups.get g
  if r.endsFade base n then (s.modGroup g Group.finish).raise (.fadeDone g)
  else if r.fades base then s.modGroup g (Group.countFade n)
  else s

/-- Every fade of a base takes `n` (R15, R18), in ascending group index: log entry 58 (DESIGN CHOICE). -/
def advanceFades (base : FadeBase) (n : Nat) (s : State) : State := forEach (indices 32) (advanceFade base n) s

/-- A group after a WARM reset: G is the level the fade had reached and the fade is absent (R19, R24). -/
def Group.warm (g : Group) : Group := { g with level := g.levelNow, fade := none }

/-! ## Group requests (R20 to R25) -/

/-- GROUP_SET_MODE (R20). -/
def doGroupSetMode (group mode : Nat) (s : State) : Handled :=
  match fin? 32 group, groupModeOf mode with
  | some g, some m =>
    if m = .curve ∧ (s.light.groups.get g).curve = [] then (s, refuse .wrongState)
    else (s.modGroup g fun r => { r with mode := m }, okay)
  | _, _ => (s, refuse .outOfRange)

/-- The index of the first point whose minute does not exceed the one before it (R21). -/
def curveDrop : List (Nat × Nat) → Nat → Option Nat
  | a :: b :: rest, i => if a.1 < b.1 then curveDrop (b :: rest) (i + 1) else some (i + 1)
  | _, _ => none

/-- GROUP_SET_CURVE (R21). -/
def doGroupSetCurve (group : Nat) (points : List (Nat × Nat)) (s : State) : Handled :=
  match fin? 32 group with
  | none => (s, refuse .outOfRange)
  | some g =>
    if points.length = 1 ∨ 16 < points.length then (s, refuse .outOfRange)
    else match firstIdx (fun x : Nat × Nat => 1439 < x.1) points 0 with
      | some i => (s, refuseAt .outOfRange 2 i 0)
      | none =>
        match curveDrop points 0 with
        | some i => (s, refuseAt .invalid 3 i 0)
        | none =>
          if points = [] ∧ (s.light.groups.get g).mode = .curve then (s, refuse .wrongState)
          else (s.modGroup g fun r => { r with curve := points.map fun x => (x.1, min 4095 x.2) },
            okay.clampedBy (points.any fun x => 4095 < x.2))

/-- GROUP_CONFIG (R22). -/
def doGroupConfig (group rounding gamma : Nat) (s : State) : Handled :=
  match fin? 32 group, roundingOf rounding, fin? 4 gamma with
  | some g, some m, some t => (s.modGroup g fun r => { r with rounding := m, gamma := t }, okay)
  | _, _, _ => (s, refuse .outOfRange)

/-- GROUP_SET_LEVEL (R23, R24). -/
def doGroupSetLevel (group level duration base : Nat) (s : State) : Handled :=
  match fin? 32 group, fadeBaseOf base with
  | some g, some b =>
    let r := s.light.groups.get g
    let target := min 4095 level
    let s1 := if r.fade.isSome then s.handEnding (.fade g) else s
    if duration = 0 then
      ((s1.modGroup g fun r => { r with level := target, fade := none }).raise (.fadeDone g), okay.clampedBy (4095 < level))
    else
      (s1.modGroup g fun r =>
        { r with fade := some { fromLevel := r.levelNow, toLevel := target, duration := duration, elapsed := 0, base := b } },
        taken.clampedBy (4095 < level))
  | _, _ => (s, refuse .outOfRange)

/-- GROUP_SET_BLINK: the word OFF is 0 and a setting is 1; another word is refused (R25; log entry 6). -/
def doGroupSetBlink (group form on off burst : Nat) (s : State) : Handled :=
  match fin? 32 group with
  | none => (s, refuse .outOfRange)
  | some g =>
    if form = 0 then (s.modGroup g fun r => { r with blink := none }, okay)
    else if form = 1 then
      let n := max 1 on
      let f := max 1 off
      (s.modGroup g fun r => { r with blink := some { onFrames := n, offFrames := f, burst := burst, phaseOn := true, counter := n - 1 } },
        okay.clampedBy (on = 0 || off = 0))
    else (s, refuse .outOfRange)

/-! ## Blink generators (R26) -/

/-- A generator after one frame: the next generator, or off at the end of its burst; and whether its phase ended. -/
def Blink.advance (b : Blink) : Option Blink × Bool :=
  if 0 < b.counter then (some { b with counter := b.counter - 1 }, false)
  else if b.phaseOn then (some { b with phaseOn := false, counter := b.offFrames - 1 }, true)
  else if b.burst = 0 then (some { b with phaseOn := true, counter := b.onFrames - 1 }, true)
  else if b.burst = 1 then (none, true)
  else (some { b with phaseOn := true, counter := b.onFrames - 1, burst := b.burst - 1 }, true)

/-- A group's generator advances by one frame; BLINK_DONE at the end of a burst (R26). -/
def advanceBlink (g : Fin 32) (s : State) : State :=
  match (s.light.groups.get g).blink with
  | none => s
  | some b =>
    match b.advance.1 with
    | some b' => s.modGroup g fun r => { r with blink := some b' }
    | none => (s.modGroup g fun r => { r with blink := none }).raise (.blinkDone g)

/-- Every generator advances by one frame (R18, R26), in ascending group index: log entry 58 (DESIGN CHOICE). -/
def advanceBlinks (s : State) : State := forEach (indices 32) advanceBlink s

/-! ## Gamma tables (R27) -/

/-- The index of the first entry that falls below the one before it (R27). -/
def gammaDrop : List Nat → Nat → Option Nat
  | a :: b :: rest, i => if a ≤ b then gammaDrop (b :: rest) (i + 1) else some (i + 1)
  | _, _ => none

/-- GAMMA_WRITE (R27). The payload always carries 17 entries (R175). -/
def doGammaWrite (table : Nat) (entries : List Nat) (s : State) : Handled :=
  match fin? 4 table with
  | none => (s, refuse .outOfRange)
  | some t =>
    match firstIdx (fun x => 1023 < x) entries 0 with
    | some i => (s, refuseAt .outOfRange 1 i 0)
    | none =>
      match gammaDrop entries 0 with
      | some i => (s, refuseAt .invalid 2 i 0)
      | none => (s.modLight fun l => { l with gammas := l.gammas.set t entries }, okay)

/-- GAMMA_QUERY (R27). -/
def doGammaQuery (table : Nat) (s : State) : Handled :=
  match fin? 4 table with
  | none => (s, refuse .outOfRange)
  | some t => (s, okWith ((s.light.gammas.get t).flatMap (dat 2)))

/-! ## Channels (R28, R29) -/

/-- The kind a CHANNEL_CONFIG asks for, or the number of its failing field: channel 0, group 1, kind 2, section 3, aspect 4,
axis 5, window width 6, crossing 7 (R29, R173; log entry 6). Log entry 31 (DEDUCED). -/
def channelKindOf (kind : Nat) (b : RawBinding) : Except Nat ChannelKind :=
  match kind with
  | 0 => .ok .plain
  | 1 => .ok .sodium
  | 2 =>
    match fin? 48 b.item with
    | none => .error 3
    | some x =>
      match aspectOf b.aspect with
      | none => .error 4
      | some a => .ok (.signal x a)
  | 3 =>
    match fin? 8 b.item with
    | none => .error 5
    | some a => if b.width = 0 then .error 6 else .ok (.chase a b.start b.width)
  | 4 =>
    match fin? 4 b.item with
    | none => .error 7
    | some c => .ok (.gate c)
  | _ => .error 2

/-- The sodium state after a CHANNEL_CONFIG: kept while the kind stays SODIUM, else COLD (R29). -/
def Channel.sodiumAfter (c : Channel) (kind : ChannelKind) : Sodium :=
  if c.kind = .sodium ∧ kind = .sodium then c.sodium else .cold

/-- CHANNEL_CONFIG (R29). -/
def doChannelConfig (channel group kind : Nat) (trim : Int) (binding : RawBinding) (warm restrike : Nat) (s : State) : Handled :=
  match fin? 512 channel with
  | none => (s, refuseAt .outOfRange 0 0 0)
  | some c =>
    match fin? 32 group with
    | none => (s, refuseAt .outOfRange 1 0 0)
    | some g =>
      match channelKindOf kind binding with
      | .error field => (s, refuseAt .outOfRange field 0 0)
      | .ok k =>
        (s.modChannel c fun r =>
          { r with group := g, kind := k, trim := clampInt (-512) 511 trim, warmFrames := min 1000 warm,
                   restrikeFrames := min 1000 restrike, sodium := r.sodiumAfter k },
          okay.clampedBy (trim < -512 || 511 < trim || 1000 < warm || 1000 < restrike))

/-! ## Output places (R33, R34) -/

/-- Where a channel's duty leaves the part (R28). -/
inductive Place where
  | none
  | pwm (output : Fin 16)
  | chain (segment : Fin 16) (position : Nat)
deriving DecidableEq, Repr

/-- Whether a segment maps a channel. -/
def Segment.carries (d : Segment) (channel : Nat) : Bool := d.channel ≤ channel && channel < d.channel + d.count

/-- Whether a segment maps a position of a chain. -/
def Segment.maps (d : Segment) (chain : Fin 4) (position : Nat) : Bool :=
  d.chain == chain && d.first ≤ position && position < d.first + d.count

/-- The PWM output that carries a channel, if any. -/
def Light.pwmOf (l : Light) (channel : Nat) : Option (Fin 16) :=
  (indices 16).find? fun o => (l.pwm.get o).any fun c => c.1 == channel

/-- The segment that carries a channel, if any. -/
def Light.segmentOf (l : Light) (channel : Nat) : Option (Fin 16) :=
  (indices 16).find? fun i => (l.segments.get i).any fun d => d.carries channel

/-- A channel's output place, read from the PWM map and the segments (R28). -/
def Light.placeOf (l : Light) (channel : Nat) : Place :=
  match l.pwmOf channel with
  | some o => .pwm o
  | none =>
    match l.segmentOf channel with
    | some i =>
      match l.segments.get i with
      | some d => .chain i (d.first + (channel - d.channel))
      | none => .none
    | none => .none

/-- PWM_MAP (R33). -/
def doPwmMap (output : Nat) (channel : Option Nat) (s : State) : Handled :=
  match fin? 16 output with
  | none => (s, refuse .outOfRange)
  | some o =>
    match channel with
    | none => (s.modLight fun l => { l with pwm := l.pwm.set o none }, okay)
    | some k =>
      match fin? 512 k with
      | none => (s, refuse .outOfRange)
      | some c =>
        match s.light.placeOf c.1 with
        | .pwm o' =>
          if o' = o then (s, okay) else (s, refuseAt .inUse 0 o'.1 0)
        | .chain i _ => (s, refuseAt .inUse 1 i.1 0)
        | .none => (s.modLight fun l => { l with pwm := l.pwm.set o (some c) }, okay)

/-- CHAIN_LENGTH (R34). -/
def doChainLength (chain length : Nat) (s : State) : Handled :=
  match fin? 4 chain with
  | none => (s, refuse .outOfRange)
  | some c =>
    if 128 < length then (s, refuse .outOfRange)
    else (s.modLight fun l => { l with chainLen := l.chainLen.set c length }, okay)

/-- The segment, other than the one being set, that maps the first mapped position of the run (R34; log entry 6). Log entry 16
(DESIGN CHOICE). -/
def segmentClash (l : Light) (seg : Fin 16) (chain : Fin 4) (first count : Nat) : Option (Fin 16) :=
  (List.range' first count).findSome? fun p =>
    (indices 16).find? fun i => i != seg && (l.segments.get i).any fun d => d.maps chain p

/-- The first channel of the run that has an output place at a PWM output or through another segment (R34). -/
def channelClash (l : Light) (seg : Fin 16) (first count : Nat) : Option Nat :=
  (List.range' first count).find? fun c =>
    (l.pwmOf c).isSome || (indices 16).any fun i => i != seg && (l.segments.get i).any fun d => d.carries c

/-- SEGMENT_SET (R34). -/
def doSegmentSet (segment chain first count channel : Nat) (s : State) : Handled :=
  match fin? 16 segment with
  | none => (s, refuse .outOfRange)
  | some i =>
    match fin? 4 chain with
    | none => (s, refuse .outOfRange)
    | some c =>
      if count < 1 ∨ 128 < count then (s, refuse .outOfRange)
      else if 128 < first + count then (s, refuse .outOfRange)
      else if 512 < channel + count then (s, refuse .outOfRange)
      else
        match segmentClash s.light i c first count with
        | some j => (s, refuseAt .inUse 5 j.1 0)
        | none =>
          match channelClash s.light i channel count with
          | some k => (s, refuseAt .inUse 6 k 0)
          | none =>
            (s.modLight fun l =>
              { l with segments := l.segments.set i (some { chain := c, first := first, count := count, channel := channel }) }, okay)

/-- SEGMENT_CLEAR (R34). -/
def doSegmentClear (segment : Nat) (s : State) : Handled :=
  match fin? 16 segment with
  | none => (s, refuse .outOfRange)
  | some i => (s.modLight fun l => { l with segments := l.segments.set i none }, okay)

/-! ## Queries (R37) -/

/-- A fade record in a reply: its fields in the order of R19. -/
def datFade (f : Fade) : List Byte :=
  dat 2 f.fromLevel ++ dat 2 f.toLevel ++ dat 2 f.duration ++ dat 2 f.elapsed ++ dat 1 f.base.code

/-- A blink generator in a reply: its setting (on-frames, off-frames), phase (ON 0, OFF 1), counter and remaining burst (R37). -/
def datBlink (b : Blink) : List Byte :=
  dat 1 b.onFrames ++ dat 1 b.offFrames ++ dat 1 (onOffCode b.phaseOn) ++ dat 1 b.counter ++ dat 1 b.burst

/-- GROUP_QUERY (R37). -/
def doGroupQuery (group : Nat) (s : State) : Handled :=
  match fin? 32 group with
  | none => (s, refuse .outOfRange)
  | some g =>
    let r := s.light.groups.get g
    (s, okWith (dat 1 r.mode.code ++ datL r.curve (fun x => dat 2 x.1 ++ dat 2 x.2) ++ dat 2 r.levelNow ++ datR r.fade 9 datFade
      ++ dat 1 r.rounding.code ++ dat 1 r.gamma.1 ++ datR r.blink 5 datBlink))

/-- A channel's binding in a reply: the five bytes of R176, for PLAIN and SODIUM too. Log entry 44 (DESIGN CHOICE). -/
def datBinding : ChannelKind → List Byte
  | .signal x a => dat 1 x.1 ++ dat 1 a.code ++ dat 3 0
  | .chase a start width => dat 1 a.1 ++ dat 2 start ++ dat 2 width
  | .gate c => dat 1 c.1 ++ dat 4 0
  | _ => dat 5 0

/-- A sodium state in a reply, with its k or c (R37). -/
def datSodium (x : Sodium) : List Byte :=
  dat 1 x.code ++ dat 2 (match x with | .warming k => k | .cooling c => c | _ => 0)

/-- An output place in a reply: none 0, a PWM output 1, a chain position through a segment 2; then the output or segment, and
the position (log entry 6). -/
def datPlace : Place → List Byte
  | .none => dat 1 0 ++ dat 1 0 ++ dat 1 0
  | .pwm o => dat 1 1 ++ dat 1 o.1 ++ dat 1 0
  | .chain i p => dat 1 2 ++ dat 1 i.1 ++ dat 1 p

/-- CHANNEL_QUERY (R37). -/
def doChannelQuery (channel : Nat) (s : State) : Handled :=
  match fin? 512 channel with
  | none => (s, refuse .outOfRange)
  | some c =>
    let r := s.light.channels.get c
    (s, okWith (dat 1 r.group.1 ++ dat 1 r.kind.code ++ datS 2 r.trim ++ datBinding r.kind ++ dat 2 r.warmFrames
      ++ dat 2 r.restrikeFrames ++ datSodium r.sodium ++ datPlace (s.light.placeOf c.1) ++ dat 2 r.lastV ++ dat 2 r.lastW ++ dat 2 r.lastD))

/-! ## Resets and the LIGHTS rail (R24, R32) -/

/-- The Light Engine's WARM reset (R19, R24). -/
def warmLight (s : State) : State := s.modLight fun l => { l with groups := l.groups.map Group.warm }

/-- A lamp that goes out: COOLING for its restrike frames, or COLD (R31, R32). -/
def Channel.cool (c : Channel) : Sodium := if c.restrikeFrames = 0 then .cold else .cooling c.restrikeFrames

/-- The LIGHTS rail goes DOWN: every SODIUM lamp in WARMING or WARM cools (R32). -/
def Channel.railDown (c : Channel) : Channel :=
  match c.kind, c.sodium with
  | .sodium, .warming _ => { c with sodium := c.cool }
  | .sodium, .warm => { c with sodium := c.cool }
  | _, _ => c

/-- Every sodium lamp at RAIL_CHANGE(LIGHTS, DOWN) (R32). -/
def sodiumRailDown (s : State) : State := s.modLight fun l => { l with channels := l.channels.map Channel.railDown }

end Sys2Proof.Machine
end

