-- ==== Sys2Proof/Machine/Compose.lean ====
section
/-! DEFINITION. The light frame (R18, R30, R31, R35, R36, R38 to R50): composition stage by stage, the sodium lamp, and the outputs. -/

namespace Sys2Proof.Machine

/-! ## S1: the curve value (R40 to R42) -/

/-- The inner segment of a curve that holds the town second `x` (R41). -/
def innerSegment (x : Nat) : List (Nat × Nat) → Option ((Nat × Nat) × (Nat × Nat))
  | a :: b :: rest => if 60 * a.1 ≤ x ∧ x < 60 * b.1 then some (a, b) else innerSegment x (b :: rest)
  | _ => none

/-- The level on the straight run from a start point to an end point, given by its minute and level, at a second of that run (R42). -/
def segmentLevel (mode : Rounding) (start : Nat × Nat) (endMinute endLevel second : Nat) : Nat :=
  ((start.2 : Int) + roundDiv mode (((endLevel : Int) - start.2) * ((second : Int) - 60 * start.1)) (60 * (endMinute - start.1))).toNat

/-- The level of a day curve at the town second `x` (R41, R42); 0 without a curve, which no group in CURVE mode lacks (R40). Log
entry 34 (DEDUCED). -/
def curveLevel (mode : Rounding) (points : List (Nat × Nat)) (x : Nat) : Nat :=
  match points.head?, points.getLast? with
  | some first, some last =>
    if x < 60 * first.1 then segmentLevel mode last (first.1 + 1440) first.2 (x + 86400)
    else
      match innerSegment x points with
      | some (a, b) => segmentLevel mode a b.1 b.2 x
      | none => segmentLevel mode last (first.1 + 1440) first.2 x
  | _, _ => 0

/-- The curve value C of a group at the town second `x` (R40). -/
def Group.curveValue (x : Nat) (g : Group) : Nat :=
  match g.mode with
  | .fixed => 4095
  | .dark => 0
  | .curve => curveLevel g.rounding g.curve x

/-! ## S3 to S5: product, trim and gates (R30, R44 to R46) -/

/-- S3, the product V (R44). -/
def product (mode : Rounding) (c g : Nat) : Nat := (roundDiv mode ((c : Int) * g) 4095).toNat

/-- S4, the trimmed level W0 (R45). -/
def trimmed (v : Nat) (trim : Int) : Nat := if v = 0 then 0 else (clampInt 0 4095 ((v : Int) + trim)).toNat

/-- Whether a SIGNAL aspect is lit for a section's state; `none` stands for a section out of service (R30). -/
def aspectLit (a : Aspect) (st : SecState) : Bool :=
  match a, st with
  | .proceed, .reserved _ => true
  | .stop, .none => true
  | .stop, .free => true
  | .stop, .pending _ => true
  | .stop, .clearing _ => true
  | .occupied, .occupied _ => true
  | .occupied, .stray => true
  | _, _ => false

/-- A section's state as a lamp sees it: none unless the layout is OPERATIONAL and the section is present (R30). -/
def State.lampSec (s : State) (x : Fin 48) : SecState :=
  if s.track.config = .operational ∧ (s.track.defs.get x).present = true then s.sec x else .none

/-- Whether a CHASE window is lit (R30). -/
def Axis.inWindow (start width : Nat) (x : Axis) : Bool :=
  x.kind == .rotary && x.homed && decide ((x.pos - start) % x.spr < width)

/-- Whether a GATE lamp is lit (R30). -/
def State.gateLit (s : State) (c : Fin 4) : Bool :=
  s.track.config == .operational &&
    match (s.track.crossings.get c).defn with
    | some d => (s.axes.get d.axis).gateState != .open_
    | none => false

/-- Whether a channel's binding is lit; PLAIN and SODIUM channels have none to darken them (R30, R46). -/
def State.lit (s : State) : ChannelKind → Bool
  | .plain => true
  | .sodium => true
  | .signal x a => aspectLit a (s.lampSec x)
  | .chase a start width => (s.axes.get a).inWindow start width
  | .gate c => s.gateLit c

/-- Whether a group's blink generator lets its channels through: off, or in phase ON (R46). -/
def Group.blinkPasses (g : Group) : Bool := g.blink.all Blink.phaseOn

/-- S5, the gated level W (R46). -/
def gated (w0 : Nat) (passes : Bool) : Nat := if passes then w0 else 0

/-! ## S6: the sodium lamp (R31, R32, R47) -/

/-- WARMING with k, or WARM once k has reached the warm frames (R31). -/
def warmingAt (warmFrames k : Nat) : Sodium := if warmFrames ≤ k then .warm else .warming k

/-- The lamp state after a frame's update on the level `w` (R31). -/
def sodiumStep (warmFrames restrikeFrames w : Nat) : Sodium → Sodium
  | .cold => if w = 0 then .cold else warmingAt warmFrames 1
  | .warming k => if w = 0 then (if restrikeFrames = 0 then .cold else .cooling restrikeFrames) else warmingAt warmFrames (k + 1)
  | .warm => if w = 0 then (if restrikeFrames = 0 then .cold else .cooling restrikeFrames) else .warm
  | .cooling c => if 1 < c then .cooling (c - 1) else if w = 0 then .cold else warmingAt warmFrames 1

/-- W′ from the lamp state after the update (R31, R47). -/
def sodiumLevel (mode : Rounding) (warmFrames w : Nat) : Sodium → Nat
  | .cold => 0
  | .cooling _ => 0
  | .warm => w
  | .warming k => min w (roundDiv mode (4095 * k : Nat) warmFrames).toNat

/-! ## S7: the gamma table (R48) -/

/-- D from W′ (R48). -/
def gammaDuty (mode : Rounding) (table : List Nat) (w : Nat) : Nat :=
  if w = 0 then 0
  else
    let k := 16 * w / 4095
    let r := 16 * w % 4095
    if k = 16 then table.getD 16 0
    else (((table.getD k 0 : Nat) : Int) + roundDiv mode (((table.getD (k + 1) 0 : Nat) - (table.getD k 0 : Nat) : Int) * r) 4095).toNat

/-! ## The composition of a channel (R38, R49) -/

/-- A channel composed through S3 to S7 with its group's C and G; it keeps V, W, D and the sodium state (R38, R49). -/
def State.composeChannel (s : State) (cg : Nat × Nat) (c : Channel) : Channel :=
  let g := s.light.groups.get c.group
  let v := product g.rounding cg.1 cg.2
  let w := gated (trimmed v c.trim) (g.blinkPasses && s.lit c.kind)
  let lamp := if c.kind = .sodium then sodiumStep c.warmFrames c.restrikeFrames (if s.supply.rails.lights then w else 0) c.sodium else c.sodium
  let w' := if c.kind = .sodium then sodiumLevel g.rounding c.warmFrames w lamp else w
  { c with sodium := lamp, lastV := v, lastW := w, lastD := gammaDuty g.rounding (s.light.gammas.get g.gamma) w' }

/-- C and G of a group, from town time read once (R38). -/
def State.groupValues (s : State) (g : Fin 32) : Nat × Nat :=
  ((s.light.groups.get g).curveValue (s.clock.town / 1000), (s.light.groups.get g).levelNow)

/-- Every channel composed, from the groups' values (R18, step 2; R38). -/
def composeAll (s : State) : State :=
  let values : Table (Nat × Nat) 32 := .ofFn s.groupValues
  s.modLight fun l => { l with channels := l.channels.map fun c => s.composeChannel (values.get c.group) c }

/-! ## S8: the outputs (R35, R36, R50) -/

/-- The duty a channel sends: its last D while the LIGHTS rail is UP, else 0 (R36, R50). -/
def State.dutyOf (s : State) (c : Fin 512) : Nat := if s.supply.rails.lights then (s.light.channels.get c).lastD else 0

/-- The duty of a PWM output; 0 without a channel (R35). -/
def State.pwmDuty (s : State) (o : Fin 16) : Nat :=
  match s.light.pwm.get o with
  | some c => s.dutyOf c
  | none => 0

/-- The channel mapped to a position of a chain, if any (R34). -/
def Light.channelAt (l : Light) (chain : Fin 4) (position : Nat) : Option (Fin 512) :=
  (indices 16).findSome? fun i =>
    match l.segments.get i with
    | some d => if d.maps chain position then fin? 512 (d.channel + (position - d.first)) else none
    | none => none

/-- The 16-bit word of a position of a chain: the duty as an unsigned number, 0 for an unmapped position (R35). -/
def State.chainWord (s : State) (chain : Fin 4) (position : Nat) : BitVec 16 :=
  match s.light.channelAt chain position with
  | some c => BitVec.ofNat 16 (s.dutyOf c)
  | none => 0

/-- The bits of a word in the order a chain port sends them, most significant bit first (R35). -/
def wordBits (w : BitVec 16) : List Bool := (List.range 16).map w.getMsbD

/-- The bits that a chain port's data line carried in the last light frame, in order (R35). -/
def State.chainBits (s : State) (chain : Fin 4) : List Bool := (s.outs.chains.get chain).flatMap wordBits

/-- The frame's duties are sent (R35). -/
def sendDuties (s : State) : State :=
  s.modOuts fun o =>
    { o with pwm := .ofFn s.pwmDuty, chains := .ofFn fun c => (List.range (s.light.chainLen.get c)).map (s.chainWord c) }

/-! ## The frame (R18) -/

/-- The due light frame: REAL fades, composition, blink generators, outputs (R18). -/
def lightFrame (s : State) : State :=
  let s0 := s.modSched fun d => { d with light := false }
  sendDuties (advanceBlinks (composeAll (advanceFades .real 1 s0)))

/-- The channel as the due light frame would compose it. -/
def State.composedNext (s : State) (c : Fin 512) : Channel := (composeAll (advanceFades .real 1 s)).light.channels.get c

/-- Whether the due light frame would bring a sodium lamp to WARM (R31). -/
def State.reachesWarm (s : State) (c : Fin 512) : Bool :=
  (s.light.channels.get c).kind == .sodium && (s.light.channels.get c).sodium != .warm && (s.composedNext c).sodium == .warm

/-- Whether the due light frame would end a sodium lamp's COOLING (R31). -/
def State.endsCooling (s : State) (c : Fin 512) : Bool :=
  match (s.light.channels.get c).kind, (s.light.channels.get c).sodium with
  | .sodium, .cooling n => decide (n ≤ 1)
  | _, _ => false

/-- Whether the due light frame would end a phase of a group's blink generator (R26). -/
def State.endsPhase (s : State) (g : Fin 32) : Bool := (s.light.groups.get g).blink.any fun b => b.advance.2

end Sys2Proof.Machine
end

