-- ==== Sys2Proof/Machine/Track.lean ====
section
/-! DEFINITION. The Track Controller in service (R60 to R63, R68 to R79): neighbours and the points a move needs, section states,
claims, grants and releases, the throw queue and the discharge unit, and the crossings. -/

namespace Sys2Proof.Machine

/-! ## Neighbours (R61 to R63) -/

/-- The link an end of a section carries (R54). -/
def SectionDef.link (d : SectionDef) : End → Link
  | .a => d.linkA
  | .b => d.linkB

/-- The link at an end. -/
def State.linkAt (s : State) (x : Fin 48) (e : End) : Link := (s.track.defs.get x).link e

/-- The definition of a point. -/
def State.pointDef (s : State) (p : Fin 24) : Option PointDef := (s.track.points.get p).defn

/-- The possible neighbours through an end, each with the end at which it is entered (R61). -/
def possibleNeighbours (s : State) (x : Fin 48) (e : End) : List (Fin 48 × End) :=
  if (s.track.defs.get x).present = false then []
  else
    match s.linkAt x e with
    | .buffer => []
    | .plain y f => [(y, f)]
    | .point p =>
      match s.pointDef p with
      | none => []
      | some d => [(d.normal.sec, d.normal.fin), (d.reverse.sec, d.reverse.fin)]

/-- The end at which a section is entered as a possible neighbour; end A when it is one at both (R91). -/
def enteredAs (s : State) (x : Fin 48) (e : End) (y : Fin 48) : Option End :=
  let l := possibleNeighbours s x e
  if l.contains (y, .a) then some .a else if l.contains (y, .b) then some .b else none

/-- The point a move needs and the position it needs, from a section left by an end into a section entered at an end (R63). -/
def moveNeeds (s : State) (a : Fin 48) (x : End) (b : Fin 48) (y : End) : Option (Fin 24 × Position) :=
  match s.linkAt a x with
  | .point p =>
    match s.pointDef p with
    | none => none
    | some d =>
      if d.normal = ⟨b, y⟩ then some (p, .normal) else if d.reverse = ⟨b, y⟩ then some (p, .reverse) else none
  | _ =>
    match s.linkAt b y with
    | .point p =>
      match s.pointDef p with
      | none => none
      | some d =>
        if d.normal = ⟨a, x⟩ then some (p, .normal) else if d.reverse = ⟨a, x⟩ then some (p, .reverse) else none
    | _ => none

/-- The present neighbour through an end: the possible neighbour whose move the points allow as they stand (R62). -/
def presentNeighbour (s : State) (x : Fin 48) (e : End) : Option (Fin 48 × End) :=
  (possibleNeighbours s x e).find? fun n =>
    match moveNeeds s x e n.1 n.2 with
    | none => true
    | some (p, w) => (s.track.points.get p).position == w

/-! ## The crossings (R77 to R79) -/

/-- Whether a member in a state makes the demand CLOSE (R77). -/
def SecState.demandsClose : SecState → Bool
  | .pending _ => true
  | .reserved _ => true
  | .occupied _ => true
  | .stray => true
  | _ => false

/-- A crossing's demand from its members' states (R77). -/
def demandOf (s : State) (members : List (Fin 48)) : GateWish :=
  if members.any fun x => (s.sec x).demandsClose then .close else .open_

/-- A crossing commands its gate closed: the last command becomes CLOSE and the gate timeout starts running (R77). Log entry 24
(DEDUCED). -/
def commandClose (c : Fin 4) (d : CrossingDef) (k : Coupling) (s : State) : State :=
  gateCommand d.axis .close
    (s.setCoupling c (some { k with last := some .close, timeout := .running (s.track.crossings.get c).gateTimeout, retry := false }))

/-- The open delay has run out: with the gate UNKNOWN no command is given, otherwise the gate is commanded open (R77). -/
def openNow (c : Fin 4) (d : CrossingDef) (k : Coupling) (s : State) : State :=
  if (s.axes.get d.axis).gateState = .unknown then s.setCoupling c (some { k with openDelay := none })
  else gateCommand d.axis .open_ (s.setCoupling c (some { k with openDelay := none, last := some .open_, timeout := .absent, retry := false }))

/-- The open delay starts; a delay of 0 runs out at once (R77). Log entry 35 (DEDUCED). -/
def startOpenDelay (c : Fin 4) (d : CrossingDef) (k : Coupling) (s : State) : State :=
  let n := (s.track.crossings.get c).openDelay
  if n = 0 then openNow c d k s else s.setCoupling c (some { k with openDelay := some n })

/-- A crossing's demand acted on as a change to it, while the interlock is released (R77). -/
def actOnDemand (c : Fin 4) (d : CrossingDef) (k : Coupling) (s : State) : State :=
  match k.demand with
  | .close =>
    let k1 := { k with openDelay := none }
    if k.last = some .close then s.setCoupling c (some k1) else commandClose c d k1 s
  | .open_ => startOpenDelay c d k s

/-- A crossing's demand worked out again after a change of a member's state (R77, R79). -/
def redemand (c : Fin 4) (s : State) : State :=
  match (s.track.crossings.get c).defn, s.track.couplings.get c with
  | some d, some k =>
    let w := demandOf s d.members
    if w = k.demand then s
    else if s.engaged then s.setCoupling c (some { k with demand := w })
    else actOnDemand c d { k with demand := w } s
  | _, _ => s

/-- A section's crossing works its demand out again. -/
def redemandOf (x : Fin 48) (s : State) : State :=
  match (s.track.defs.get x).crossing with
  | some c => redemand c s
  | none => s

/-- A crossing starts to couple its gate to its members at the close of the layout (R60, R77). -/
def startCoupling (c : Fin 4) (s : State) : State :=
  match (s.track.crossings.get c).defn with
  | none => s.setCoupling c none
  | some d =>
    let k : Coupling := { demand := demandOf s d.members, last := none, openDelay := none, timeout := .absent, retry := false }
    if s.engaged then s.setCoupling c (some k) else actOnDemand c d k s

/-- The interlock becomes ENGAGED: a running gate timeout is suspended and an open delay is cancelled (R79). -/
def suspendCrossing (c : Fin 4) (s : State) : State :=
  match s.track.couplings.get c with
  | none => s
  | some k =>
    s.setCoupling c (some { k with openDelay := none, retry := false, timeout := match k.timeout with | .running ms => .suspended ms | t => t })

/-- The interlock becomes RELEASED: a demand of CLOSE commands the gate closed whatever the last command; a demand of OPEN
starts the open delay (R79). A delay of 0 commands the gate open at the release: log entry 61 (DESIGN CHOICE). -/
def recommandCrossing (c : Fin 4) (s : State) : State :=
  match (s.track.crossings.get c).defn, s.track.couplings.get c with
  | some d, some k =>
    match k.demand with
    | .close => commandClose c d k s
    | .open_ =>
      startOpenDelay c d { k with last := none, timeout := match k.timeout with | .suspended _ => .absent | t => t } s
  | _, _ => s

/-- The open delay of a crossing reaches 0 (R77). -/
def openDelayExpire (c : Fin 4) (s : State) : State :=
  match (s.track.crossings.get c).defn, s.track.couplings.get c with
  | some d, some k => if k.openDelay = some 0 then openNow c d k s else s
  | _, _ => s

/-- The gate timeout of a crossing reaches 0: it becomes absent and the gate axis faults (R78). Log entry 24 (DEDUCED). -/
def gateTimeoutExpire (c : Fin 4) (s : State) : State :=
  match (s.track.crossings.get c).defn, s.track.couplings.get c with
  | some d, some k =>
    if k.timeout = .running 0 then faultAxis d.axis .gateTimeout (s.setCoupling c (some { k with timeout := .absent, retry := false }))
    else s
  | _, _ => s

/-! ## Section states and the held lists (R68) -/

/-- A section takes a state; its crossing works its demand out again (R77). -/
def setSec (x : Fin 48) (st : SecState) (s : State) : State :=
  redemandOf x (s.modRun x fun r => { r with state := st })

/-- A section joins the front of a train's held list (R68, R70). -/
def joinHeld (t : Fin 8) (x : Fin 48) (sense : Sense) (s : State) : State :=
  s.modTrain t fun y => { y with held := y.held ++ [(x, sense)] }

/-- A section leaves a train's held list; the train's claim is tested once more (R68, R93). -/
def leaveHeld (t : Fin 8) (x : Fin 48) (s : State) : State :=
  (s.modTrain t fun y => { y with held := y.held.filter fun e => e.1 != x }).later (.claim t)

/-- A train leaves a section's waiting list; the trains behind it keep their order (R69). -/
def withdraw (t : Fin 8) (x : Fin 48) (s : State) : State :=
  s.modRun x fun r => { r with waiting := r.waiting.filter fun u => u != t }

/-- A section becomes CLEARING and its clearance timer starts; a clearance time of 0 runs out at once (R72, R73). -/
def clearSec (x : Fin 48) (s : State) : State :=
  let n := (s.track.defs.get x).clearance
  let s1 := setSec x (.clearing n) s
  if n = 0 then s1.later (.expire x) else s1

/-! ## The throw queue (R74, R75) -/

/-- Queue entries that pass a test are dropped, without POINT_SET (R74); when the head entry leaves, the new head is examined (R75). -/
def dropThrows (drop : ThrowEntry → Bool) (s : State) : State :=
  let s1 := s.setQueue (s.track.queue.filter fun e => !drop e)
  if s.track.queue.head?.any drop then s1.later .examine else s1

/-- The throw a grant queued for a section is dropped (R72, R74). -/
def dropGrantThrow (x : Fin 48) (s : State) : State :=
  dropThrows (fun e => match e.origin with | .grant _ y => y == x | .request => false) s

/-- The throws POINT_THROW queued for points of a section that leaves FREE are dropped (R70, R74). -/
def dropRequestThrows (x : Fin 48) (s : State) : State :=
  dropThrows (fun e => e.origin == .request && (s.pointDef e.point).any fun d => d.sec == x) s

/-- Whether a pulse for a point is in progress. -/
def State.pulsing (s : State) (p : Fin 24) : Bool :=
  match s.track.unit_ with
  | .pulsing q _ _ _ => q == p
  | _ => false

/-- Whether a point lies at a position with no pulse for it in progress (R70, R75). -/
def State.pointAt (s : State) (p : Fin 24) (w : Position) : Bool := (s.track.points.get p).position == w && !s.pulsing p

/-- An entry is appended to the throw queue and the head is examined (R74, R75). -/
def queueThrow (e : ThrowEntry) (s : State) : State := (s.setQueue (s.track.queue ++ [e])).later .examine

/-- The train whose grant an entry serves. -/
def ThrowOrigin.serves : ThrowOrigin → Option (Fin 8)
  | .grant t _ => some t
  | .request => none

/-- Completion is tested for the grant that a finished throw served (R71, R75). Log entry 40 (DEDUCED). -/
def testServed (o : Option (Fin 8)) (s : State) : State :=
  match o with
  | some t => s.later (.complete t)
  | none => s

/-- The head of the throw queue is examined (R75). -/
def examineHead (s : State) : State :=
  match s.track.queue with
  | [] => s
  | e :: rest =>
    if s.pointAt e.point e.position then
      (testServed e.origin.serves ((s.setQueue rest).raise (.pointSet e.point e.position))).later .examine
    else if s.track.unit_ = .ready ∧ s.engaged = false then
      ((s.setQueue rest).setUnit (.pulsing e.point e.position (s.track.points.get e.point).pulse e.origin.serves)).later .examine
    else s

/-- A throw pulse ends: the point takes its position, POINT_SET is raised and the unit recharges (R75). -/
def pulseFinish (s : State) : State :=
  match s.track.unit_ with
  | .pulsing p w 0 serves =>
    let s1 := ((s.modPoint p fun r => { r with position := w }).setUnit (.recharging s.track.recharge)).raise (.pointSet p w)
    (testServed serves s1).later .examine
  | _ => s

/-- The recharge ends: the unit is READY and the head is examined (R75). -/
def rechargeFinish (s : State) : State :=
  match s.track.unit_ with
  | .recharging 0 => (s.setUnit .ready).later .examine
  | _ => s

/-- A grant that has ended is served by no pulse any more (R72). -/
def unserve (t : Fin 8) (s : State) : State :=
  match s.track.unit_ with
  | .pulsing p w ms (some u) => if u = t then s.setUnit (.pulsing p w ms none) else s
  | _ => s

/-! ## Releases (R72) -/

/-- One section of a train released to CLEARING (R72). -/
def releaseSec (t : Fin 8) (x : Fin 48) (s : State) : State :=
  resync t (dropGrantThrow x (clearSec x (leaveHeld t x s)))

/-- A reverted prev that is kept returns to RESERVED, and a throw queued for it is dropped (R72). -/
def keepPrev (t : Fin 8) (x : Fin 48) (s : State) : State := resync t (dropGrantThrow x (setSec x (.reserved t) s))

/-- The PENDING sections a train holds, rear to front. -/
def State.pendingOf (s : State) (t : Fin 8) : List (Fin 48) :=
  ((s.heldOf t).map Prod.fst).filter fun x => s.sec x == .pending t

/-- Every PENDING section of a train is released, rear to front, but for a reverted prev without which its held list would be empty
(R72). The order is log entry 54 (DESIGN CHOICE). -/
def releasePending (t : Fin 8) (s : State) : State :=
  let l := s.pendingOf t
  if l.length = (s.heldOf t).length then
    match l with
    | [] => s
    | prev :: rest => unserve t (forEach rest (releaseSec t) (keepPrev t prev s))
  else unserve t (forEach l (releaseSec t) s)

/-! ## Claims and grants (R69 to R71, R73, R93) -/

/-- Whether a grant in flight still waits for a throw (R71). -/
def State.throwOutstanding (s : State) (t : Fin 8) : Bool :=
  (s.track.queue.any fun e => e.origin.serves == some t) ||
    match s.track.unit_ with
    | .pulsing _ _ _ serves => serves == some t
    | _ => false

/-- Whether the gate of a section's crossing, if it has one, reports CLOSED (R71). -/
def State.gateClosedFor (s : State) (x : Fin 48) : Bool :=
  match (s.track.defs.get x).crossing with
  | none => true
  | some c =>
    match (s.track.crossings.get c).defn with
    | none => true
    | some d => (s.axes.get d.axis).gateState == .closed

/-- A grant in flight is tested for completion (R71). -/
def completeGrant (t : Fin 8) (s : State) : State :=
  match (s.trains.get t).claim with
  | .granted x =>
    let l := s.pendingOf t
    if s.throwOutstanding t = false ∧ l.all s.gateClosedFor = true then
      let s1 := forEach l (fun y => setSec y (.reserved t)) s
      let s2 := s1.modTrain t fun r => { r with claim := .none, routeEnd := if r.routeEnd = some x then none else r.routeEnd }
      ((resync t s2).raise (.routeReady t x)).later (.claim t)
    else s
  | _ => s

/-- A section becomes PENDING for a train whose claim is granted (R70). -/
def pend (t : Fin 8) (x : Fin 48) (entered : End) (s : State) : State :=
  let s1 := joinHeld t x entered.sense (setSec x (.pending t) (withdraw t x s))
  resync t (s1.modTrain t fun r => { r with claim := .granted x })

/-- A FREE section is granted to a train (R70). -/
def grant (t : Fin 8) (x : Fin 48) (entered : End) (s0 : State) : State :=
  let s := dropRequestThrows x s0
  match s.frontOf t with
  | none => s
  | some (prev, sense) =>
    match moveNeeds s prev sense.exitEnd x entered with
    | none => (pend t x entered s).later (.complete t)
    | some (p, w) =>
      if s.pointAt p w then (pend t x entered s).later (.complete t)
      else if (s.pointDef p).any fun d => d.sec == x then
        (queueThrow { point := p, position := w, origin := .grant t x } (pend t x entered s)).later (.complete t)
      else if s.sec prev = .reserved t then
        (queueThrow { point := p, position := w, origin := .grant t prev }
          (resync t (setSec prev (.pending t) (pend t x entered s)))).later (.complete t)
      else routeFault t .noThrow (clearSec x (withdraw t x s))

/-- Whether a train claims its next section (R93). -/
def Train.claims (x : Train) : Bool :=
  x.claim == .none && x.queue != [] && x.held.length < Config.heldRoom && x.halt == none && x.placed

/-- A claim is tested, and made when its conditions hold (R69, R93). -/
def testClaim (t : Fin 8) (s : State) : State :=
  let r := s.trains.get t
  if r.claims then
    match r.queue with
    | [] => s
    | (x, e) :: rest =>
      let s1 := s.modTrain t fun y => { y with queue := rest, claim := .waiting x e }
      if s.sec x = .free then grant t x e s1 else s1.modRun x fun r => { r with waiting := r.waiting ++ [t] }
  else s

/-- The clearance of a section has run out: it is FREE, and granted at once to the first train that waits for it (R73). -/
def expireSec (x : Fin 48) (s : State) : State :=
  if s.sec x = .clearing 0 then
    let s1 := (setSec x .free s).raise (.sectionFree x)
    match (s.track.runs.get x).waiting with
    | [] => s1
    | t :: _ =>
      match (s.trains.get t).claim with
      | .waiting _ e => grant t x e s1
      | _ => s1
  else s

/-! ## GATE_STATE at the Track Controller (R71, R78) -/

/-- The trains with a PENDING section in a crossing, in index order, the order in which their grants are tested. Log entry 53 (DESIGN
CHOICE). -/
def trainsPendingAt (s : State) (c : Fin 4) : List (Fin 8) :=
  (indices 8).filter fun t => (s.pendingOf t).any fun x => (s.track.defs.get x).crossing == some c

/-- The Track Controller takes a GATE_STATE: CLOSED ends a running timeout and tests the grants that wait on the crossing, and
ends a retry, whose open delay starts when the demand is OPEN (R71, R78). -/
def gateSeen (c : Fin 4) (st : GateState) (s : State) : State :=
  match (s.track.crossings.get c).defn, s.track.couplings.get c with
  | some d, some k =>
    if st = .closed then
      let k1 := { k with timeout := (match k.timeout with | .running _ => .absent | t => t), retry := false }
      let s1 := forEach (trainsPendingAt s c) (fun t => State.later (.complete t)) (s.setCoupling c (some k1))
      if k.retry = true ∧ k.demand = .open_ ∧ s.engaged = false then startOpenDelay c d k1 s1 else s1
    else s
  | _, _ => s

/-! ## WARM reset (R68, R74) -/

/-- The Track Controller's WARM reset: every PENDING section is released without ROUTE_FAULT, every waiting list is cleared and
every queued throw is dropped (R68, R74). The trains come in ascending index: log entry 58 (DESIGN CHOICE). -/
def warmTrack (s : State) : State :=
  let s1 := forEach (indices 8) releasePending s
  (s1.modTrack fun k => { k with runs := k.runs.map fun r => { r with waiting := [] }, queue := [] })

end Sys2Proof.Machine
end

