-- ==== Sys2Proof/Machine/Occupancy.lean ====
section
/-! DEFINITION. The Occupancy Monitor and the attribution of entries and leaves (R65 to R67, R80 to R83). -/

namespace Sys2Proof.Machine

/-! ## The filters (R65, R66) -/

/-- What a detector's sample confirms. -/
inductive Confirm where
  | nothing
  | enter
  | leave
deriving DecidableEq, Repr

/-- A detector record after a sample, with what it confirms (R66). -/
def Detector.sample (filter : Nat) (level : Bool) (d : Detector) : Detector × Confirm :=
  match d.occupied, level with
  | false, false => ({ d with progress := 0 }, .nothing)
  | false, true => if d.progress = 2 then ({ occupied := true, progress := 0 }, .enter) else ({ d with progress := d.progress + 1 }, .nothing)
  | true, true => ({ d with progress := 0 }, .nothing)
  | true, false =>
    if filter ≤ d.progress + 2 then ({ occupied := false, progress := 0 }, .leave) else ({ d with progress := d.progress + 2 }, .nothing)

/-- The release filter in force: 300 ms for a section that is not present (R54, R66). -/
def State.filterOf (s : State) (x : Fin 48) : Nat := if (s.track.defs.get x).present then (s.track.defs.get x).filter else 300

/-! ## Attribution (5.6) -/

/-- Whether a placed train faces a section, and the end at which it would enter: the section is the present neighbour through
the exit end of the train's frontmost held section (5.6). -/
def facingEnd (s : State) (t : Fin 8) (x : Fin 48) : Option End :=
  match s.frontOf t with
  | none => none
  | some (y, sense) =>
    match presentNeighbour s y sense.exitEnd with
    | some (z, e) => if z = x then some e else none
    | none => none

/-- The trains that face a section, in index order, the order in which they are halted. Log entry 46 (DESIGN CHOICE). -/
def facingTrains (s : State) (x : Fin 48) : List (Fin 8) := (indices 8).filter fun t => (facingEnd s t x).isSome

/-- Whether a section counts as next ahead of a train: the one in front of its head, or any it holds when it has no head (5.6). -/
def nextAhead (s : State) (t : Fin 8) (x : Fin 48) : Bool :=
  match s.headIndex t with
  | none => ((s.heldOf t).map Prod.fst).contains x
  | some i => (((s.heldOf t)[i + 1]?).map Prod.fst) == some x

/-- The Track Controller halts a train and ends its claim (R82, R100). -/
def halt (t : Fin 8) (fault : HaltFault) (s : State) : State :=
  let s1 := haltTrain t fault s
  let claim := (s1.trains.get t).claim
  let s2 := match claim with
    | .waiting x _ => withdraw t x s1
    | _ => s1
  let s3 := releasePending t s2
  if claim = .none then (routeEnding t s3).modTrain t fun x => { x with queue := [], routeEnd := none }
  else routeFault t .halted s3

/-- The PENDING and RESERVED sections of a train's held list ahead of a section (R80), rear to front. The order is log entry 54 (DESIGN
CHOICE). -/
def aheadOf (s : State) (t : Fin 8) (x : Fin 48) : List (Fin 48) :=
  ((((s.heldOf t).map Prod.fst).dropWhile fun y => y != x).drop 1).filter fun y => s.sec y == .pending t || s.sec y == .reserved t

/-- An entry attributed to the section's holder (R80). -/
def enterHeld (t : Fin 8) (x : Fin 48) (wasPending : Bool) (s : State) : State :=
  let s1 := setSec x (.occupied t) s
  if wasPending then halt t .overrun ((resync t (dropGrantThrow x s1)).raise (.sectionEnter x t))
  else (resync t s1).raise (.sectionEnter x t)

/-- An entry in conflict: the section is left to nobody and everything involved stops (R80). -/
def conflict (h : Fin 8) (x : Fin 48) (facing : List (Fin 8)) (s : State) : State :=
  let ahead := aheadOf s h x
  let s1 := dropGrantThrow x (leaveHeld h x (setSec x .stray s))
  let s2 := resync h (forEach ahead (releaseSec h) s1)
  halt h .conflict (forEach facing (fun t => halt t .overrun) (s2.raise (.straySeen x)))

/-- A confirmed ENTER on a section held by train `h` (R80). In a conflict `h` is halted with CONFLICT alone, also where it faces the
section itself. Log entry 45 (DESIGN CHOICE). -/
def attributeHeld (h : Fin 8) (x : Fin 48) (wasPending : Bool) (s : State) : State :=
  let others := (facingTrains s x).filter fun t => t != h
  if nextAhead s h x = true ∨ others = [] then enterHeld h x wasPending s else conflict h x others s

/-- A confirmed ENTER on a FREE or CLEARING section (R81). -/
def attributeOpen (x : Fin 48) (s : State) : State :=
  match facingTrains s x with
  | [t] =>
    if (s.heldOf t).length < Config.heldRoom then
      let e := (facingEnd s t x).getD .a
      let s1 := dropRequestThrows x (withdraw t x (joinHeld t x e.sense (setSec x (.occupied t) s)))
      halt t .overrun ((resync t s1).raise (.sectionEnter x t))
    else halt t .overrun ((dropRequestThrows x (setSec x .stray s)).raise (.straySeen x))
  | ts => forEach ts (fun t => halt t .overrun) ((dropRequestThrows x (setSec x .stray s)).raise (.straySeen x))

/-- ENTER at the Track Controller (R80, R81). -/
def takeEnter (x : Fin 48) (s : State) : State :=
  match s.sec x with
  | .pending h => attributeHeld h x true s
  | .reserved h => attributeHeld h x false s
  | .free => attributeOpen x s
  | .clearing _ => attributeOpen x s
  | _ => s

/-- An ordinary leave (R83): in AUTO_RELEASE every RESERVED section behind the section and the section itself are released, rear to front.
The order is log entry 54 (DESIGN CHOICE). -/
def ordinaryLeave (t : Fin 8) (x : Fin 48) (s : State) : State :=
  match (s.trains.get t).mode with
  | .hold => (resync t (setSec x (.reserved t) s)).raise (.sectionLeave x t)
  | .autoRelease =>
    let behind := (((s.heldOf t).map Prod.fst).takeWhile fun y => y != x).filter fun y => s.sec y == .reserved t
    forEach (behind ++ [x]) (releaseSec t) (s.raise (.sectionLeave x t))

/-- The sections of a train that are OCCUPIED, rear to front. -/
def State.occupiedOf (s : State) (t : Fin 8) : List (Fin 48) :=
  ((s.heldOf t).map Prod.fst).filter fun x => s.sec x == .occupied t

/-- A confirmed LEAVE on a section OCCUPIED by a train (R83). -/
def leaveOccupied (t : Fin 8) (x : Fin 48) (s : State) : State :=
  let l := s.occupiedOf t
  if l = [x] then halt t .lost (resync t (setSec x (.reserved t) s))
  else if l.head? = some x then ordinaryLeave t x s
  else resync t (setSec x (.reserved t) s)

/-- LEAVE at the Track Controller (R83). -/
def takeLeave (x : Fin 48) (s : State) : State :=
  match s.sec x with
  | .stray => clearSec x s
  | .occupied t => leaveOccupied t x s
  | _ => s

/-- What a sample confirmed, handed to the Track Controller, which acts while the layout is OPERATIONAL and the section is
present (R52, R66). -/
def takeConfirm (x : Fin 48) (c : Confirm) (s : State) : State :=
  if s.track.config = .operational ∧ (s.track.defs.get x).present = true then
    match c with
    | .nothing => s
    | .enter => takeEnter x s
    | .leave => takeLeave x s
  else s

/-! ## The detector sample (R66, R67) -/

/-- The level of a detector input. -/
def State.detectInput (s : State) (x : Fin 48) : Bool := s.pins.detect.getLsbD x.1

/-- What the due sample of a section would confirm; nothing while detection is frozen (R66, R67). -/
def State.wouldConfirm (s : State) (x : Fin 48) : Confirm :=
  if s.trackPowered then ((s.track.detectors.get x).sample (s.filterOf x) (s.detectInput x)).2 else .nothing

/-- The due sample of one section (R66): frozen while the TRACK rail is DOWN or the cut-off is active (R67). -/
def sampleDetector (x : Fin 48) (s : State) : State :=
  let s0 := s.modSched fun d => { d with detect := d.detect &&& ~~~(1#48 <<< x.1) }
  if s.trackPowered then
    let r := (s.track.detectors.get x).sample (s.filterOf x) (s.detectInput x)
    takeConfirm x r.2 (s0.modTrack fun k => { k with detectors := k.detectors.set x r.1 })
  else s0

end Sys2Proof.Machine
end

