-- ==== Sys2Proof/Machine/Train.lean ====
section
/-! DEFINITION. The Train Controller's requests (R88 to R94, R97, R101 to R103). -/

namespace Sys2Proof.Machine

/-! ## Placing and removing (R88, R89) -/

/-- The sections of a list, when every one lies in 0 to 47, or the index of the first that does not. -/
def readSections : List Nat → Nat → Except Nat (List (Fin 48))
  | [], _ => .ok []
  | k :: ks, i =>
    match fin? 48 k with
    | none => .error i
    | some x =>
      match readSections ks (i + 1) with
      | .ok xs => .ok (x :: xs)
      | .error j => .error j

/-- The senses of a list, or the index of the first that is none. -/
def readSenses : List Nat → Nat → Except Nat (List Sense)
  | [], _ => .ok []
  | k :: ks, i =>
    match senseOf k with
    | none => .error i
    | some x =>
      match readSenses ks (i + 1) with
      | .ok xs => .ok (x :: xs)
      | .error j => .error j

/-- The index of the first entry that repeats an earlier one. -/
def firstRepeat (l : List (Fin 48)) : Option Nat :=
  firstIdx (fun i : Nat => (l.take i).contains (l.getD i 0)) (List.range l.length) 0

/-- The end at which a section with a sense is entered. -/
def Sense.enteredEnd : Sense → End
  | .aToB => .a
  | .bToA => .b

/-- The index of the first placed section that is no possible neighbour of the one before, entered as its sense names (R88). -/
def placeBreak (s : State) : List (Fin 48 × Sense) → Nat → Option Nat
  | a :: b :: rest, i =>
    if (possibleNeighbours s a.1 a.2.exitEnd).contains (b.1, b.2.enteredEnd) then placeBreak s (b :: rest) (i + 1) else some (i + 1)
  | _, _ => none

/-- One section taken into a train that is placed: STRAY becomes OCCUPIED, FREE becomes RESERVED (R88). -/
def placeSec (t : Fin 8) (e : Fin 48 × Sense) (s : State) : State :=
  if s.sec e.1 = .stray then joinHeld t e.1 e.2 (setSec e.1 (.occupied t) s)
  else dropRequestThrows e.1 (joinHeld t e.1 e.2 (setSec e.1 (.reserved t) s))

/-- TRAIN_PLACE (R88). Log entry 32 (DESIGN CHOICE). -/
def doTrainPlace (train : Nat) (secs : List (Nat × Nat)) (s : State) : Handled :=
  match fin? 8 train with
  | none => (s, refuseAt .outOfRange 0 0 0)
  | some t =>
    if secs.length < 1 ∨ 4 < secs.length then (s, refuseAt .outOfRange 0 0 0)
    else
      match readSections (secs.map Prod.fst) 0, readSenses (secs.map Prod.snd) 0 with
      | .error i, _ => (s, refuseAt .outOfRange 0 i 0)
      | .ok _, .error i => (s, refuseAt .outOfRange 0 i 0)
      | .ok xs, .ok ss =>
        let l := xs.zip ss
        if s.track.config ≠ .operational then (s, refuse .wrongState)
        else if (s.trains.get t).placed = true then (s, refuse .wrongState)
        else
          match firstIdx (fun x => (s.track.defs.get x).present = false) xs 0 with
          | some i => (s, refuseAt .invalid 3 i 0)
          | none =>
            match firstRepeat xs with
            | some i => (s, refuseAt .invalid 4 i 0)
            | none =>
              match placeBreak s l 0 with
              | some i => (s, refuseAt .notAdjacent 5 i 0)
              | none =>
                match firstIdx (fun x => !(s.sec x == .free || s.sec x == .stray)) xs 0 with
                | some i => (s, refuseAt .inUse 6 i 0)
                | none =>
                  let s1 := s.modTrain t fun x =>
                    { x with placed := true, held := [], speed := 0, requested := 0, timer := 0, stop := .none, queue := [],
                             claim := .none, routeEnd := none, halt := none, dir := .level, stepDue := false }
                  (resync t (forEach l (placeSec t) s1), okay)

/-- One held section of a train that is removed: OCCUPIED becomes STRAY, RESERVED is released (R89). -/
def removeSec (t : Fin 8) (x : Fin 48) (s : State) : State :=
  if s.sec x = .occupied t then (leaveHeld t x (setSec x .stray s)).raise (.straySeen x) else releaseSec t x s

/-- TRAIN_REMOVE (R89). -/
def doTrainRemove (train : Nat) (s : State) : Handled :=
  match fin? 8 train with
  | none => (s, refuse .outOfRange)
  | some t =>
    let r := s.trains.get t
    if r.state ≠ .standing ∨ r.queue ≠ [] ∨ r.claim ≠ .none then (s, refuse .wrongState)
    else
      let s1 := forEach (r.held.map Prod.fst) (removeSec t) s
      (s1.modTrain t fun x =>
        { x with placed := false, held := [], speed := 0, requested := 0, timer := 0, stop := .none, routeEnd := none, dir := .level,
                 stepDue := false }, okay)

/-! ## Configuration and speed (R90, R97) -/

/-- TRAIN_CONFIG (R90). -/
def doTrainConfig (train maxSpeed accel decel : Nat) (s : State) : Handled :=
  match fin? 8 train with
  | none => (s, refuse .outOfRange)
  | some t =>
    let m := max 1 maxSpeed
    let lowered := decide (m < (s.trains.get t).requested)
    (resync t (s.modTrain t fun x =>
      { x with maxSpeed := m, accel := max 1 accel, decel := max 1 decel, requested := min m x.requested, speed := min m x.speed
               stepDue := x.stepDue && decide ((if x.dir = .up then max 1 accel else max 1 decel) ≤ x.timer) }),
      okay.clampedBy (maxSpeed = 0 || accel = 0 || decel = 0 || lowered))

/-- TRAIN_SPEED (R97). -/
def doTrainSpeed (train speed : Nat) (s : State) : Handled :=
  match fin? 8 train with
  | none => (s, refuse .outOfRange)
  | some t =>
    let r := s.trains.get t
    if r.placed = false ∨ r.halt.isSome then (s, refuse .wrongState)
    else (resync t (s.modTrain t fun x => { x with requested := min x.maxSpeed speed }), okay.clampedBy (r.maxSpeed < speed))

/-- TRAIN_STOP (R97). -/
def doTrainStop (train : Nat) (s : State) : Handled :=
  match fin? 8 train with
  | none => (s, refuse .outOfRange)
  | some t =>
    if (s.trains.get t).placed = false then (s, refuse .wrongState)
    else (resync t (s.modTrain t fun x => { x with requested := 0 }), okay)

/-! ## Routes (R91 to R94) -/

/-- The sections of a route with their entered ends, from the section and exit end before it; or the index of the first that is
no possible neighbour (R91). -/
def traceRoute (s : State) : Fin 48 → End → List (Fin 48) → Nat → Except Nat (List (Fin 48 × End))
  | _, _, [], _ => .ok []
  | x, e, y :: ys, i =>
    match enteredAs s x e y with
    | none => .error i
    | some f =>
      match traceRoute s y f.sense.exitEnd ys (i + 1) with
      | .ok l => .ok ((y, f) :: l)
      | .error j => .error j

/-- The index of the first route section that repeats an earlier one or is held by the train (R91). -/
def routeClash (s : State) (t : Fin 8) (l : List (Fin 48)) : Option Nat :=
  firstIdx (fun i : Nat => (l.take i).contains (l.getD i 0) || ((s.heldOf t).map Prod.fst).contains (l.getD i 0)) (List.range l.length) 0

/-- A waiting claim of a train withdrawn from its section's waiting list (R69, R92, R94). -/
def withdrawClaim (t : Fin 8) (s : State) : State :=
  match (s.trains.get t).claim with
  | .waiting x _ => (withdraw t x s).modTrain t fun r => { r with claim := .none }
  | _ => s

/-- TRAIN_ROUTE (R91, R92). Log entry 32 (DESIGN CHOICE). -/
def doTrainRoute (train mode : Nat) (secs : List Nat) (s : State) : Handled :=
  match fin? 8 train, reserveModeOf mode with
  | some t, some m =>
    if secs.length < 1 ∨ 12 < secs.length then (s, refuseAt .outOfRange 0 0 0)
    else
      match readSections secs 0 with
      | .error i => (s, refuseAt .outOfRange 0 i 0)
      | .ok xs =>
        let r := s.trains.get t
        if ¬(r.state = .standing ∨ r.state = .running) then (s, refuse .wrongState)
        else
          match s.frontOf t with
          | none => (s, refuse .wrongState)
          | some (y, sense) =>
            match traceRoute s y sense.exitEnd xs 0 with
            | .error 0 => (s, refuseAt .notAdjacent 2 0 0)
            | .error i => (s, refuseAt .notAdjacent 3 i 0)
            | .ok l =>
              match routeClash s t xs with
              | some i => (s, refuseAt .notAdjacent 4 i 0)
              | none =>
                let s1 := routeEnding t (withdrawClaim t s)
                ((s1.modTrain t fun x => { x with queue := l, mode := m, routeEnd := xs.getLast? }).later (.claim t), taken)
  | _, _ => (s, refuseAt .outOfRange 0 0 0)

/-- The held sections TRAIN_RELEASE releases, rear to front: those not OCCUPIED, less the one a train without an OCCUPIED section
keeps (R94). The order is log entry 54 (DESIGN CHOICE). -/
def releasable (s : State) (t : Fin 8) : List (Fin 48) :=
  let l := (s.heldOf t).map Prod.fst
  let unoccupied := l.filter fun x => s.sec x != .occupied t
  if unoccupied.length < l.length then unoccupied
  else
    match (l.filter fun x => s.sec x != .pending t).getLast? with
    | some keep => l.filter fun x => x != keep
    | none => l.drop 1

/-- A train all of whose sections are PENDING keeps its reverted prev as RESERVED (R72, R94). -/
def keepIfAllPending (t : Fin 8) (s : State) : State :=
  let l := (s.heldOf t).map Prod.fst
  match l with
  | prev :: _ => if l.all fun x => s.sec x == .pending t then keepPrev t prev s else s
  | [] => s

/-- TRAIN_RELEASE (R94). -/
def doTrainRelease (train : Nat) (s : State) : Handled :=
  match fin? 8 train with
  | none => (s, refuse .outOfRange)
  | some t =>
    if (s.trains.get t).placed = false then (s, refuse .wrongState)
    else
      let s1 := withdrawClaim t (s.modTrain t fun x => { x with queue := [] })
      let l := releasable s1 t
      let inFlight := match (s1.trains.get t).claim with | .granted _ => true | _ => false
      let s2 := unserve t (forEach l (releaseSec t) (keepIfAllPending t s1))
      let s3 :=
        if inFlight then routeFault t .released s2
        else (routeEnding t s2).modTrain t fun x => { x with routeEnd := none }
      (resync t s3, okay)

/-! ## Faults and direction (R101, R102) -/

/-- TRAIN_CLEAR_FAULT (R101). -/
def doTrainClearFault (train : Nat) (s : State) : Handled :=
  match fin? 8 train with
  | none => (s, refuse .outOfRange)
  | some t =>
    if (s.trains.get t).state ≠ .halted then (s, refuse .wrongState)
    else (resync t (s.modTrain t fun x => { x with halt := none }), okay)

/-- TRAIN_DIRECTION (R102). -/
def doTrainDirection (train : Nat) (s : State) : Handled :=
  match fin? 8 train with
  | none => (s, refuse .outOfRange)
  | some t =>
    let r := s.trains.get t
    if r.state ≠ .standing ∨ s.headIndex t = none ∨ s.headIndex t ≠ some (r.held.length - 1) ∨ r.queue ≠ [] ∨ r.claim ≠ .none then
      (s, refuse .wrongState)
    else
      (resync t (s.modTrain t fun x => { x with held := (x.held.map fun e => (e.1, e.2.flip)).reverse, requested := 0 }), okay)

/-! ## The query (R103) -/

/-- A section state's number: FREE 0 to STRAY 5 in the order of R68, NONE 0xFF (R84, R172). -/
def SecState.code : SecState → Nat
  | .none => 0xFF
  | .free => 0
  | .pending _ => 1
  | .reserved _ => 2
  | .occupied _ => 3
  | .clearing _ => 4
  | .stray => 5

/-- A claim in a reply: NONE 0xFF, WAITING 0 or GRANTED 1, and its section (R103). -/
def datClaim : Claim → List Byte
  | .none => dat 1 0xFF ++ dat 1 0xFF
  | .waiting x _ => dat 1 0 ++ dat 1 x.1
  | .granted x => dat 1 1 ++ dat 1 x.1

/-- TRAIN_QUERY (R103). -/
def doTrainQuery (train : Nat) (s : State) : Handled :=
  match fin? 8 train with
  | none => (s, refuse .outOfRange)
  | some t =>
    let r := s.trains.get t
    (s, okWith (dat 1 r.state.code ++ dat 1 r.requested ++ dat 1 r.speed ++ dat 1 (s.effective t) ++ dat 1 r.maxSpeed ++ dat 1 r.accel
      ++ dat 1 r.decel ++ dat 1 r.timer ++ dat 1 r.mode.code
      ++ datL r.held (fun e => dat 1 e.1.1 ++ dat 1 e.2.code ++ dat 1 (s.sec e.1).code) ++ datO 1 (s.headIndex t)
      ++ dat 1 (s.authority t).length ++ datL r.queue (fun e => dat 1 e.1.1 ++ dat 1 e.2.code) ++ datClaim r.claim
      ++ datO 1 (r.routeEnd.map Fin.val) ++ dat 1 r.stop.code ++ datO 1 (r.halt.map HaltFault.code)))

end Sys2Proof.Machine
end

