-- ==== Sys2Proof/Machine/Layout.lean ====
section
/-! DEFINITION. The layout's requests and queries (R51 to R60, R64), and the requests to the throw unit and the crossings (R76, R78, R84). -/

namespace Sys2Proof.Machine

/-! ## Opening the layout (R53) -/

/-- The lowest-numbered placed train. -/
def firstPlaced (s : State) : Option (Fin 8) := (indices 8).find? fun t => (s.trains.get t).placed

/-- LAYOUT_OPEN (R53). -/
def doLayoutOpen (s : State) : Handled :=
  match firstPlaced s with
  | some t => (s, refuseAt .inUse 0 t.1 0)
  | none =>
    match s.track.config with
    | .editing => (s, okay)
    | .unconfigured => (s.modTrack fun k => { k with config := .editing }, okay)
    | .operational =>
      (s.modTrack fun k =>
        { k with config := .editing, runs := .replicate 48 { state := .none, waiting := [] }, couplings := .replicate 4 none, queue := [] },
        okay)

/-! ## Definitions (R54 to R58) -/

/-- A link as it is sent, or the number of the failing check of R55: kind 1, a PLAIN link's names 2, a POINT link's name 3. -/
def readLink (l : RawLink) : Except Nat Link :=
  match l.kind with
  | 0 => .ok .buffer
  | 1 =>
    match fin? 48 l.index, endOf l.fin with
    | some x, some e => .ok (.plain x e)
    | _, _ => .error 2
  | 2 =>
    match fin? 24 l.index with
    | some p => .ok (.point p)
    | none => .error 3
  | _ => .error 1

/-- SECTION_DEFINE (R52, R55). The checks of the table run one after another, each on end A before end B, and the
detail's index bytes are 0: log entry 59 (DESIGN CHOICE). Log entry 25 (DEDUCED). -/
def doSectionDefine (sec : Nat) (linkA linkB : RawLink) (clearance filter : Nat) (s : State) : Handled :=
  if s.track.config ≠ .editing then (s, refuse .wrongState)
  else
    match fin? 48 sec with
    | none => (s, refuse .outOfRange)
    | some x =>
      match readLink linkA, readLink linkB with
      | .error i, .ok _ => (s, refuseAt .outOfRange i 0 0)
      | .ok _, .error j => (s, refuseAt .outOfRange j 0 1)
      | .error i, .error j => if i ≤ j then (s, refuseAt .outOfRange i 0 0) else (s, refuseAt .outOfRange j 0 1)
      | .ok a, .ok b =>
        if a = .plain x .a then (s, refuseAt .invalid 4 0 0)
        else if b = .plain x .b then (s, refuseAt .invalid 4 0 1)
        else if (match a, b with | .point p, .point q => p == q | _, _ => false) then (s, refuseAt .invalid 5 0 1)
        else
          (s.modTrack fun k =>
            { k with defs := k.defs.modify x fun d =>
                { d with present := true, linkA := a, linkB := b, clearance := min 5000 clearance, filter := clampTo 20 2000 filter } },
            okay.clampedBy (5000 < clearance || filter < 20 || 2000 < filter))

/-- SECTION_FORGET (R52, R56). -/
def doSectionForget (sec : Nat) (s : State) : Handled :=
  if s.track.config ≠ .editing then (s, refuse .wrongState)
  else
    match fin? 48 sec with
    | none => (s, refuse .outOfRange)
    | some x =>
      match (s.track.defs.get x).crossing with
      | some c => (s, refuseAt .inUse 0 c.1 0)
      | none => (s.modTrack fun k => { k with defs := k.defs.set x SectionDef.initial }, okay)

/-- POINT_DEFINE (R52, R57). Log entry 37 (DEDUCED). Its refusals are tried in the order OUT_OF_RANGE, IN_USE, INVALID, which is log
entry 52 (DESIGN CHOICE). -/
def doPointDefine (point : Nat) (d : Option RawPoint) (s : State) : Handled :=
  if s.track.config ≠ .editing then (s, refuse .wrongState)
  else
    match fin? 24 point with
    | none => (s, refuse .outOfRange)
    | some p =>
      match d with
      | none =>
        if s.pulsing p then (s, refuse .inUse)
        else (s.modPoint p fun r => { r with defn := none, position := .unknown }, okay)
      | some d =>
        match fin? 48 d.section_, fin? 48 d.normalSection, endOf d.normalEnd, fin? 48 d.reverseSection, endOf d.reverseEnd with
        | some x, some n, some ne, some v, some ve =>
          if s.pulsing p then (s, refuse .inUse)
          else if (⟨n, ne⟩ : Leg) = ⟨v, ve⟩ then (s, refuse .invalid)
          else
            (s.modPoint p fun r =>
              { r with defn := some { sec := x, normal := ⟨n, ne⟩, reverse := ⟨v, ve⟩ }
                       position := if r.defn.isSome then r.position else .unknown
                       pulse := clampTo 50 1000 d.pulse },
              okay.clampedBy (d.pulse < 50 || 1000 < d.pulse))
        | _, _, _, _, _ => (s, refuse .outOfRange)

/-- Every section's membership of a crossing taken away. -/
def unmember (c : Fin 4) (d : SectionDef) : SectionDef := if d.crossing = some c then { d with crossing := none } else d

/-- The first member that belongs to another crossing (R58; the first of several: log entry 57, DESIGN CHOICE). -/
def memberTaken (s : State) (c : Fin 4) (l : List (Fin 48)) : Option (Fin 48) :=
  l.find? fun x => (s.track.defs.get x).crossing.any fun k => k != c

/-- The other defined crossing whose gate axis an axis already is (R58; the lowest of several: log entry 57,
DESIGN CHOICE). -/
def axisTaken (s : State) (c : Fin 4) (a : Fin 8) : Option (Fin 4) := (s.crossingsOf a).find? fun k => k != c

/-- CROSSING_DEFINE (R52, R58). Log entry 37 (DEDUCED). -/
def doCrossingDefine (crossing : Nat) (d : Option RawCrossing) (s : State) : Handled :=
  if s.track.config ≠ .editing then (s, refuse .wrongState)
  else
    match fin? 4 crossing with
    | none => (s, refuse .outOfRange)
    | some c =>
      match d with
      | none =>
        (s.modTrack fun k =>
          { k with defs := k.defs.map (unmember c), crossings := k.crossings.modify c fun r => { r with defn := none } }, okay)
      | some d =>
        match fin? 8 d.axis with
        | none => (s, refuse .outOfRange)
        | some a =>
          if d.members.length < 1 ∨ 4 < d.members.length then (s, refuse .outOfRange)
          else
            match readSections d.members 0 with
            | .error _ => (s, refuse .outOfRange)
            | .ok l =>
              match firstRepeat l with
              | some i => (s, refuseAt .invalid 3 i 0)
              | none =>
                match memberTaken s c l with
                | some x => (s, refuseAt .inUse 4 x.1 0)
                | none =>
                  match axisTaken s c a with
                  | some k => (s, refuseAt .inUse 5 k.1 0)
                  | none =>
                    (s.modTrack fun k =>
                      { k with
                        defs := (k.defs.map (unmember c)).mapIdx fun x r => if l.contains x then { r with crossing := some c } else r
                        crossings := k.crossings.set c
                          { defn := some { axis := a, members := l }, openDelay := min 10000 d.openDelay
                            gateTimeout := clampTo 500 20000 d.gateTimeout } },
                      okay.clampedBy (10000 < d.openDelay || d.gateTimeout < 500 || 20000 < d.gateTimeout))

/-! ## Closing the layout (R59, R60) -/

/-- The first present section end, in ascending order and end A before end B, for which a check fails. -/
def badEnd (s : State) (row : Nat) (bad : Fin 48 → End → Bool) : Option (Nat × Nat × Nat) :=
  (indices 48).findSome? fun x =>
    if (s.track.defs.get x).present then
      if bad x .a then some (row, x.1, 0) else if bad x .b then some (row, x.1, 1) else none
    else none

/-- The first defined point for which a check fails. -/
def badPoint (s : State) (row : Nat) (bad : Fin 24 → PointDef → Bool) : Option (Nat × Nat × Nat) :=
  (indices 24).findSome? fun p =>
    match s.pointDef p with
    | some d => if bad p d then some (row, p.1, 0) else none
    | none => none

/-- The first defined crossing for which a check fails. -/
def badCrossing (s : State) (row : Nat) (bad : CrossingDef → Bool) : Option (Nat × Nat × Nat) :=
  (indices 4).findSome? fun c =>
    match (s.track.crossings.get c).defn with
    | some d => if bad d then some (row, c.1, 0) else none
    | none => none

/-- The end of a point's section that carries the point as its toe (R57, R64). -/
def toeEnd (s : State) (p : Fin 24) (d : PointDef) : Option End :=
  if s.linkAt d.sec .a = .point p then some .a else if s.linkAt d.sec .b = .point p then some .b else none

/-- Whether a PLAIN link from an end is mirrored at its far end (R59, check 2). -/
def mirrored (s : State) (x : Fin 48) (e : End) (y : Fin 48) (f : End) : Bool :=
  match s.linkAt y f with
  | .plain z g => z == x && g == e
  | .point p => (s.pointDef p).any fun d => d.normal == ⟨x, e⟩ || d.reverse == ⟨x, e⟩
  | .buffer => false

/-- The first failure of LAYOUT_CLOSE's validation: the reason's number, the item's index and the end (R59). -/
def layoutFailure (s : State) : Option (Nat × Nat × Nat) :=
  let present := fun x => (s.track.defs.get x).present
  let leg := fun (l : Leg) (d : PointDef) (p : Fin 24) => (toeEnd s p d).any fun e => s.linkAt l.sec l.fin == .plain d.sec e
  (badEnd s 0 fun x e => match s.linkAt x e with | .plain y _ => !present y | _ => false).or <|
  (badEnd s 1 fun x e => match s.linkAt x e with | .plain y f => !mirrored s x e y f | _ => false).or <|
  (badEnd s 2 fun x e => match s.linkAt x e with | .point p => (s.pointDef p).isNone | _ => false).or <|
  (badEnd s 3 fun x e => match s.linkAt x e with | .point p => (s.pointDef p).any fun d => d.sec != x | _ => false).or <|
  (badPoint s 4 fun p d => !present d.sec || (toeEnd s p d).isNone).or <|
  (badPoint s 5 fun _ d => !present d.normal.sec || !present d.reverse.sec).or <|
  (badPoint s 6 fun p d => !leg d.normal d p || !leg d.reverse d p).or <|
  (badCrossing s 7 fun d => d.members.any fun x => !present x).or <|
  badCrossing s 8 fun d => (s.axes.get d.axis).kind != .gate

/-- A present section's state at the close of the layout, from its detector's confirmed state (R60). -/
def closeState (d : SectionDef) (x : Detector) : SectionRun :=
  { state := if d.present = false then .none else if x.occupied then .stray else .free, waiting := [] }

/-- The layout is put into service (R60). The crossings start their coupling in ascending index: log entry 58 (DESIGN CHOICE). -/
def enterService (s : State) : State :=
  let s1 := s.modTrack fun k =>
    { k with config := .operational, runs := .ofFn fun x => closeState (k.defs.get x) (k.detectors.get x) }
  let strays := (indices 48).filter fun x => s1.sec x == .stray
  forEach (indices 4) startCoupling (forEach strays (fun x => State.raise (.straySeen x)) s1)

/-- LAYOUT_CLOSE (R52, R59, R60). -/
def doLayoutClose (s : State) : Handled :=
  if s.track.config ≠ .editing then (s, refuse .wrongState)
  else
    match layoutFailure s with
    | some (row, index, e) => (s, refuseAt .invalid row index e)
    | none => (enterService s, okay)

/-! ## The throw unit and the crossings (R76, R78) -/

/-- POINT_THROW (R76). Log entry 27 (DEDUCED). -/
def doPointThrow (point position : Nat) (s : State) : Handled :=
  match fin? 24 point, positionOf position with
  | some p, some w =>
    if s.track.config ≠ .operational then (s, refuse .wrongState)
    else
      match s.pointDef p with
      | none => (s, refuse .wrongState)
      | some d =>
        if s.sec d.sec ≠ .free then (s, refuse .inUse)
        else if s.track.queue.any fun e => e.point == p then
          (s.setQueue (s.track.queue.map fun e => if e.point = p then { e with position := w } else e), taken)
        else if s.pointAt p w then (s.raise (.pointSet p w), okay)
        else (queueThrow { point := p, position := w, origin := .request } s, taken)
  | _, _ => (s, refuse .outOfRange)

/-- THROW_UNIT_CONFIG (R76). -/
def doThrowUnitConfig (recharge : Nat) (s : State) : Handled :=
  (s.modTrack fun k => { k with recharge := clampTo 100 5000 recharge }, okay.clampedBy (recharge < 100 || 5000 < recharge))

/-- GATE_RETRY (R78). -/
def doGateRetry (crossing : Nat) (s : State) : Handled :=
  match fin? 4 crossing with
  | none => (s, refuse .outOfRange)
  | some c =>
    if s.track.config ≠ .operational then (s, refuse .wrongState)
    else
      match (s.track.crossings.get c).defn, s.track.couplings.get c with
      | some d, some k =>
        if s.engaged then (s, refuse .interlocked)
        else
          (retryGate d.axis (s.setCoupling c (some
            { k with last := some .close, timeout := .running (s.track.crossings.get c).gateTimeout, openDelay := none, retry := true })), taken)
      | _, _ => (s, refuse .wrongState)

/-! ## Queries (R64, R84) -/

/-- A link in a reply: the three bytes of R178, unused ones 0. -/
def datLink : Link → List Byte
  | .buffer => dat 3 0
  | .plain x e => dat 1 1 ++ dat 1 x.1 ++ dat 1 e.code
  | .point p => dat 1 2 ++ dat 1 p.1 ++ dat 1 0

/-- A leg in a reply, NONE for an undefined point. -/
def datLeg : Option Leg → List Byte
  | some l => dat 1 l.sec.1 ++ dat 1 l.fin.code
  | none => dat 1 0xFF ++ dat 1 0xFF

/-- A section's definition in a reply (R64). -/
def datSection (d : SectionDef) : List Byte :=
  datF d.present ++ datLink d.linkA ++ datLink d.linkB ++ dat 2 d.clearance ++ dat 2 d.filter ++ datO 1 (d.crossing.map Fin.val)

/-- A point's record in a reply (R64). -/
def datPoint (s : State) (p : Fin 24) : List Byte :=
  let r := s.track.points.get p
  datF r.defn.isSome ++ datO 1 (r.defn.map fun d => d.sec.1) ++ datO 1 ((r.defn.bind fun d => toeEnd s p d).map End.code)
    ++ datLeg (r.defn.map PointDef.normal) ++ datLeg (r.defn.map PointDef.reverse) ++ dat 1 r.position.code ++ dat 2 r.pulse

/-- A crossing's record in a reply (R64). -/
def datCrossing (r : Crossing) : List Byte :=
  datF r.defn.isSome ++ datO 1 (r.defn.map fun d => d.axis.1) ++ datL ((r.defn.map CrossingDef.members).getD []) (fun x => dat 1 x.1)
    ++ dat 2 r.openDelay ++ dat 2 r.gateTimeout

/-- LAYOUT_QUERY (R64): SECTION 0, POINT 1, CROSSING 2. -/
def doLayoutQuery (cls index : Nat) (s : State) : Handled :=
  let head := dat 1 s.track.config.code
  match cls with
  | 0 =>
    match fin? 48 index with
    | some x => (s, okWith (head ++ datSection (s.track.defs.get x)))
    | none => (s, refuse .outOfRange)
  | 1 =>
    match fin? 24 index with
    | some p => (s, okWith (head ++ datPoint s p))
    | none => (s, refuse .outOfRange)
  | 2 =>
    match fin? 4 index with
    | some c => (s, okWith (head ++ datCrossing (s.track.crossings.get c)))
    | none => (s, refuse .outOfRange)
  | _ => (s, refuse .outOfRange)

/-- The remaining clearance of a CLEARING section. -/
def SecState.clearingLeft : SecState → Option Nat
  | .clearing ms => some ms
  | _ => Option.none

/-- SECTION_QUERY (R84). Log entry 29 (DEDUCED). -/
def doSectionQuery (sec : Nat) (s : State) : Handled :=
  match fin? 48 sec with
  | none => (s, refuse .outOfRange)
  | some x =>
    let d := s.track.detectors.get x
    let head := datF d.occupied ++ dat 2 d.progress
    if s.track.config = .operational ∧ (s.track.defs.get x).present = true then
      (s, okWith (head ++ dat 1 (s.sec x).code ++ datO 1 ((s.sec x).holder.map Fin.val) ++ datO 1 ((s.senseOf x).map Sense.code)
        ++ datL (s.track.runs.get x).waiting (fun t => dat 1 t.1) ++ datO 2 (s.sec x).clearingLeft))
    else (s, okWith (head ++ dat 1 0xFF))

/-- A gate timeout in a reply, as a record that may be absent (R177): running 0 or suspended 1, and the milliseconds remaining.
Log entry 43 (DESIGN CHOICE). -/
def datGateTimer : GateTimer → List Byte
  | .absent => dat 1 0 ++ dat 1 0 ++ dat 2 0
  | .running ms => dat 1 1 ++ dat 1 0 ++ dat 2 ms
  | .suspended ms => dat 1 1 ++ dat 1 1 ++ dat 2 ms

/-- CROSSING_QUERY (R84). Log entry 29 (DEDUCED). -/
def doCrossingQuery (crossing : Nat) (s : State) : Handled :=
  match fin? 4 crossing with
  | none => (s, refuse .outOfRange)
  | some c =>
    match s.track.config, (s.track.crossings.get c).defn, s.track.couplings.get c with
    | .operational, some d, some k =>
      (s, okWith (dat 1 k.demand.code ++ datO 1 (k.last.map GateWish.code) ++ dat 1 (s.axes.get d.axis).reported.code
        ++ datO 2 k.openDelay ++ datGateTimer k.timeout))
    | _, _, _ => (s, okWith (dat 1 0xFF))

/-- The discharge unit in a reply: READY 0, PULSING 1 or RECHARGING 2, its point and its remaining time (R84). -/
def datUnit : ThrowUnit → List Byte
  | .ready => dat 1 0 ++ dat 1 0xFF ++ dat 2 0xFFFF
  | .pulsing p _ ms _ => dat 1 1 ++ dat 1 p.1 ++ dat 2 ms
  | .recharging ms => dat 1 2 ++ dat 1 0xFF ++ dat 2 ms

/-- A throw's origin in a reply: a grant 0 with its train and section, or the show computer 1 (log entry 6). -/
def datOrigin : ThrowOrigin → List Byte
  | .grant t x => dat 1 0 ++ dat 1 t.1 ++ dat 1 x.1
  | .request => dat 1 1 ++ dat 1 0xFF ++ dat 1 0xFF

/-- THROW_QUERY (R84). -/
def doThrowQuery (s : State) : Handled :=
  (s, okWith (datUnit s.track.unit_ ++ dat 2 s.track.recharge
    ++ datL s.track.queue (fun e => dat 1 e.point.1 ++ dat 1 e.position.code ++ datOrigin e.origin)))

/-! ## Point drive lines (R75) -/

/-- The level of a point's select line: high while its pulse is in progress. Log entry 41 (DEDUCED). -/
def State.selectLine (s : State) (p : Fin 24) : Bool := s.pulsing p

/-- The level of the fire line: high for REVERSE, low for NORMAL, for the time of a pulse (R75), and low between
pulses: log entry 60 (DESIGN CHOICE). Log entry 41 (DEDUCED). -/
def State.fireLine (s : State) : Bool :=
  match s.track.unit_ with
  | .pulsing _ w _ _ => w == .reverse
  | _ => false

end Sys2Proof.Machine
end

