-- ==== Sys2Proof/Machine/TownClock.lean ====
section
/-! DEFINITION. The Town Clock (R1 to R17): the rate settings, the clock requests, and the advance of one real millisecond with
its boundary events and its hand-out of town seconds. -/

namespace Sys2Proof.Machine

/-! ## Rate settings (R3, R4) -/

/-- The first failing setting of a rate: P 0, M 1, Q 2, the stage condition 3, the glide rate 4 (R3, R173). -/
def rateFailure (p m q : Nat) (glide : Option Nat) : Option Nat :=
  if p < 1 ∨ 16 < p then some 0
  else if m < 1 ∨ 4095 < m then some 1
  else if ¬(q = 1 ∨ q = 2 ∨ q = 4 ∨ q = 8) then some 2
  else if m < p ∨ 256 * p < m then some 3
  else if glide.any fun g => g < 1 || 4096 < g then some 4
  else none

/-- The clock under new settings: A becomes 0, and the glide rate is kept when none is carried (R4). -/
def Clock.setRate (p m q : Nat) (glide : Option Nat) (c : Clock) : Clock :=
  { c with p := p, m := m, q := q, acc := 0, glideRate := glide.getD c.glideRate }

/-- The settings in force, as a reply gives them: P, M, Q and the glide rate (R3). -/
def datRate (c : Clock) : List Byte := dat 1 c.p ++ dat 2 c.m ++ dat 1 c.q ++ dat 2 c.glideRate

/-- CLOCK_SET_RATE (R3, R4). -/
def doClockSetRate (p m q : Nat) (glide : Option Nat) (s : State) : Handled :=
  match rateFailure p m q glide with
  | some row => (s, refuseAt .outOfRange row 0 0)
  | none => (s.modClock (Clock.setRate p m q glide), okWith (datRate (s.clock.setRate p m q glide)))

/-! ## Hold, run and set (R6 to R12) -/

/-- CLOCK_HOLD (R6). -/
def doClockHold (s : State) : Handled := (s.modClock fun c => { c with state := .held }, okay)

/-- The clock that leaves HELD: to GLIDE when a glide is suspended, else to RUN (R7). -/
def Clock.resume (c : Clock) : Clock :=
  match c.state with
  | .held => { c with state := if c.target.isSome then .glide else .run }
  | _ => c

/-- CLOCK_RUN (R7). -/
def doClockRun (s : State) : Handled := (s.modClock Clock.resume, okay)

/-- A glide record that is present ends without arrival: the ending is handed to the Cue Engine (R12). -/
def endGlide (s : State) : State := if s.clock.target.isSome then s.handEnding .glide else s

/-- The clock after a JUMP (R9). -/
def Clock.jump (target : Nat) (c : Clock) : Clock :=
  { c with town := target, target := none, state := if c.state = .held then .held else .run }

/-- CLOCK_SET_TIME in JUMP mode (R9). -/
def jumpTo (target : Nat) (s : State) : Handled :=
  (((endGlide s).modClock (Clock.jump target)).raise (.timeJumped s.clock.town target), okay)

/-- The forward distance from a town time to a target (R10). -/
def glideDistance (town target : Nat) : Nat := (target + Config.dayMs - town) % Config.dayMs

/-- CLOCK_SET_TIME in GLIDE mode (R10). -/
def glideTo (target : Nat) (s : State) : Handled :=
  if s.clock.state = .held then (s, refuse .wrongState)
  else if glideDistance s.clock.town target = 0 then
    (((endGlide s).modClock fun c => { c with target := none, state := .run }).raise .clockLocked, okay)
  else ((endGlide s).modClock fun c => { c with target := some target, state := .glide }, taken)

/-- CLOCK_SET_TIME (R8): JUMP 0, GLIDE 1. -/
def doClockSetTime (target mode : Nat) (s : State) : Handled :=
  if Config.dayMs ≤ target then (s, refuse .outOfRange)
  else
    match mode with
    | 0 => jumpTo target s
    | 1 => glideTo target s
    | _ => (s, refuse .outOfRange)

/-- CLOCK_QUERY (R17). -/
def doClockQuery (s : State) : Handled :=
  let c := s.clock
  (s, okWith (dat 1 c.state.code ++ dat 4 c.town ++ dat 2 c.day ++ dat 1 c.p ++ dat 2 c.m ++ dat 1 c.q ++ dat 1 c.acc
    ++ dat 2 c.glideRate ++ datR c.target 4 (dat 4) ++ dat 2 c.rem ++ dat 4 c.rt.toNat))

/-! ## The advance (R5, R11, R13 to R15) -/

/-- The advance of the present real millisecond, and the accumulator after it (R5, R6, R11). -/
def Clock.advance (c : Clock) : Nat × Nat :=
  match c.state, c.target with
  | .held, _ => (0, c.acc)
  | .glide, some t => (min c.glideRate (glideDistance c.town t), c.acc)
  | _, _ => ((c.acc + c.m) / (c.p * c.q), (c.acc + c.m) % (c.p * c.q))

/-- Whether the advance of the present real millisecond makes a glide arrive (R11). -/
def Clock.arrives (c : Clock) : Bool :=
  match c.state, c.target with
  | .glide, some t => decide (glideDistance c.town t ≤ c.glideRate)
  | _, _ => false

/-- The minute boundaries an advance of `d` from town time `t` passes, counted before the wrap, in order (R13). -/
def boundaries (t d : Nat) : List Nat := (List.range' (t / 60000 + 1) ((t + d) / 60000 - t / 60000)).map fun k => k * 60000

/-- One boundary passed: TOWN_MINUTE(m); at midnight also the day count and TOWN_DAY(day) (R13, R14). -/
def passBoundary (b : Nat) (s : State) : State :=
  if b = Config.dayMs then
    let s1 := s.raise (.townMinute 0)
    let day := (s.clock.day + 1) % 65536
    (s1.modClock fun c => { c with day := day }).raise (.townDay day)
  else s.raise (.townMinute (b % Config.dayMs / 60000))

/-- A TOWN_SECONDS wait of a WAITING player counts down by `n` (R15, R130). -/
def Player.countTown (n : Nat) (p : Player) : Player :=
  match p.state, p.wait with
  | .waiting, some { kind := .townSeconds left, since := a } => { p with wait := some { kind := .townSeconds (left - n), since := a } }
  | _, _ => p

/-- Whole town seconds handed to the TOWN fades and to the TOWN_SECONDS waits (R15). -/
def handOut (n : Nat) (s : State) : State :=
  if n = 0 then s
  else (advanceFades .town n s).modCue fun c => { c with players := c.players.map (Player.countTown n) }

/-- The whole town seconds that an advance of `d` carries over the second remainder (R15). -/
def Clock.secondsOf (c : Clock) (d : Nat) : Nat := (c.rem + d) / 1000

/-- The clock record moved by the advance: town time, accumulator and second remainder (R5, R11, R15). -/
def Clock.moved (c : Clock) : Clock :=
  let a := c.advance
  { c with town := (c.town + a.1) % Config.dayMs, acc := a.2, rem := (c.rem + a.1) % 1000 }

/-- A glide that has arrived: the record becomes absent, the state RUN, and CLOCK_LOCKED is raised (R11). -/
def arrive (s : State) : State := (s.modClock fun c => { c with target := none, state := .run }).raise .clockLocked

/-- The Town Clock's advance at a real millisecond (R5, R6, R11, R13 to R15): town time moves, the boundaries passed are raised,
a glide that arrives ends, and the town seconds are handed out. Log entry 38 (DEDUCED). -/
def advanceClock (s : State) : State :=
  let d := s.clock.advance.1
  let s1 := forEach (boundaries s.clock.town d) passBoundary (s.modClock Clock.moved)
  let s2 := if s.clock.arrives then arrive s1 else s1
  handOut (s.clock.secondsOf d) s2

end Sys2Proof.Machine
end

