-- ==== Sys2Proof/Machine/CueList.lean ====
section
/-! DEFINITION. Cue lists (R123 to R127, R179): what each action uses of its step record, the validation of a closed list, and
the list requests. -/

namespace Sys2Proof

open Sys2Proof.Machine

/-! ## Reading a step record (R127, R179, R180) -/

/-- The AWAIT flag: bit 0 (R179). -/
def StepRec.awaits (r : StepRec) : Bool := r.flags.testBit 0

/-- The route mode: bit 1, 0 AUTO_RELEASE and 1 HOLD (R179). -/
def StepRec.routeMode (r : StepRec) : Nat := r.flags / 2 % 2

/-- The wait value of REAL_MS, TOWN_SECONDS and TOWN_AT (R179). -/
def StepRec.waitValue (r : StepRec) : Nat := r.w4 + 256 * r.w5

/-- An event code with a two-byte subject, 0xFFFF for ANY (R172). -/
def Machine.eventSpec (code subject : Nat) : EventSpec := { code := code, subject := if subject = 0xFFFF then none else some subject }

/-- The event an EVENT wait names (R179). -/
def StepRec.waitSpec (r : StepRec) : EventSpec := eventSpec r.w4 (r.w5 + 256 * r.w6)

/-- A repeat's until-condition: none for event code 0 (R179). -/
def StepRec.untilSpec (r : StepRec) : Option EventSpec := if r.p3 = 0 then none else some (eventSpec r.p3 r.p2)

/-- p1 and p2 as one 4-byte field (R179). -/
def StepRec.long (r : StepRec) : Nat := r.p1 + 65536 * r.p2

/-- The sections of a TRAIN_ROUTE step: as many of the four bytes as its count says (R179). -/
def StepRec.sections (r : StepRec) : List Nat := [r.p1 % 256, r.p1 / 256, r.p2 % 256, r.p2 / 256].take r.p3

/-- The target of an action, as a number in its class: groups for 1 to 3, trains 4 to 7, axes 8 to 12, aux 13, clock 14 and 15;
`none` for an action without one, and `some none` for an index beyond the class (R127, R180). -/
def StepRec.drives (r : StepRec) : Option (Option (Fin 57)) :=
  if 1 ≤ r.action ∧ r.action ≤ 3 then some ((fin? 32 r.target).map groupTarget)
  else if 4 ≤ r.action ∧ r.action ≤ 7 then some ((fin? 8 r.target).map trainTarget)
  else if 8 ≤ r.action ∧ r.action ≤ 12 then some ((fin? 8 r.target).map axisTarget)
  else if r.action = 13 then some ((fin? 8 r.target).map auxTarget)
  else if r.action = 14 ∨ r.action = 15 then some (if r.target = 0 then some clockTarget else none)
  else none

/-- Whether an action's target is held back by the dressing interlock: a train or an axis (R131). -/
def Machine.interlocked (x : Fin 57) : Bool := 32 ≤ x.1 && x.1 < 48

/-- Which of p1, p2 and p3 an action uses (R179). -/
def Machine.usesParams (action : Nat) : Bool × Bool × Bool :=
  match action with
  | 1 => (true, true, true)
  | 2 => (false, false, true)
  | 3 => (true, true, true)
  | 4 => (true, false, false)
  | 5 => (true, true, true)
  | 8 => (true, false, true)
  | 9 => (true, true, false)
  | 10 => (true, false, false)
  | 13 => (false, false, true)
  | 14 => (true, true, true)
  | 15 => (true, true, false)
  | 16 => (true, false, false)
  | 17 => (true, false, false)
  | 18 => (true, true, true)
  | _ => (false, false, false)

/-- Whether an action names a target: those of R127 with a class, and RELEASE. -/
def Machine.usesTarget (action : Nat) : Bool := (1 ≤ action && action ≤ 15) || action == 20

/-- Which of the three wait value bytes a wait kind uses (R179): offsets 4 and 5, or all three for EVENT. -/
def Machine.usesWait (kind : Nat) : Bool × Bool :=
  if kind = 4 then (true, true) else if 1 ≤ kind ∧ kind ≤ 3 then (true, false) else (false, false)

/-- A step as it is stored: bytes its action and wait kind do not use are ignored on receipt and kept as 0 (R172). Steps with an
action or a wait kind beyond their lists are kept as sent, for the validation to refuse. Log entry 14 (DEDUCED). -/
def StepRec.stored (r : StepRec) : StepRec :=
  if 21 < r.action ∨ 4 < r.waitKind then { r with flags := r.flags % 4 }
  else
    let u := usesParams r.action
    let w := usesWait r.waitKind
    { action := r.action, target := if usesTarget r.action then r.target else 0, flags := r.flags % 4, waitKind := r.waitKind
      w4 := if w.1 then r.w4 else 0, w5 := if w.1 then r.w5 else 0, w6 := if w.2 then r.w6 else 0, timeout := r.timeout
      p1 := if u.1 then r.p1 else 0, p2 := if u.2.1 then r.p2 else 0, p3 := if u.2.2 then r.p3 else 0 }

/-! ## Validation (R125) -/

/-- A validation failure's reason, numbered in the order R125 first names it (R173). -/
inductive Machine.ListFault where
  | badAction
  | badParameter
  | badWait
  | badFlags
  | repeatNesting
  | repeatUnbalanced
  | endlessRepeat
deriving DecidableEq, Repr

/-- A reason's number (R173). Log entry 26 (DESIGN CHOICE). -/
def Machine.ListFault.code : ListFault → Nat
  | .badAction => 0
  | .badParameter => 1
  | .badWait => 2
  | .badFlags => 3
  | .repeatNesting => 4
  | .repeatUnbalanced => 5
  | .endlessRepeat => 6

/-- Check 1: the action is known and its target names an item of its class (R125). -/
def StepRec.actionValid (r : StepRec) : Bool :=
  r.action ≤ 21 && (match r.drives with | some none => false | _ => true) && (r.action != 20 || r.target < 57 || r.target == 0xFF)

/-- Check 2: each parameter that the owning block would refuse when out of range lies within its range (R125; log entry 15). -/
def StepRec.paramsValid (r : StepRec) : Bool :=
  match r.action with
  | 1 => (fadeBaseOf r.p3).isSome
  | 2 => (groupModeOf r.p3).isSome
  | 3 => r.p1 ≤ 255 && r.p2 ≤ 255
  | 5 => 1 ≤ r.p3 && r.p3 ≤ 4 && r.sections.all fun x => x < 48
  | 8 => (dirOf r.p3).isSome
  | 10 => r.p1 < 65535
  | 13 => (onOffOf r.p3).isSome
  | 14 => (rateFailure r.p2 r.p1 r.p3 none).isNone
  | 15 => r.long < Config.dayMs
  | 16 => r.p1 ≤ 255
  | 17 => r.p1 < 64
  | 18 => r.p1 ≤ 255
  | _ => true

/-- Check 3: the wait (R125). -/
def StepRec.waitValid (r : StepRec) : Bool :=
  r.waitKind ≤ 4 && (r.waitKind != 3 || r.waitValue ≤ 1439) && (r.waitKind != 4 || eventCodes.contains r.w4)
    && (r.timeout == 0 || r.waitKind == 4)

/-- The actions with a completion (R127, R133). -/
def Machine.hasCompletion (action : Nat) : Bool := action == 1 || action == 5 || (8 ≤ action && action ≤ 12) || action == 15

/-- Check 4: the flags (R125). -/
def StepRec.flagsValid (r : StepRec) : Bool := (!r.awaits || hasCompletion r.action) && (r.routeMode == 0 || r.action == 5)

/-- Whether a step's wait lets real or town time pass in a repeat (R125, check 7). -/
def StepRec.waits (r : StepRec) : Bool :=
  r.waitKind != 0 && (!(r.waitKind == 1 || r.waitKind == 2) || 0 < r.waitValue)

/-- The failure of one step's own checks, in the order of R125; `depth` repeats are open. -/
def StepRec.failure (depth : Nat) (r : StepRec) : Option ListFault :=
  if r.actionValid = false then some .badAction
  else if r.paramsValid = false then some .badParameter
  else if r.waitValid = false then some .badWait
  else if r.flagsValid = false then some .badFlags
  else if r.action = 18 ∧ (8 ≤ depth ∨ r.untilSpec.any fun u => !eventCodes.contains u.code) then some .repeatNesting
  else if r.action = 19 ∧ depth = 0 then some .repeatUnbalanced
  else none

/-- Whether the repeat from one index to another would never end (R125, check 7). -/
def Machine.endless (steps : List StepRec) (first last : Nat) : Bool :=
  match steps[first]? with
  | none => false
  | some b => b.p1 == 0 && b.untilSpec.isNone && !(((steps.drop first).take (last + 1 - first)).any StepRec.waits)

/-- Validation of the steps from index `i` on, with the indices of the open repeats, innermost first (R125). -/
def Machine.validateFrom (all : List StepRec) : List StepRec → Nat → List Nat → Option (ListFault × Nat)
  | [], _, [] => none
  | [], _, b :: _ => some (.repeatUnbalanced, b)
  | r :: rest, i, opened =>
    match r.failure opened.length with
    | some f => some (f, i)
    | none =>
      if r.action = 18 then validateFrom all rest (i + 1) (i :: opened)
      else if r.action = 19 then
        match opened with
        | b :: outer => if endless all b i then some (.endlessRepeat, b) else validateFrom all rest (i + 1) outer
        | [] => some (.repeatUnbalanced, i)
      else validateFrom all rest (i + 1) opened

/-- The first failure of a list's steps (R125). -/
def Machine.validateList (steps : List StepRec) : Option (ListFault × Nat) := validateFrom steps steps 0 []

end Sys2Proof

namespace Sys2Proof.Machine

/-! ## The list requests (R123, R124, R126) -/

/-- Whether a player uses a list (R123). -/
def Player.uses (l : Fin 64) (p : Player) : Bool :=
  (p.cur.any fun c => c.1 == l) || (p.calls.any fun c => c.1 == l) || (p.pendingStart.any fun c => c.1 == l)

/-- The lowest-numbered player that uses a list (R124). -/
def State.listUser (s : State) (l : Fin 64) : Option (Fin 8) := (indices 8).find? fun p => (s.cue.players.get p).uses l

/-- A list's steps with a run of them replaced (R124). -/
def CueList.write (first : Nat) (steps : List StepRec) (c : CueList) : CueList :=
  { c with steps := c.steps.mapIdx fun i old => if first ≤ i.1 then (steps[i.1 - first]?).getD old else old }

/-- A list closed at a length: later steps become NONE steps (R124). -/
def CueList.cut (n : Nat) (c : CueList) : CueList :=
  { c with length := n, steps := c.steps.mapIdx fun i old => if i.1 < n then old else noneStep }

/-- The steps of a list up to its length. -/
def CueList.run (c : CueList) : List StepRec := c.steps.items.take c.length

/-- The range check of LIST_WRITE and LIST_QUERY (R124, R126). -/
def listRange (first count : Nat) : Bool := first ≤ 31 && count ≤ 17 && first + count ≤ 32

/-- LIST_WRITE (R124, R125). -/
def doListWrite (list first : Nat) (endFlag : Bool) (steps : List StepRec) (s : State) : Handled :=
  match fin? 64 list with
  | none => (s, refuse .outOfRange)
  | some l =>
    if listRange first steps.length = false then (s, refuse .outOfRange)
    else
      match s.listUser l with
      | some p => (s, refuseAt .inUse 1 p.1 0)
      | none =>
        let c := (s.cue.lists.get l).write first (steps.map StepRec.stored)
        if endFlag = false then (s.modList l fun _ => { c with state := .writing }, okay)
        else
          let d := c.cut (first + steps.length)
          match validateList d.run with
          | none => (s.modList l fun _ => { d with state := .ready }, okay)
          | some (f, i) => (s.modList l fun _ => { d with state := .writing }, refuseAt .invalid f.code i 0)

/-- LIST_ERASE (R126). -/
def doListErase (list : Nat) (s : State) : Handled :=
  match fin? 64 list with
  | none => (s, refuse .outOfRange)
  | some l =>
    match s.listUser l with
    | some p => (s, refuseAt .inUse 0 p.1 0)
    | none => (s.modList l fun _ => CueList.initial, okay)

/-- LIST_QUERY (R126). -/
def doListQuery (list first count : Nat) (s : State) : Handled :=
  match fin? 64 list with
  | none => (s, refuse .outOfRange)
  | some l =>
    if listRange first count = false then (s, refuse .outOfRange)
    else
      let c := s.cue.lists.get l
      (s, okWith (dat 1 c.state.code ++ dat 1 c.length ++ datF (s.listUser l).isSome
        ++ datL ((c.steps.items.drop first).take count) (fun r => (bStep r).map (BitVec.ofNat 8))))

end Sys2Proof.Machine
end

