-- ==== Sys2Proof/Machine/Inputs.lean ====
section
/-! DEFINITION. The window inputs, the input counters and the aux outputs of the Trigger Unit (R143 to R149). -/

namespace Sys2Proof.Machine

/-! ## Conditioners and counters (R143 to R148) -/

/-- The edge that brings an input to a level (R144). -/
def edgeTo (high : Bool) : Edge := if high then .rising else .falling

/-- A conditioner after a sample, and the edge it confirms, if any (R144). -/
def Conditioner.sample (level : Bool) (c : Conditioner) : Conditioner × Option Edge :=
  if c.initialized = false then ({ c with high := level, run := 0, initialized := true }, none)
  else if level = c.high then ({ c with run := 0 }, none)
  else if c.debounce ≤ c.run + 1 then ({ c with high := level, run := 0 }, some (edgeTo level))
  else ({ c with run := c.run + 1 }, none)

/-- A counter after a confirmed edge, and whether it underflows (R146). -/
def Counter.count_ (e : Edge) (c : Counter) : Counter × Bool :=
  if c.mode = .off ∨ c.edge ≠ e then (c, false)
  else if 0 < c.count then ({ c with count := c.count - 1 }, false)
  else
    match c.mode with
    | .reload => ({ c with count := c.reload }, true)
    | _ => ({ c with mode := .off }, true)

/-- A confirmed edge: INPUT_EDGE is raised, then the edge is offered to the input's counter (R144, R146). -/
def confirmEdge (i : Fin 8) (e : Edge) (s : State) : State :=
  let s1 := s.raise (.inputEdge i e)
  let r := (s.trig.counters.get i).count_ e
  let s2 := s1.modCounter i fun _ => r.1
  if r.2 then s2.raise (.inputCount i) else s2

/-- The level of a window input. -/
def State.windowInput (s : State) (i : Fin 8) : Bool := s.pins.window.getLsbD i.1

/-- The edge that the due sample of an input would confirm. -/
def State.wouldEdge (s : State) (i : Fin 8) : Option Edge := ((s.trig.inputs.get i).sample (s.windowInput i)).2

/-- The due sample of one input (R144). -/
def sampleInput (i : Fin 8) (s : State) : State :=
  let r := (s.trig.inputs.get i).sample (s.windowInput i)
  let s1 := (s.modSched fun d => { d with inputs := d.inputs &&& ~~~(1#8 <<< i.1) }).modInput i fun _ => r.1
  match r.2 with
  | none => s1
  | some e => confirmEdge i e s1

/-- INPUT_CONFIG (R145). -/
def doInputConfig (input debounce : Nat) (s : State) : Handled :=
  match fin? 8 input with
  | none => (s, refuse .outOfRange)
  | some i => (s.modInput i fun c => { c with debounce := clampTo 1 255 debounce }, okay.clampedBy (debounce < 1 || 255 < debounce))

/-- COUNTER_CONFIG (R147). -/
def doCounterConfig (input mode edge reload : Nat) (s : State) : Handled :=
  match fin? 8 input, counterModeOf mode, edgeOf edge with
  | some i, some m, some e =>
    if 65535 < reload then (s, refuse .outOfRange)
    else (s.modCounter i fun _ => { mode := m, edge := e, reload := reload, count := reload }, okay)
  | _, _, _ => (s, refuse .outOfRange)

/-- INPUT_QUERY (R148). -/
def doInputQuery (input : Nat) (s : State) : Handled :=
  match fin? 8 input with
  | none => (s, refuse .outOfRange)
  | some i =>
    let c := s.trig.inputs.get i
    let k := s.trig.counters.get i
    (s, okWith (datF (s.windowInput i) ++ datF c.high ++ dat 1 c.run ++ dat 2 c.debounce ++ dat 1 k.mode.code ++ dat 1 k.edge.code
      ++ dat 2 k.reload ++ dat 2 k.count))

/-- A counter after a WARM reset: reloaded, in every mode (R146). -/
def Counter.warm (c : Counter) : Counter := { c with count := c.reload }

/-- The Trigger Unit's WARM reset (R143, R146, R149, R150). -/
def warmTrig (s : State) : State := s.modTrig fun t => { t with counters := t.counters.map Counter.warm }

/-! ## Aux outputs (R149) -/

/-- AUX_SET (R149). -/
def doAuxSet (output value : Nat) (s : State) : Handled :=
  match fin? 8 output, onOffOf value with
  | some x, some on => (s.modTrig fun t => { t with aux := t.aux.set x on }, okay)
  | _, _ => (s, refuse .outOfRange)

/-- The level of an aux output line: high while its commanded value is ON and the AUX rail is UP (R149). -/
def State.auxLine (s : State) (x : Fin 8) : Bool := s.trig.aux.get x && s.supply.rails.aux

/-- AUX_QUERY (R149): each output's commanded value (ON 0, OFF 1) and driven level (high 1, low 0), then the AUX rail state. Log entry 51
(DESIGN CHOICE). -/
def doAuxQuery (s : State) : Handled :=
  (s, okWith ((indices 8).flatMap (fun x => dat 1 (onOffCode (s.trig.aux.get x)) ++ datF (s.auxLine x)) ++ datF s.supply.rails.aux))

end Sys2Proof.Machine
end

