-- ==== Sys2Proof/Machine/Player.lean ====
section
/-! DEFINITION. The players (R127 to R142): runs stage by stage, contention and hand-over, repeats and calls, waits and awaits, and
the player requests. -/

namespace Sys2Proof.Machine

/-! ## The step a player is at -/

/-- The step of a list at an index. -/
def CueList.stepAt (c : CueList) (i : Nat) : StepRec := c.steps.items.getD i noneStep

/-- The step a player is at; a NONE step without a current list. -/
def State.stepOf (s : State) (p : Fin 8) : StepRec :=
  match (s.cue.players.get p).cur with
  | some (l, i) => (s.cue.lists.get l).stepAt i
  | none => noneStep

/-- A run of a player goes on at a stage, before any other run (R128). -/
def goOn (p : Fin 8) (stage : Stage) (s : State) : State := s.later (.run p stage)

/-- A player becomes RUNNING and its run at a stage is put in line (R128). Log entry 30 (DESIGN CHOICE). -/
def lineUp (p : Fin 8) (stage : Stage) (s : State) : State :=
  (s.modPlayer p fun x => { x with state := .running, blocked := none }).laterRun p stage

/-! ## Hand-over (R134) -/

/-- The targets a player holds, in target order. -/
def State.heldTargets (s : State) (p : Fin 8) : List (Fin 57) := (indices 57).filter fun x => s.cue.holders.get x == some p

/-- Descending priority, ties to the lowest player index (R128, R134). -/
def State.byPriority (s : State) (l : List (Fin 8)) : List (Fin 8) := byWeight (fun p => (s.cue.players.get p).priority) l

/-- The player a released target is handed to: among the BLOCKED players whose blocked target it is, the first by priority (R134). -/
def State.heir (s : State) (x : Fin 57) : Option (Fin 8) :=
  (s.byPriority ((indices 8).filter fun p =>
    (s.cue.players.get p).state == .blocked && (s.cue.players.get p).blocked == some (.target x))).head?

/-- One released target assigned; the players that received one so far are kept (R134). -/
def assignTarget (x : Fin 57) (a : List (Fin 8) × State) : List (Fin 8) × State :=
  match a.2.heir x with
  | none => a
  | some q => (a.1 ++ [q], (a.2.modPlayer q fun y => { y with blocked := none }).setHolder x (some q))

/-- Targets of a player released and handed over: all are assigned before any receiving player runs, and the receivers are put in
line by descending priority with ties to the lowest index (R134). -/
def releaseTargets (l : List (Fin 57)) (s : State) : State :=
  let s1 := forEach l (fun x => State.setHolder x none) s
  let a := l.foldl (fun a x => assignTarget x a) ([], s1)
  forEach (a.2.byPriority ((indices 8).filter a.1.contains)) (fun q => lineUp q .contend) a.2

/-! ## Starting, ending and faulting (R137 to R139) -/

/-- A player without a run (R137, R140): nothing of a run is left. -/
def Player.clear (st : PlayerState) (x : Player) : Player :=
  { x with state := st, cur := none, calls := [], repeats := [], wait := none, await := none, blocked := none }

/-- A player that starts a list (R139). -/
def Player.begin (l : Fin 64) (x : Player) : Player :=
  { x with state := .running, cur := some (l, 0), calls := [], repeats := [], wait := none, await := none, blocked := none
           fault := none, prePause := none }

/-- A list started on a player; its run is put in line (R128, R139). -/
def startList (p : Fin 8) (l : Fin 64) (s : State) : State := (s.modPlayer p (Player.begin l)).laterRun p .wait

/-- The end of a run (R137). -/
def endRun (p : Fin 8) (s : State) : State :=
  let held := s.heldTargets p
  let s1 := (releaseTargets held (s.modPlayer p (Player.clear .idle))).raise (.playerEnd p)
  match (s1.cue.players.get p).pendingStart with
  | none => s1
  | some (l, _) => startList p l (s1.modPlayer p fun x => { x with pendingStart := none })

/-- A player's fault (R138). -/
def faultPlayer (p : Fin 8) (code : PlayerFaultCode) (detail : Nat) (s : State) : State :=
  let at_ := ((s.cue.players.get p).cur).getD (0, 0)
  let held := s.heldTargets p
  let s1 := s.modPlayer p fun x =>
    { Player.clear .fault x with
      pendingStart := none, prePause := none, fault := some { code := code, detail := detail, list := at_.1, step := at_.2 } }
  (releaseTargets held s1).raise (.playerFault p code)

/-- Whether a player has a run (R139). -/
def Player.runs (x : Player) : Bool := x.state != .idle && x.state != .fault

/-- PLAYER_START as the show computer or a trigger asks for it, with its outcome (R139, R152). -/
def startPlayer (p : Fin 8) (l : Fin 64) (policy : Policy) (s : State) : State × StartOutcome :=
  if (s.cue.lists.get l).state ≠ .ready then (s, .refused .wrongState)
  else if (s.cue.players.get p).runs = false then (startList p l s, .started)
  else
    match policy with
    | .skip => (s, .skipped)
    | .queue => (s.modPlayer p fun x => { x with pendingStart := some (l, policy) }, .queued)
    | .replace =>
      let held := s.heldTargets p
      let s1 := s.modPlayer p fun x => { Player.clear .idle x with pendingStart := none, prePause := none }
      (startList p l (releaseTargets held s1), .replaced)

/-! ## Issue and await (R127, R132, R133) -/

/-- A step's action issued to its owning block as the request R127 gives (R132). -/
def issueAction (r : StepRec) (s : State) : Handled :=
  match r.action with
  | 1 => doGroupSetLevel r.target r.p1 r.p2 r.p3 s
  | 2 => doGroupSetMode r.target r.p3 s
  | 3 => doGroupSetBlink r.target (if r.p1 = 0 then 0 else 1) r.p1 r.p2 r.p3 s
  | 4 => doTrainSpeed r.target r.p1 s
  | 5 => doTrainRoute r.target r.routeMode r.sections s
  | 6 => doTrainRelease r.target s
  | 7 => doTrainStop r.target s
  | 8 => doAxisSpeed r.target r.p1 r.p3 s
  | 9 => doAxisMove r.target (toSigned 4 r.long) s
  | 10 => doAxisStopAt r.target r.p1 s
  | 11 => doAxisStop r.target s
  | 12 => doAxisHome r.target s
  | 13 => doAuxSet r.target r.p3 s
  | 14 => doClockSetRate r.p2 r.p1 r.p3 none s
  | 15 => doClockSetTime r.long 1 s
  | _ => (s, okay)

/-- What an awaited action's completion is (R127, R133). -/
def expectOf (r : StepRec) : Expect :=
  if r.action = 1 then .fade (Fin.ofNat 32 r.target)
  else if r.action = 5 then .route (Fin.ofNat 8 r.target) (r.sections.getLastD 0)
  else if r.action = 15 then .glide
  else .axis (Fin.ofNat 8 r.target)

/-- The await record of an issued action. -/
def awaitOf (r : StepRec) (since : Nat) : AwaitRec :=
  { action := r.action, target := r.target, expect := expectOf r, since := since, outcome := none }

/-- Stages 3 and 4: the action is issued; a refusal faults the player, an await keeps it RUNNING, else it advances (R128, R132). -/
def issue (p : Fin 8) (s : State) : State :=
  let r := s.stepOf p
  let h := issueAction r s
  if h.2.code ≠ .ok ∧ h.2.code ≠ .accepted then goOn p (.fail .targetRefused h.2.code.code) h.1
  else if r.awaits then h.1.modPlayer p fun x => { x with await := some (awaitOf r h.1.work.arrival) }
  else goOn p .advance h.1

/-! ## Contention (R131) -/

/-- A player becomes BLOCKED. -/
def block (p : Fin 8) (b : Blocked) (s : State) : State := s.modPlayer p fun x => { x with state := .blocked, blocked := some b }

/-- Stage 2 for an action that drives a target: the interlock, then the holder (R131). -/
def contendFor (p : Fin 8) (x : Fin 57) (s : State) : State :=
  if interlocked x = true ∧ s.engaged = true then block p .interlock s
  else
    match s.cue.holders.get x with
    | none => issue p (s.setHolder x (some p))
    | some q =>
      if q = p then issue p s
      else if (s.cue.players.get p).priority ≤ (s.cue.players.get q).priority then block p (.target x) s
      else issue p ((s.setHolder x (some p)).raise (.playerDisplaced q x))

/-! ## Control steps (R127, R134 to R137) -/

/-- A player moves to a step index and takes it from stage 1. -/
def jumpStep (p : Fin 8) (i : Nat) (s : State) : State :=
  goOn p .wait (s.modPlayer p fun x => { x with cur := x.cur.map fun c => (c.1, i) })

/-- The step index a player is at. -/
def Player.index (x : Player) : Nat := (x.cur.map Prod.snd).getD 0

/-- A player returns from its current list (R137). -/
def returnFrom (p : Fin 8) (s : State) : State :=
  let x := s.cue.players.get p
  let keep := x.repeats.filter fun f => f.depth != x.calls.length
  match x.calls with
  | [] => endRun p s
  | (l, i) :: rest => goOn p .wait (s.modPlayer p fun y => { y with repeats := keep, calls := rest, cur := some (l, i) })

/-- CALL (R136). -/
def callList (p : Fin 8) (k : Nat) (s : State) : State :=
  let x := s.cue.players.get p
  if Config.callRoom ≤ x.calls.length then faultPlayer p .stackOverflow k s
  else
    match fin? 64 k with
    | none => faultPlayer p .listNotReady k s
    | some l =>
      if (s.cue.lists.get l).state ≠ .ready then faultPlayer p .listNotReady k s
      else
        match x.cur with
        | none => s
        | some (m, i) =>
          if m = l ∨ x.calls.any fun c => c.1 == l then faultPlayer p .recursion k s
          else goOn p .wait (s.modPlayer p fun y => { y with calls := (m, i + 1) :: y.calls, cur := some (l, 0) })

/-- REPEAT_BEGIN (R135). The detail of its fault is recorded as 0: log entry 64 (DESIGN CHOICE). -/
def repeatBegin (p : Fin 8) (r : StepRec) (s : State) : State :=
  let x := s.cue.players.get p
  if Config.repeatRoom ≤ x.repeats.length then faultPlayer p .repeatOverflow 0 s
  else
    let f : RepeatFrame := { begin := x.index, remaining := r.p1, until_ := r.untilSpec, seen := false, depth := x.calls.length }
    jumpStep p (x.index + 1) (s.modPlayer p fun y => { y with repeats := f :: y.repeats })

/-- REPEAT_END acts on the top frame (R135). -/
def repeatEnd (p : Fin 8) (s : State) : State :=
  let x := s.cue.players.get p
  match x.repeats with
  | [] => jumpStep p (x.index + 1) s
  | f :: rest =>
    if f.remaining = 1 ∨ f.seen = true then jumpStep p (x.index + 1) (s.modPlayer p fun y => { y with repeats := rest })
    else jumpStep p (f.begin + 1) (s.modPlayer p fun y => { y with repeats := { f with remaining := f.remaining - 1 } :: rest })

/-- RELEASE: the target the step names when the player holds it, or every held target for ALL (R134). -/
def releaseStep (p : Fin 8) (k : Nat) (s : State) : State :=
  if k = 0xFF then releaseTargets (s.heldTargets p) s else releaseTargets ((s.heldTargets p).filter fun x => x.1 == k) s

/-- Stage 5: the player acts on its control step, or moves to the next step (R128). -/
def advanceStep (p : Fin 8) (s : State) : State :=
  let r := s.stepOf p
  let next := (s.cue.players.get p).index + 1
  match r.action with
  | 16 => jumpStep p next (s.raise (.cueMark r.p1))
  | 17 => callList p r.p1 s
  | 18 => repeatBegin p r s
  | 19 => repeatEnd p s
  | 20 => jumpStep p next (releaseStep p r.target s)
  | 21 => returnFrom p s
  | _ => jumpStep p next s

/-! ## Stages (R128, R130) -/

/-- A wait begins: the record a step's wait kind asks for, unless it is met at once (R130). -/
def waitOf (r : StepRec) : Option WaitKind :=
  match r.waitKind with
  | 1 => if r.waitValue = 0 then none else some (.realMs r.waitValue)
  | 2 => if r.waitValue = 0 then none else some (.townSeconds r.waitValue)
  | 3 => some (.townAt r.waitValue)
  | 4 => some (.event r.waitSpec (if r.timeout = 0 then none else some (r.timeout, r.timeout)))
  | _ => none

/-- Stage 1: the wait; a step index equal to the list's length returns from the list (R128, R137). -/
def beginWait (p : Fin 8) (s : State) : State :=
  match (s.cue.players.get p).cur with
  | none => s
  | some (l, i) =>
    if (s.cue.lists.get l).length ≤ i then returnFrom p s
    else
      match waitOf (s.stepOf p) with
      | none => goOn p .contend s
      | some k => s.modPlayer p fun x => { x with state := .waiting, wait := some { kind := k, since := s.work.arrival } }

/-- Stage 2 on: an action with a target contends for it; another step is acted on at once (R128). -/
def contend (p : Fin 8) (s : State) : State :=
  match (s.stepOf p).drives with
  | some (some x) => contendFor p x s
  | _ => advanceStep p s

/-- One stage of a player's run (R128); only a RUNNING player has one. -/
def runStage (p : Fin 8) (stage : Stage) (s : State) : State :=
  if (s.cue.players.get p).state ≠ .running then s
  else
    match stage with
    | .wait => beginWait p s
    | .contend => contend p s
    | .advance => advanceStep p (s.modPlayer p fun x => { x with await := none })
    | .fail code detail => faultPlayer p code detail s

/-! ## Waits and awaits met (R128, R130, R133) -/

/-- Whether a held item meets a wait that began before it (R130). -/
def WaitRec.metBy (w : WaitRec) (n : Nat) (item : CueItem) : Bool :=
  w.since ≤ n &&
    match item, w.kind with
    | .event (.townMinute m), .townAt k => m == k
    | .event e, .event spec _ => spec.matches e
    | _, _ => false

/-- What a held item makes of an await (R133): an event completes or faults it; an ending completes it when it ended the awaited
operation and not an earlier one (log entry 11). -/
def AwaitRec.verdict (a : AwaitRec) (n : Nat) (item : CueItem) : Option AwaitOutcome :=
  match a.expect, item with
  | .fade g, .event (.fadeDone h) => if g = h then some .completed else none
  | .fade g, .ending (.fade h) => if g = h ∧ a.since ≤ n then some .completed else none
  | .route t last, .event (.routeReady u x) => if t = u ∧ x.1 = last then some .completed else none
  | .route t _, .event (.routeFault u r) => if t = u then some (.failed .routeFault r.code) else none
  | .route t _, .ending (.route u) => if t = u ∧ a.since ≤ n then some .completed else none
  | .axis k, .event (.axisDone j) => if k = j then some .completed else none
  | .axis k, .event (.axisFault j c) => if k = j then some (.failed .axisFault c.code) else none
  | .axis k, .ending (.axis j) => if k = j ∧ a.since ≤ n then some .completed else none
  | .glide, .event .clockLocked => some .completed
  | .glide, .ending .glide => if a.since ≤ n then some .completed else none
  | _, _ => none

/-- The stage an await's outcome leads to (R133). -/
def AwaitOutcome.stage : AwaitOutcome → Stage
  | .completed => .advance
  | .failed code detail => .fail code detail

/-- What a held item does to one player: the stage its run goes on from, if it meets the player's wait or await (R128, R130, R133). -/
def Player.meets (n : Nat) (item : CueItem) (x : Player) : Option Stage :=
  match x.state with
  | .waiting => if x.wait.any fun w => w.metBy n item then some .contend else none
  | .running => (x.await.bind fun a => a.verdict n item).map AwaitOutcome.stage
  | _ => none

/-- A PAUSED player's await records the first outcome that arrives (R140). -/
def Player.record (n : Nat) (item : CueItem) (x : Player) : Player :=
  match x.state, x.await with
  | .paused, some a => if a.outcome.isSome then x else { x with await := some { a with outcome := a.verdict n item } }
  | _, _ => x

/-- The players a held item meets, in the order they run (R128). -/
def State.metBy (s : State) (n : Nat) (item : CueItem) : List (Fin 8) :=
  s.byPriority ((indices 8).filter fun p => ((s.cue.players.get p).meets n item).isSome)

/-- A met player runs on: its wait or await is absent (R130, R133). -/
def runOn (n : Nat) (item : CueItem) (p : Fin 8) (s : State) : State :=
  match (s.cue.players.get p).meets n item with
  | none => s
  | some stage => lineUp p stage (s.modPlayer p fun x => { x with wait := none, await := none })

/-- A held item offered to the players' waits and awaits (R128). -/
def offerItem (n : Nat) (item : CueItem) (s : State) : State :=
  forEach (s.metBy n item) (runOn n item) (s.modCue fun c => { c with players := c.players.map (Player.record n item) })

/-- A due countdown of a REAL_MS or TOWN_SECONDS wait is met (R130). -/
def waitExpire (p : Fin 8) (s : State) : State :=
  let x := s.cue.players.get p
  if x.state = .waiting ∧ (x.wait.any fun w => w.kind == .realMs 0 || w.kind == .townSeconds 0) = true then
    lineUp p .contend (s.modPlayer p fun y => { y with wait := none })
  else s

/-- A due timeout of an EVENT wait faults the player (R130, R138). -/
def waitTimeOut (p : Fin 8) (s : State) : State :=
  let x := s.cue.players.get p
  match x.state, x.wait with
  | .waiting, some { kind := .event _ (some (given, 0)), since := _ } => faultPlayer p .waitTimeout given s
  | _, _ => s

/-- The real millisecond at a player's wait: REAL_MS countdowns and EVENT timeouts of WAITING players fall by 1 (R130, R140). -/
def Player.countMs (x : Player) : Player :=
  match x.state, x.wait with
  | .waiting, some { kind := .realMs left, since := a } => { x with wait := some { kind := .realMs (left - 1), since := a } }
  | .waiting, some { kind := .event spec (some (given, left)), since := a } =>
    { x with wait := some { kind := .event spec (some (given, left - 1)), since := a } }
  | _, _ => x

/-- At DRESSING(off) the players BLOCKED on INTERLOCK run from stage 2, in order (R142). -/
def unblockInterlock (s : State) : State :=
  forEach (s.byPriority ((indices 8).filter fun p =>
    (s.cue.players.get p).state == .blocked && (s.cue.players.get p).blocked == some .interlock)) (fun p => lineUp p .contend) s

/-! ## Player requests (R139 to R141) -/

/-- The answer to a start: OK with the outcome as data, or the refusal (R139, R177). -/
def StartOutcome.answer : StartOutcome → Answer
  | .refused code => refuse code
  | o => okWith (dat 1 o.code)

/-- PLAYER_START (R139). -/
def doPlayerStart (player list policy : Nat) (s : State) : Handled :=
  match fin? 8 player, fin? 64 list, policyOf policy with
  | some p, some l, some pol =>
    let r := startPlayer p l pol s
    (r.1, r.2.answer)
  | _, _, _ => (s, refuse .outOfRange)

/-- PLAYER_STOP (R140). -/
def doPlayerStop (player : Nat) (s : State) : Handled :=
  match fin? 8 player with
  | none => (s, refuse .outOfRange)
  | some p =>
    if (s.cue.players.get p).state = .idle then (s, okay)
    else
      (releaseTargets (s.heldTargets p) (s.modPlayer p fun x =>
        { Player.clear .idle x with pendingStart := none, fault := none, prePause := none }), okay)

/-- PLAYER_PAUSE (R140). -/
def doPlayerPause (player : Nat) (s : State) : Handled :=
  match fin? 8 player with
  | none => (s, refuse .outOfRange)
  | some p =>
    let st := (s.cue.players.get p).state
    if st = .running ∨ st = .waiting ∨ st = .blocked then
      (s.modPlayer p fun x => { x with state := .paused, prePause := some x.state }, okay)
    else (s, refuse .wrongState)

/-- A player that resumes goes on by its pre-pause state (R140). -/
def resumePlayer (p : Fin 8) (s : State) : State :=
  let x := s.cue.players.get p
  let s1 := s.modPlayer p fun y => { y with prePause := none, state := x.prePause.getD .running }
  match x.prePause with
  | some .blocked => lineUp p .contend s1
  | some .running =>
    match x.await.bind AwaitRec.outcome with
    | some o => lineUp p o.stage (s1.modPlayer p fun y => { y with await := none })
    | none => s1
  | _ => s1

/-- PLAYER_RESUME (R140). -/
def doPlayerResume (player : Nat) (s : State) : Handled :=
  match fin? 8 player with
  | none => (s, refuse .outOfRange)
  | some p => if (s.cue.players.get p).state = .paused then (resumePlayer p s, okay) else (s, refuse .wrongState)

/-- PLAYER_PRIORITY (R141). -/
def doPlayerPriority (player priority : Nat) (s : State) : Handled :=
  match fin? 8 player with
  | none => (s, refuse .outOfRange)
  | some p =>
    if 15 < priority then (s, refuse .outOfRange)
    else if (s.cue.players.get p).state ≠ .idle then (s, refuse .wrongState)
    else (s.modPlayer p fun x => { x with priority := priority }, okay)

/-- An event spec in a reply: the code and the subject, 0xFFFF for ANY. -/
def datSpec (x : EventSpec) : List Byte := dat 1 x.code ++ datO 2 x.subject

/-- A wait record in a reply: its kind, its value as the three bytes of R179, and the timeout remaining (log entry 6). -/
def datWait (w : WaitRec) : List Byte :=
  match w.kind with
  | .realMs n => dat 1 1 ++ dat 2 n ++ dat 1 0 ++ dat 2 0
  | .townSeconds n => dat 1 2 ++ dat 2 n ++ dat 1 0 ++ dat 2 0
  | .townAt m => dat 1 3 ++ dat 2 m ++ dat 1 0 ++ dat 2 0
  | .event spec t => dat 1 4 ++ datSpec spec ++ dat 2 ((t.map Prod.snd).getD 0)

/-- An expected completion in a reply: its event's code, subject and second item (log entry 6). -/
def datExpect : Expect → List Byte
  | .fade g => dat 1 0x10 ++ dat 1 g.1 ++ dat 1 0
  | .route t last => dat 1 0x24 ++ dat 1 t.1 ++ dat 1 last
  | .axis a => dat 1 0x40 ++ dat 1 a.1 ++ dat 1 0
  | .glide => dat 1 0x04 ++ dat 1 0 ++ dat 1 0

/-- A recorded outcome in a reply: none 0xFF, completed 0, or failed 1 with its code and detail (log entry 6). -/
def datOutcome : Option AwaitOutcome → List Byte
  | none => dat 1 0xFF ++ dat 2 0
  | some .completed => dat 1 0 ++ dat 2 0
  | some (.failed code detail) => dat 1 1 ++ dat 1 code.code ++ dat 1 detail

/-- An await record in a reply. -/
def datAwait (a : AwaitRec) : List Byte := dat 1 a.action ++ dat 1 a.target ++ datExpect a.expect ++ datOutcome a.outcome

/-- A repeat frame in a reply (R129). -/
def datFrame (f : RepeatFrame) : List Byte :=
  dat 1 f.begin ++ dat 1 f.remaining ++ datR f.until_ 3 datSpec ++ datF f.seen ++ dat 1 f.depth

/-- A blocked target in a reply: NONE 0xFF, a target 0 to 56, or INTERLOCK 57 (log entry 6). -/
def blockedCode : Option Blocked → Nat
  | none => 0xFF
  | some (.target x) => x.1
  | some .interlock => 57

/-- PLAYER_QUERY (R141): every field of R129. The detail of REPEAT_OVERFLOW is sent as 0: log entry 64 (DESIGN CHOICE). -/
def doPlayerQuery (player : Nat) (s : State) : Handled :=
  match fin? 8 player with
  | none => (s, refuse .outOfRange)
  | some p =>
    let x := s.cue.players.get p
    (s, okWith (dat 1 x.priority ++ dat 1 x.state.code ++ datR x.cur 2 (fun c => dat 1 c.1.1 ++ dat 1 c.2)
      ++ datL x.calls (fun c => dat 1 c.1.1 ++ dat 1 c.2) ++ datL x.repeats datFrame ++ datR x.wait 6 datWait ++ datR x.await 8 datAwait
      ++ dat 1 (blockedCode x.blocked) ++ datL (s.heldTargets p) (fun t => dat 1 t.1)
      ++ datR x.pendingStart 2 (fun c => dat 1 c.1.1 ++ dat 1 c.2.code)
      ++ datR x.fault 5 (fun f => dat 1 f.code.code ++ dat 2 f.detail ++ dat 1 f.list.1 ++ dat 1 f.step)
      ++ datO 1 (x.prePause.map PlayerState.code)))

/-! ## WARM reset (R129, R142) -/

/-- The Cue Engine's WARM reset: every player IDLE, the holder table cleared, lists and priorities kept (R129, R142). -/
def warmCue (s : State) : State :=
  s.modCue fun c => { c with players := c.players.map (fun x => Player.initial x.priority), holders := .replicate 57 none }

end Sys2Proof.Machine
end

