-- ==== Sys2Proof/Machine/Triggers.lean ====
section
/-! DEFINITION. The trigger table (R150 to R153). -/

namespace Sys2Proof.Machine

/-! ## Sources (R151) -/

/-- Whether an event matches a source (R151). -/
def Source.matches_ (x : Source) (e : Event) : Bool :=
  match x, e with
  | .townAt m, .townMinute k => m == k
  | .townDay, .townDay _ => true
  | .inputEdge i e1, .inputEdge j e2 => i == j && e1 == e2
  | .inputCount i, .inputCount j => i == j
  | .sectionEnter s t, .sectionEnter x u => s == x && (match t with | some v => v == u | none => true)
  | .axisIndex a, .axisIndex b _ _ => a == b
  | .cueMark v, .cueMark w => v == w
  | .dressingEnd, .dressing on => !on
  | .railDone p, .railDone q => p == q
  | _, _ => false

/-- The source that a kind and two parameter bytes name, when they lie in their ranges (R150, R151, R176). -/
def readSource (kind par1 par2 : Nat) : Option Source :=
  match kind with
  | 0 => if par1 + 256 * par2 < 1440 then some (.townAt (par1 + 256 * par2)) else none
  | 1 => some .townDay
  | 2 =>
    match fin? 8 par1, edgeOf par2 with
    | some i, some e => some (.inputEdge i e)
    | _, _ => none
  | 3 => (fin? 8 par1).map .inputCount
  | 4 =>
    match fin? 48 par1 with
    | none => none
    | some x => if par2 = 0xFF then some (.sectionEnter x none) else (fin? 8 par2).map fun t => .sectionEnter x (some t)
  | 5 => (fin? 8 par1).map .axisIndex
  | 6 => if par1 < 256 then some (.cueMark par1) else none
  | 7 => some .dressingEnd
  | 8 => (programOf par1).map .railDone
  | _ => none

/-- A source's two parameter bytes (R176). -/
def Source.params : Source → Nat
  | .townAt m => m
  | .townDay => 0
  | .inputEdge i e => i.1 + 256 * e.code
  | .inputCount i => i.1
  | .sectionEnter s t => s.1 + 256 * ((t.map Fin.val).getD 0xFF)
  | .axisIndex a => a.1
  | .cueMark v => v
  | .dressingEnd => 0
  | .railDone p => p.code

/-! ## Matching and applying (R152) -/

/-- The enabled triggers whose source an event matches, in index order (R151, R152). -/
def State.matching (s : State) (e : Event) : List (Fin 32) :=
  (indices 32).filter fun k => (s.trig.triggers.get k).enabled && (s.trig.triggers.get k).source.matches_ e

/-- A trigger applied: suppressed when it was applied already in this real millisecond, else its player is started and the
outcome recorded (R152). The counts saturate (R150). -/
def applyTrigger (k : Fin 32) (s : State) : State :=
  let r := s.trig.triggers.get k
  if r.applied then s.modTrigger k fun x => { x with suppressed := min 65535 (x.suppressed + 1) }
  else
    let h := startPlayer r.player r.list r.policy s
    h.1.modTrigger k fun x => { x with applied := true, fires := min 65535 (x.fires + 1), last := h.2 }

/-! ## Requests (R150, R153) -/

/-- TRIGGER_SET (R150). -/
def doTriggerSet (trigger : Nat) (r : RawTrigger) (s : State) : Handled :=
  match fin? 32 trigger, readSource r.source r.par1 r.par2, fin? 8 r.player, fin? 64 r.list, policyOf r.policy with
  | some k, some src, some p, some l, some pol =>
    (s.modTrigger k fun _ =>
      { enabled := r.enabled, source := src, player := p, list := l, policy := pol, fires := 0, suppressed := 0, last := .none,
        applied := false }, okay)
  | _, _, _, _, _ => (s, refuse .outOfRange)

/-- TRIGGER_ENABLE (R150). -/
def doTriggerEnable (trigger : Nat) (flag : Bool) (s : State) : Handled :=
  match fin? 32 trigger with
  | none => (s, refuse .outOfRange)
  | some k => (s.modTrigger k fun x => { x with enabled := flag }, okay)

/-- A last outcome in a reply: its code, and the result code of a refusal or 0xFF (R153; log entry 6). -/
def datLast : StartOutcome → List Byte
  | .refused code => dat 1 5 ++ dat 1 code.code
  | o => dat 1 o.code ++ dat 1 0xFF

/-- TRIGGER_QUERY (R153). -/
def doTriggerQuery (trigger : Nat) (s : State) : Handled :=
  match fin? 32 trigger with
  | none => (s, refuse .outOfRange)
  | some k =>
    let r := s.trig.triggers.get k
    (s, okWith (datF r.enabled ++ dat 1 r.source.code ++ dat 2 r.source.params ++ dat 1 r.player.1 ++ dat 1 r.list.1
      ++ dat 1 r.policy.code ++ dat 2 r.fires ++ dat 2 r.suppressed ++ datLast r.last))

/-- TRIGGER_CLEAR_COUNTS (R153). -/
def doTriggerClearCounts (trigger : Nat) (s : State) : Handled :=
  match fin? 32 trigger with
  | none => (s, refuse .outOfRange)
  | some k => (s.modTrigger k fun x => { x with fires := 0, suppressed := 0, last := .none }, okay)

end Sys2Proof.Machine
end

