-- ==== Sys2Proof/Machine/Power.lean ====
section
/-! DEFINITION. The Supply Sequencer (R154 to R162): rails and programs, the overload cut-off, and the dressing interlock, with what
the other blocks do at each of its events. -/

namespace Sys2Proof.Machine

/-! ## Rails (R154) -/

/-- A rail of a pattern. -/
def Rails.up (r : Rails) : Rail → Bool
  | .track => r.track
  | .motion => r.motion
  | .lights => r.lights
  | .aux => r.aux

/-- What the blocks do at RAIL_CHANGE(rail, state): the trains at TRACK (R95, R99), the axes at MOTION (R119), the sodium lamps at
LIGHTS DOWN (R32). The aux lines and the light outputs read the rail itself (R36, R149). Log entry 33 (DESIGN CHOICE). -/
def railReaction (r : Rail) (up : Bool) (s : State) : State :=
  match r, up with
  | .track, false => emergencyStop .rail s
  | .track, true => resyncAll s
  | .motion, false => motionDown s
  | .motion, true => motionUp s
  | .lights, false => sodiumRailDown s
  | _, _ => s

/-- The level of a rail's enable pin: high while the rail is UP (R154). Log entry 41 (DEDUCED). -/
def State.enablePin (s : State) (r : Rail) : Bool := s.supply.rails.up r

/-- A rail's change reported and reacted to, when it changed (R154). -/
def railChanged (old : Rails) (r : Rail) (s : State) : State :=
  let up := s.supply.rails.up r
  if old.up r = up then s else railReaction r up (s.raise (.railChange r up))

/-- The four rails set to a pattern; the changes are reported in the order TRACK, MOTION, LIGHTS, AUX (R154). -/
def setRails (pattern : Rails) (s : State) : State :=
  let old := s.supply.rails
  forEach [.track, .motion, .lights, .aux] (railChanged old) (s.modSupply fun k => { k with rails := pattern })

/-! ## Programs and the sequencer (R155 to R158) -/

/-- A program's steps. -/
def Supply.program (k : Supply) : Program → Table (Nat × Rails) 8
  | .raise => k.raise
  | .lower => k.lower

/-- The sequencer with a step of a program loaded: its delay is 2^e (R156, R157). -/
def Supply.load (p : Program) (i : Fin 8) (k : Supply) : Supply := { k with seq := .active p i (2 ^ ((k.program p).get i).1) }

/-- Whether a program is in progress. -/
def Sequencer.runs (q : Sequencer) (p : Program) : Bool :=
  match q with
  | .active r _ _ => r == p
  | .idle => false

/-- RAIL_RAISE and RAIL_LOWER (R156). -/
def startProgram (p : Program) (s : State) : Handled :=
  if s.supply.seq.runs p then (s, okay) else (s.modSupply (Supply.load p 0), taken)

/-- RAIL_RAISE (R156). -/
def doRailRaise (s : State) : Handled := startProgram .raise s

/-- RAIL_LOWER (R156). -/
def doRailLower (s : State) : Handled := startProgram .lower s

/-- A due program step (R157). -/
def programStep (s : State) : State :=
  match s.supply.seq with
  | .active p i 0 =>
    let s1 := setRails ((s.supply.program p).get i).2 s
    if h : i.1 + 1 < 8 then s1.modSupply (Supply.load p ⟨i.1 + 1, h⟩)
    else (s1.modSupply fun k => { k with seq := .idle }).raise (.railDone p)
  | _ => s

/-- The steps of a program as a table, when there are eight. -/
def readProgram (steps : List (Nat × Nat)) : Option (Table (Nat × Rails) 8) :=
  let l := steps.map fun x => (x.1, railsOf x.2)
  if h : l.length = 8 then some ⟨l, h⟩ else none

/-- RAIL_PROGRAM (R155). The payload always carries eight steps (R175). -/
def doRailProgram (program : Nat) (steps : List (Nat × Nat)) (s : State) : Handled :=
  match programOf program with
  | none => (s, refuse .outOfRange)
  | some p =>
    match firstIdx (fun x : Nat × Nat => 15 < x.1) steps 0 with
    | some i => (s, refuseAt .outOfRange 1 i 0)
    | none =>
      if s.supply.seq ≠ .idle then (s, refuse .wrongState)
      else
        match readProgram steps, p with
        | some t, .raise => (s.modSupply fun k => { k with raise := t }, okay)
        | some t, .lower => (s.modSupply fun k => { k with lower := t }, okay)
        | none, _ => (s, refuse .badLength)

/-- RAIL_SET (R158). -/
def doRailSet (pattern : Nat) (s : State) : Handled :=
  if s.supply.seq ≠ .idle then (s, refuse .wrongState) else (setRails (railsOf pattern) s, okay)

/-! ## Overload (R159, R160) -/

/-- The confirmation that the due sample of the overload input would make: the new confirmed state, if any (R159). -/
def Supply.overloadConfirms (level : Bool) (k : Supply) : Option Bool :=
  if level = k.overload then none else if k.overloadRun = 1 then some level else none

/-- The sample run after a sample (R159). -/
def Supply.sampleOverload (level : Bool) (k : Supply) : Supply :=
  if level = k.overload then { k with overloadRun := 0 }
  else if k.overloadRun = 1 then { k with overload := level, overloadRun := 0 }
  else { k with overloadRun := 1 }

/-- An onset's effect on the cut-off (R159). -/
def onsetCutoff (s : State) : State :=
  if s.supply.cutoff then s.modSupply fun k => { k with endTimer := none }
  else emergencyStop .overload ((s.modSupply fun k => { k with cutoff := true, endTimer := none }).raise (.overload .begin))

/-- The lockout of a third recent onset (R160). -/
def lockout (s : State) : State :=
  let s1 := setRails { s.supply.rails with track := false } s
  (s1.modSupply fun k => { k with seq := if k.seq.runs .raise then .idle else k.seq, onsets := 0 }).raise (.overload .lockout)

/-- The overload input is confirmed active: an onset (R159, R160). -/
def overloadOnset (s : State) : State :=
  let n := s.supply.onsets + 1
  let s1 := onsetCutoff (s.modSupply fun k => { k with quiet := none, onsets := min 2 n })
  if n = 3 then lockout s1 else s1

/-- The overload input is confirmed inactive: the end timer of an active cut-off starts (R159). -/
def overloadClear (s : State) : State :=
  s.modSupply fun k => if k.cutoff && k.endTimer.isNone then { k with endTimer := some Config.overloadEndMs } else k

/-- The due sample of the overload input (R159). -/
def sampleOverload (s : State) : State :=
  let c := s.supply.overloadConfirms s.pins.overload
  let s1 := (s.modSched fun d => { d with overload := false }).modSupply (Supply.sampleOverload s.pins.overload)
  match c with
  | some true => overloadOnset s1
  | some false => overloadClear s1
  | none => s1

/-- The end timer reaches 0: the cut-off ends and the quiet timer starts (R159, R160). -/
def overloadFinish (s : State) : State :=
  if s.supply.endTimer = some 0 then
    resyncAll ((s.modSupply fun k => { k with endTimer := none, cutoff := false, quiet := some Config.quietMs }).raise (.overload .finish))
  else s

/-- The quiet timer reaches 0: the onset count becomes 0 (R160). -/
def quietExpire (s : State) : State :=
  if s.supply.quiet = some 0 then s.modSupply fun k => { k with quiet := none, onsets := 0 } else s

/-! ## The dressing interlock (R79, R99, R120, R142, R161) -/

/-- The confirmation that the due sample of the key would make (R161). -/
def Supply.keyConfirms (level : Bool) (k : Supply) : Option Bool :=
  if level = k.keyOn then none else if Config.keySamples ≤ k.keyRun + 1 then some level else none

/-- The key's record after a sample (R161). -/
def Supply.sampleKey (level : Bool) (k : Supply) : Supply :=
  if level = k.keyOn then { k with keyRun := 0 }
  else if Config.keySamples ≤ k.keyRun + 1 then { k with keyOn := level, keyRun := 0 }
  else { k with keyRun := k.keyRun + 1 }

/-- DRESSING(on): the event, then the trains stop, the axes become HELD and the crossings suspend (R79, R99, R120, R161). Log
entry 33 (DESIGN CHOICE). -/
def dressingOn (s : State) : State :=
  forEach (indices 4) suspendCrossing (holdAxes (emergencyStop .dressing (s.raise (.dressing true))))

/-- DRESSING(off): the event, then the crossings re-command their gates, the axes leave HELD, the trains' targets are worked out
again, the throw queue's head is examined, and the players blocked on INTERLOCK contend (R75, R79, R95, R120, R142, R161). Log
entries 33 and 58 (DESIGN CHOICE). -/
def dressingOff (s : State) : State :=
  let s1 := forEach (indices 4) recommandCrossing (s.raise (.dressing false))
  unblockInterlock ((resyncAll (releaseAxes s1)).later .examine)

/-- The due sample of the dressing key (R161). -/
def sampleKey (s : State) : State :=
  let c := s.supply.keyConfirms s.pins.key
  let s1 := (s.modSched fun d => { d with key := false }).modSupply (Supply.sampleKey s.pins.key)
  match c with
  | some true => dressingOn s1
  | some false => dressingOff s1
  | none => s1

/-! ## The query (R162) -/

/-- An ACTIVE or INACTIVE state's number: ACTIVE 0 (R172). -/
def activeCode (active : Bool) : Nat := if active then 0 else 1

/-- The interlock's number: ENGAGED 0, RELEASED 1 (R172). -/
def interlockCode (engaged : Bool) : Nat := if engaged then 0 else 1

/-- The sequencer's state: IDLE 0, RAISING 1, LOWERING 2 (R156, R172). -/
def Sequencer.code : Sequencer → Nat
  | .idle => 0
  | .active .raise _ _ => 1
  | .active .lower _ _ => 2

/-- The sequencer in a reply, with its step and remaining delay (R162). -/
def datSequencer : Sequencer → List Byte
  | .idle => dat 1 0 ++ dat 1 0xFF ++ dat 2 0xFFFF
  | .active p i ms => dat 1 (Sequencer.active p i ms).code ++ dat 1 i.1 ++ dat 2 ms

/-- The four rail states (R162, R171, R180). -/
def datRails (r : Rails) : List Byte := datF r.track ++ datF r.motion ++ datF r.lights ++ datF r.aux

/-- A program's eight steps in a reply. -/
def datProgram (t : Table (Nat × Rails) 8) : List Byte := t.items.flatMap fun x => dat 1 x.1 ++ dat 1 x.2.code

/-- SUPPLY_QUERY (R162). -/
def doSupplyQuery (s : State) : Handled :=
  let k := s.supply
  (s, okWith (datRails k.rails ++ datSequencer k.seq ++ datProgram k.raise ++ datProgram k.lower ++ dat 1 (activeCode k.overload)
    ++ dat 1 (activeCode k.cutoff) ++ datO 2 k.endTimer ++ dat 1 k.onsets ++ datO 2 k.quiet ++ dat 1 (onOffCode k.keyOn)
    ++ dat 1 k.keyRun ++ dat 1 (interlockCode s.engaged)))

end Sys2Proof.Machine
end

