-- ==== Sys2Proof/Machine/Settle.lean ====
section
/-! DEFINITION. How the work of a handling is carried out to its end (R71, R75, R93, R128, R152; log entry 4): the blocks' own
work first, then the players' runs in the order they were put in line, then the events and endings held for the players, then
the triggers of each event in turn. -/

namespace Sys2Proof.Machine

/-! ## One piece of work -/

/-- A piece of the blocks' own work carried out. -/
def doTask (t : Task) (s : State) : State :=
  match t with
  | .claim t => testClaim t s
  | .complete t => completeGrant t s
  | .examine => examineHead s
  | .expire x => expireSec x s
  | .gateSeen c st => gateSeen c st s
  | .run p stage => runStage p stage s

/-- A change made with the work it puts off standing before the work that waits already (log entry 4). -/
def runFirst (f : State → State) (s : State) : State :=
  (f (s.modWork fun w => { w with stack := [] })).modWork fun w => { w with stack := w.stack ++ s.work.stack }

/-- The next piece of work carried out; none when there is no work (log entry 4). -/
def settleOne (s : State) : Option State :=
  match s.work with
  | { stack := t :: rest, .. } => some (runFirst (doTask t) (s.modWork fun w => { w with stack := rest }))
  | { stack := [], runs := (p, stage) :: rest, .. } => some (runStage p stage (s.modWork fun w => { w with runs := rest }))
  | { stack := [], runs := [], held := (n, item) :: rest, .. } => some (offerItem n item (s.modWork fun w => { w with held := rest }))
  | { stack := [], runs := [], held := [], matched := k :: rest, .. } =>
    some (applyTrigger k (s.modWork fun w => { w with matched := rest }))
  | { stack := [], runs := [], held := [], matched := [], events := e :: rest, .. } =>
    some (s.modWork fun w => { w with events := rest, matched := s.matching e })
  | { stack := [], runs := [], held := [], matched := [], events := [], .. } => none

/-! ## All of it -/

/-- At most `n` pieces of work carried out. -/
def settleN : Nat → State → State
  | 0, s => s
  | n + 1, s =>
    match settleOne s with
    | some s' => settleN n s'
    | none => s

/-- The work of the handling carried out, within the bound of Config.settleFuel (log entry 5). -/
def settle (s : State) : State := settleN Config.settleFuel s

/-- Each change in turn, with the work of each carried out before the next: log entry 63 (DESIGN CHOICE). -/
def eachSettled {α : Type} (l : List α) (f : α → State → State) (s : State) : State := forEach l (fun a s => settle (f a s)) s

end Sys2Proof.Machine
end

