-- ==== Sys2Proof/Machine/Frames.lean ====
section
/-! DEFINITION. The Show Link (R163 to R171): its own requests, the receiver, the receive slots, the taking of requests and their
replies, the transmitter, and the resets. -/

namespace Sys2Proof.Machine

/-! ## The Show Link's own requests (R168, R170, R171) -/

/-- IDENTIFY: the part code, the revision and the capacities in the order R171 lists them. -/
def doIdentify (s : State) : Handled :=
  (s, okWith (dat 2 0x7260 ++ dat 1 1 ++ dat 1 48 ++ dat 1 24 ++ dat 1 4 ++ dat 1 8 ++ dat 1 16 ++ dat 1 12 ++ dat 1 8 ++ dat 1 32
    ++ dat 2 512 ++ dat 1 4 ++ dat 1 16 ++ dat 1 4 ++ dat 1 128 ++ dat 1 16 ++ dat 1 64 ++ dat 1 32 ++ dat 1 8 ++ dat 1 57
    ++ dat 1 32 ++ dat 1 8 ++ dat 1 8 ++ dat 1 4 ++ dat 1 32))

/-- STATUS (R171). -/
def doStatus (s : State) : Handled :=
  (s, okWith (dat 1 s.track.config.code ++ datRails s.supply.rails ++ dat 1 s.supply.seq.code ++ dat 1 (activeCode s.supply.cutoff)
    ++ dat 1 (interlockCode s.engaged) ++ dat 1 s.clock.state.code ++ s.cue.players.items.flatMap (fun p => dat 1 p.state.code)
    ++ dat 1 s.link.notices.length ++ dat 1 s.link.lost))

/-- A reset's scope: WARM 0, COLD 1 (R170, R172). -/
def scopeOf : Nat → Option Scope
  | 0 => some .warm
  | 1 => some .cold
  | _ => none

/-- RESET: the reset waits for the end of its own reply (R170). -/
def doReset (scope : Nat) (s : State) : Handled :=
  match scopeOf scope with
  | some x => (s.modLink fun l => { l with resetWaiting := some x }, okay)
  | none => (s, refuse .outOfRange)

/-- NOTICE_MASK (R168). -/
def doNoticeMask (mask : Nat) (s : State) : Handled :=
  if 512 ≤ mask then (s, refuse .outOfRange)
  else (s.modLink fun l => { l with mask := BitVec.ofNat 9 mask }, okWith (dat 2 mask))

/-! ## The handling of a request (R166) -/

/-- A request handed to its owning block (R166). -/
def handle (r : Request) (s : State) : Handled :=
  match r with
  | .identify => doIdentify s
  | .status => doStatus s
  | .reset scope => doReset scope s
  | .noticeMask mask => doNoticeMask mask s
  | .clockSetRate p m q glide => doClockSetRate p m q glide s
  | .clockHold => doClockHold s
  | .clockRun => doClockRun s
  | .clockSetTime target mode => doClockSetTime target mode s
  | .clockQuery => doClockQuery s
  | .groupSetMode group mode => doGroupSetMode group mode s
  | .groupSetCurve group points => doGroupSetCurve group points s
  | .groupConfig group rounding gamma => doGroupConfig group rounding gamma s
  | .groupSetLevel group level duration base => doGroupSetLevel group level duration base s
  | .groupSetBlink group form on off burst => doGroupSetBlink group form on off burst s
  | .gammaWrite table entries => doGammaWrite table entries s
  | .gammaQuery table => doGammaQuery table s
  | .channelConfig channel group kind trim binding warm restrike => doChannelConfig channel group kind trim binding warm restrike s
  | .pwmMap output channel => doPwmMap output channel s
  | .chainLength chain length => doChainLength chain length s
  | .segmentSet segment chain first count channel => doSegmentSet segment chain first count channel s
  | .segmentClear segment => doSegmentClear segment s
  | .groupQuery group => doGroupQuery group s
  | .channelQuery channel => doChannelQuery channel s
  | .layoutOpen => doLayoutOpen s
  | .layoutClose => doLayoutClose s
  | .sectionDefine sec linkA linkB clearance filter => doSectionDefine sec linkA linkB clearance filter s
  | .sectionForget sec => doSectionForget sec s
  | .pointDefine point d => doPointDefine point d s
  | .crossingDefine crossing d => doCrossingDefine crossing d s
  | .layoutQuery cls index => doLayoutQuery cls index s
  | .pointThrow point position => doPointThrow point position s
  | .throwUnitConfig recharge => doThrowUnitConfig recharge s
  | .gateRetry crossing => doGateRetry crossing s
  | .sectionQuery sec => doSectionQuery sec s
  | .crossingQuery crossing => doCrossingQuery crossing s
  | .throwQuery => doThrowQuery s
  | .trainConfig train maxSpeed accel decel => doTrainConfig train maxSpeed accel decel s
  | .trainPlace train secs => doTrainPlace train secs s
  | .trainRemove train => doTrainRemove train s
  | .trainSpeed train speed => doTrainSpeed train speed s
  | .trainStop train => doTrainStop train s
  | .trainRoute train mode secs => doTrainRoute train mode secs s
  | .trainRelease train => doTrainRelease train s
  | .trainDirection train => doTrainDirection train s
  | .trainClearFault train => doTrainClearFault train s
  | .trainQuery train => doTrainQuery train s
  | .axisConfig axis cfg => doAxisConfig axis cfg s
  | .axisSpeed axis speed direction => doAxisSpeed axis speed direction s
  | .axisStopAt axis angle => doAxisStopAt axis angle s
  | .axisMove axis position => doAxisMove axis position s
  | .axisHome axis => doAxisHome axis s
  | .axisStop axis => doAxisStop axis s
  | .axisQuery axis => doAxisQuery axis s
  | .listWrite list first endFlag steps => doListWrite list first endFlag steps s
  | .listErase list => doListErase list s
  | .listQuery list first count => doListQuery list first count s
  | .playerStart player list policy => doPlayerStart player list policy s
  | .playerStop player => doPlayerStop player s
  | .playerPause player => doPlayerPause player s
  | .playerResume player => doPlayerResume player s
  | .playerPriority player priority => doPlayerPriority player priority s
  | .playerQuery player => doPlayerQuery player s
  | .inputConfig input debounce => doInputConfig input debounce s
  | .counterConfig input mode edge reload => doCounterConfig input mode edge reload s
  | .inputQuery input => doInputQuery input s
  | .auxSet output value => doAuxSet output value s
  | .auxQuery => doAuxQuery s
  | .triggerSet trigger record => doTriggerSet trigger record s
  | .triggerEnable trigger flag => doTriggerEnable trigger flag s
  | .triggerQuery trigger => doTriggerQuery trigger s
  | .triggerClearCounts trigger => doTriggerClearCounts trigger s
  | .railProgram program steps => doRailProgram program steps s
  | .railRaise => doRailRaise s
  | .railLower => doRailLower s
  | .railSet pattern => doRailSet pattern s
  | .supplyQuery => doSupplyQuery s

/-- What a frame's payload asks for, handled by its kind and length first (R166). -/
def handleBody (b : Body) (s : State) : Handled :=
  match b with
  | .request r => handle r s
  | .unknownKind => (s, refuse .unknownKind)
  | .badLength => (s, refuse .badLength)

/-! ## Receive slots (R165) -/

/-- The BUSY replies that wait in the reply list. -/
def ShowLink.busyCount (l : ShowLink) : Nat := (l.replies.filter fun r => r.origin == .busy).length

/-- A reply to a frame (R166). -/
def replyTo (f : Frame) (a : Answer) (o : ReplyOf) : Reply := { kind := replyKind f.kind, tag := f.tag, answer := a, origin := o }

/-- A frame takes a slot behind the frames already held (R165). -/
def ShowLink.hold (f : Frame) (l : ShowLink) : ShowLink := { l with slots := l.slots ++ [{ frame := f, taken := false }] }

/-- A reply is appended to the reply list (R165, R166). -/
def ShowLink.addReply (r : Reply) (l : ShowLink) : ShowLink := { l with replies := l.replies ++ [r] }

/-- A valid frame is placed: in a slot, or answered BUSY, or discarded with NO_ROOM (R165). -/
def placeFrame (f : Frame) (s : State) : State :=
  if s.link.slots.length < Config.slotCount then s.modLink (ShowLink.hold f)
  else if s.link.busyCount < Config.busyRoom then s.modLink (ShowLink.addReply (replyTo f (refuse .busy) .busy))
  else s.raise (.frameReject .noRoom)

/-! ## Taking requests (R166) -/

/-- The oldest frame whose request has not been taken. -/
def ShowLink.waitingFrame (l : ShowLink) : Option Frame := (l.slots.find? fun x => !x.taken).map Slot.frame

/-- The first slot that is not taken becomes taken. -/
def markTaken : List Slot → List Slot
  | [] => []
  | x :: xs => if x.taken then x :: markTaken xs else { x with taken := true } :: xs

/-- The first taken slot is freed: the oldest reply sent is the oldest taken request's. -/
def freeTaken : List Slot → List Slot
  | [] => []
  | x :: xs => if x.taken then xs else x :: freeTaken xs

/-- Whose reply is being made: a RESET's when a reset has begun to wait (R170). -/
def originOf (waiting : Option Scope) : ReplyOf :=
  match waiting with
  | some x => .reset x
  | none => .request

/-- One request taken and answered: its handling and all that follows from it come first, then the reply is made (R166). -/
def takeOne (f : Frame) (s : State) : State :=
  let h := handleBody f.body (s.modLink fun l => { l with slots := markTaken l.slots })
  let s1 := settle h.1
  s1.modLink (ShowLink.addReply (replyTo f h.2 (originOf s1.link.resetWaiting)))

/-- Requests are taken, oldest first, while no RESET waits to take effect (R166, R170). -/
def takeRequests : Nat → State → State
  | 0, s => s
  | n + 1, s =>
    if s.link.resetWaiting.isSome then s
    else
      match s.link.waitingFrame with
      | some f => takeRequests n (takeOne f s)
      | none => s

/-- Every waiting request is taken. -/
def takeAll (s : State) : State := takeRequests Config.slotCount s

/-! ## The transmitter (R167) -/

/-- A transmitter that is IDLE picks at once (R167). -/
def kick (s : State) : State := if s.link.tx = .idle then pick s else s

/-- The end of a command: its work is carried out, an IDLE transmitter picks, and the work of that is carried out. -/
def finish (s : State) : State := settle (kick (settle s))

/-! ## Resets (R170) -/

/-- Every block's WARM reset (R170; log entry 3). -/
def warmReset (s : State) : State := warmTrig (warmAxes (warmTrack (warmTrains (warmLight (warmCue s)))))

/-- The reset that waited takes effect (R170), and after a WARM one the transmitter has ended its frame: nothing is picked before
that. -/
def takeEffect (scope : Scope) (s : State) : State :=
  match scope with
  | .warm => (settle (warmReset (s.modLink fun l => { l with resetWaiting := none }))).modLink fun l => { l with tx := .idle }
  | .cold => State.start .coldRequest s.pins s.pending

/-- The transmitter after the last byte of a reply or notice: the slot of a reply's request is freed, and a RESET's reset takes
effect (R167, R170). -/
def afterFrame (s : State) : State :=
  match s.link.tx with
  | .reply r =>
    match r.origin with
    | .request => s.modLink fun l => { l with slots := freeTaken l.slots, tx := .idle }
    | .busy => s.modLink fun l => { l with tx := .idle }
    | .reset scope => takeEffect scope (s.modLink fun l => { l with slots := freeTaken l.slots })
  | .notice _ => s.modLink fun l => { l with tx := .idle }
  | .idle => s

/-- The transmitter finishes a frame and picks the next; requests that waited for a reset are then taken (R166, R167, R170). Log
entry 7 (DEDUCED). -/
def frameEnd (s : State) : State :=
  if s.link.tx = .idle then s else finish (takeAll (settle (kick (afterFrame s))))

/-! ## The receiver (R163, R164) -/

/-- A discard with a reason: the receiver is HUNTING and FRAME_REJECT is raised (R164). -/
def rejectFrame (reason : RejectReason) (s : State) : State :=
  (s.modLink fun l => { l with rx := .hunting }).raise (.frameReject reason)

/-- A byte in HUNTING (R164). -/
def huntByte (b : Byte) (s : State) : State :=
  s.modLink fun l => { l with rx := if b = leadByte then .atLength else .hunting }

/-- The length byte (R164). -/
def lengthByte (b : Byte) (s : State) : State :=
  if 2 ≤ b.toNat ∧ b.toNat ≤ 250 then s.modLink fun l => { l with rx := .inFrame b.toNat [] } else rejectFrame .length s

/-- Whether the check of a complete frame matches (R163): `bytes` are kind, tag, payload and the two check bytes. -/
def checkMatches (length : Nat) (bytes : List Byte) : Bool :=
  let check := crc16 (BitVec.ofNat 8 length :: bytes.take length)
  bytes.drop length == [(check >>> 8).truncate 8, check.truncate 8]

/-- The frame whose kind, tag and payload are given. -/
def frameOf (length : Nat) (bytes : List Byte) : Frame :=
  let l := (bytes.take length).map BitVec.toNat
  readFrame (l.getD 0 0) (l.getD 1 0) (l.drop 2)

/-- A byte after the length byte (R164). -/
def frameByte (length : Nat) (bytes : List Byte) (b : Byte) (s : State) : State :=
  let got := bytes ++ [b]
  if got.length < length + 2 then s.modLink fun l => { l with rx := .inFrame length got }
  else if checkMatches length got then placeFrame (frameOf length got) (s.modLink fun l => { l with rx := .hunting })
  else rejectFrame .check s

/-- A received byte, and the microseconds since the byte before it (R164). Log entry 9 (DESIGN CHOICE). -/
def acceptByte (b : Byte) (gapUs : Nat) (s : State) : State :=
  match s.link.rx with
  | .hunting => huntByte b s
  | .atLength => if Config.gapUs < gapUs then huntByte b (rejectFrame .gap s) else lengthByte b s
  | .inFrame length bytes => if Config.gapUs < gapUs then huntByte b (rejectFrame .gap s) else frameByte length bytes b s

/-- A received byte, with the taking of a request it may complete (R164 to R166). -/
def receive (b : Byte) (gapUs : Nat) (s : State) : State := finish (takeAll (settle (acceptByte b gapUs s)))

/-- A whole valid frame arrives: it is placed, and its request is taken when nothing stands in the way (R165, R166). -/
def deliver (f : Frame) (s : State) : State := finish (takeAll (settle (placeFrame f s)))

/-! ## One command after another -/

/-- A command carried out once the handling before it is complete; work a run without end left behind is carried on first, and
when it still does not end the machine stops (log entry 5). -/
def perform (f : State → State) (s : State) : Host.Outcome State Fault Refusal :=
  if s.work.isClear then .next (f s)
  else
    let s1 := settle s
    if s1.work.isClear then .next (f s1) else .fault .endlessRun

end Sys2Proof.Machine
end

