-- ==== Sys2Proof/Machine/Ticks.lean ====
section
/-! DEFINITION. The passing of time (R1, R5; log entry 2): what is due in the present real millisecond, the periodic steps and the
expiries, the step to the next millisecond, and the rows of the table that name one outcome of a periodic step. -/

namespace Sys2Proof.Machine

/-! ## Bits of a mask -/

/-- A level put on one line of a bus of input pins. -/
def setLine {w : Nat} (i : Nat) (level : Bool) (b : BitVec w) : BitVec w := if level then b ||| (1#w <<< i) else b &&& ~~~(1#w <<< i)

/-- The due sections, window inputs and axes, in index order. -/
def State.dueDetectors (s : State) : List (Fin 48) := (indices 48).filter fun x => s.sched.detect.getLsbD x.1

/-- The window inputs still to be sampled in the present millisecond, in index order. -/
def State.dueInputs (s : State) : List (Fin 8) := (indices 8).filter fun i => s.sched.inputs.getLsbD i.1

/-- The axes still to be updated in the present millisecond, in index order. -/
def State.dueAxes (s : State) : List (Fin 8) := (indices 8).filter fun a => s.sched.axes.getLsbD a.1

/-! ## Due work of the present millisecond -/

/-- The light frame (R18). -/
def flushLight (s : State) : State := if s.sched.light then settle (lightFrame s) else s

/-- The sampled inputs of the supply, and its expiries (R157, R159 to R161). -/
def flushSupply (s : State) : State :=
  let s1 := settle (programStep s)
  let s2 := if s1.sched.overload then settle (sampleOverload s1) else s1
  let s3 := settle (quietExpire (settle (overloadFinish s2)))
  if s3.sched.key then settle (sampleKey s3) else s3

/-- The window inputs and the detectors (R66, R144). What one confirmation leads to comes before the next sample: log entry 63
(DESIGN CHOICE). -/
def flushInputs (s : State) : State :=
  let s1 := eachSettled s.dueInputs sampleInput s
  eachSettled s1.dueDetectors sampleDetector s1

/-- The track's expiries (R73, R75, R77, R78). -/
def flushTrack (s : State) : State :=
  let s1 := settle (rechargeFinish (settle (pulseFinish s)))
  let s2 := eachSettled (indices 48) expireSec s1
  eachSettled (indices 4) gateTimeoutExpire (eachSettled (indices 4) openDelayExpire s2)

/-- The axes and the trains (R96, R107). -/
def flushMoves (s : State) : State :=
  let s1 := eachSettled s.dueAxes updateAxis s
  eachSettled (indices 8) rampStep s1

/-- The players' waits (R130). -/
def flushWaits (s : State) : State := eachSettled (indices 8) waitTimeOut (eachSettled (indices 8) waitExpire s)

/-- Everything still due in the present real millisecond is taken, in one fixed order (log entry 2). -/
def flush (s : State) : State := flushWaits (flushMoves (flushTrack (flushInputs (flushSupply (flushLight (settle s))))))

/-! ## The step to the next millisecond -/

/-- A section's clearance timer counts down (R73). -/
def SectionRun.countMs (r : SectionRun) : SectionRun :=
  match r.state with
  | .clearing ms => { r with state := .clearing (ms - 1) }
  | _ => r

/-- The discharge unit's time counts down (R75). -/
def ThrowUnit.countMs : ThrowUnit → ThrowUnit
  | .ready => .ready
  | .pulsing p w ms t => .pulsing p w (ms - 1) t
  | .recharging ms => .recharging (ms - 1)

/-- A crossing's open delay and its running gate timeout count down (R77 to R79). -/
def Coupling.countMs (k : Coupling) : Coupling :=
  { k with openDelay := k.openDelay.map (· - 1)
           timeout := match k.timeout with | .running ms => .running (ms - 1) | t => t }

/-- The sequencer's step delay counts down (R157). -/
def Sequencer.countMs : Sequencer → Sequencer
  | .idle => .idle
  | .active p i ms => .active p i (ms - 1)

/-- The Track Controller's timers at a real millisecond. -/
def Track.countMs (k : Track) : Track :=
  { k with runs := k.runs.map SectionRun.countMs, unit_ := k.unit_.countMs, couplings := k.couplings.map (Option.map Coupling.countMs) }

/-- The Supply Sequencer's timers at a real millisecond (R157, R159, R160). -/
def Supply.countMs (k : Supply) : Supply :=
  { k with seq := k.seq.countMs, endTimer := k.endTimer.map (· - 1), quiet := k.quiet.map (· - 1) }

/-- What falls at a real millisecond of the given count: the light frame at multiples of 10 (R18), the detector sample at
multiples of 2 (R66), the axis updates and the other samples at each (R107, R144, R159, R161). -/
def schedAt (count : BitVec 32) : Sched :=
  { light := count.toNat % 10 == 0, detect := if count.toNat % 2 = 0 then BitVec.allOnes 48 else 0, axes := BitVec.allOnes 8
    inputs := BitVec.allOnes 8, overload := true, key := true }

/-- Every count of real milliseconds moves by one: the real-time count (R1), each timer, and the ramp timers (R96); no trigger
has been applied yet in the new millisecond (R152). -/
def countMs (s : State) : State :=
  { s with
    clock := { s.clock with rt := s.clock.rt + 1 }
    track := s.track.countMs
    trains := s.trains.map Train.tick
    cue := { s.cue with players := s.cue.players.map Player.countMs }
    trig := { s.trig with triggers := s.trig.triggers.map fun k => { k with applied := false } }
    supply := s.supply.countMs
    sched := schedAt (s.clock.rt + 1) }

/-- The next real millisecond begins: the counts move and the Town Clock advances (R5). -/
def tick (s : State) : State := finish (advanceClock (countMs s))

/-- The real millisecond: what the present one still owes is taken, then the next begins (log entry 2). -/
def realMillisecond (s : State) : State := tick (flush s)

/-! ## Periodic steps and expiries as commands -/

/-- A step taken when its condition holds, and nothing otherwise (log entry 2). -/
def whenDue (due : Bool) (f : State → State) (s : State) : State := if due then finish (f s) else s

/-- A step of one item, for the index an operand gives; an index the table does not have leaves the state as it is. -/
def forItem {n : Nat} (k : Nat) (f : Fin n → State → State) (s : State) : State :=
  match fin? n k with
  | some i => f i s
  | none => s

/-- The light frame, when it is due (R18). -/
def lightFrameStep (s : State) : State := whenDue s.sched.light lightFrame s

/-- The detector sample: the levels are read, and each section still due is sampled (R66). -/
def detectorStep (levels : Nat) (s : State) : State :=
  let s1 := s.modPins fun p => { p with detect := BitVec.ofNat 48 levels }
  finish (eachSettled s1.dueDetectors sampleDetector s1)

/-- The axis update: the inputs' levels are read, and each axis still due is updated (R107). -/
def axisStep (levels : Nat) (s : State) : State :=
  let s1 := s.modPins fun p => { p with index := BitVec.ofNat 8 levels }
  finish (eachSettled s1.dueAxes updateAxis s1)

/-- The input sample: the levels are read, and each input still due is sampled (R144), with all that follows
from one before the next: log entry 63 (DESIGN CHOICE). -/
def inputStep (levels : Nat) (s : State) : State :=
  let s1 := s.modPins fun p => { p with window := BitVec.ofNat 8 levels }
  finish (eachSettled s1.dueInputs sampleInput s1)

/-- The overload sample (R159). -/
def overloadStep (active : Bool) (s : State) : State :=
  let s1 := s.modPins fun p => { p with overload := active }
  if s1.sched.overload then finish (sampleOverload s1) else s1

/-- The dressing key sample (R161). -/
def keyStep (on : Bool) (s : State) : State :=
  let s1 := s.modPins fun p => { p with key := on }
  if s1.sched.key then finish (sampleKey s1) else s1

/-! ## One outcome of a periodic step (log entry 2) -/

/-- The real millisecond in which a glide arrives (R11). -/
def glideArrivalStep (s : State) : State :=
  let s1 := flush s
  if s1.clock.arrives then tick s1 else s

/-- The light frame, or the hand-out of town seconds, that ends a group's fade (R23). -/
def fadeDoneStep (g : Fin 32) (s : State) : State :=
  if s.sched.light && (s.light.groups.get g).endsFade .real 1 then finish (lightFrame s)
  else
    let s1 := flush s
    let n := s1.clock.secondsOf s1.clock.advance.1
    if 0 < n && (s1.light.groups.get g).endsFade .town n then tick s1 else s

/-- The light frame that ends a phase of a group's generator (R26). -/
def blinkStep (g : Fin 32) (s : State) : State := whenDue (s.sched.light && s.endsPhase g) lightFrame s

/-- The light frame that brings a sodium lamp to WARM (R31). -/
def warmStep (c : Fin 512) (s : State) : State := whenDue (s.sched.light && s.reachesWarm c) lightFrame s

/-- The light frame that ends a sodium lamp's COOLING (R31). -/
def coolingStep (c : Fin 512) (s : State) : State := whenDue (s.sched.light && s.endsCooling c) lightFrame s

/-- The sample of a section that confirms ENTER or LEAVE (R66, R80, R83). -/
def confirmStep (c : Confirm) (x : Fin 48) (s : State) : State :=
  let s1 := s.modPins fun p => { p with detect := setLine x.1 (c == .enter) p.detect }
  if s.sched.detect.getLsbD x.1 && s1.wouldConfirm x == c then finish (sampleDetector x s1) else s

/-- The update of an axis whose result passes a test, with the level of its input (R107). -/
def axisOutcome (input : Bool) (test : UpdateResult → Bool) (a : Fin 8) (s : State) : State :=
  let s1 := s.modPins fun p => { p with index := setLine a.1 input p.index }
  let x := s.axes.get a
  if s.sched.axes.getLsbD a.1 && x.updates && test (x.update input) then finish (updateAxis a s1) else s

/-- Whether an update confirms an index (R113). -/
def UpdateResult.seesIndex (r : UpdateResult) : Bool := r.index.isSome

/-- Whether an update confirms home (R114). -/
def UpdateResult.seesHome (r : UpdateResult) : Bool := r.index.isNone && (r.finish == .homed || r.finish == .homedOnward)

/-- The sample of a window input that confirms an edge (R144). -/
def edgeStep (i : Fin 8) (s : State) : State :=
  let s1 := s.modPins fun p => { p with window := setLine i.1 (!(s.trig.inputs.get i).high) p.window }
  if s.sched.inputs.getLsbD i.1 && (s1.wouldEdge i).isSome then finish (sampleInput i s1) else s

/-- The sample of the overload input that confirms it active, or inactive (R159). -/
def overloadConfirmStep (active : Bool) (s : State) : State :=
  if s.sched.overload && s.supply.overloadConfirms active == some active then
    finish (sampleOverload (s.modPins fun p => { p with overload := active }))
  else s

/-- The sample of the dressing key that confirms its other state (R161). -/
def dressingStep (s : State) : State :=
  let level := !s.supply.keyOn
  if s.sched.key && s.supply.keyConfirms level == some level then finish (sampleKey (s.modPins fun p => { p with key := level })) else s

/-! ## Whether an expiry is due -/

/-- A program step's delay has run out (R157). -/
def State.programDue (s : State) : Bool :=
  match s.supply.seq with
  | .active _ _ 0 => true
  | _ => false

/-- The throw pulse has run out (R75). -/
def State.pulseDue (s : State) : Bool :=
  match s.track.unit_ with
  | .pulsing _ _ 0 _ => true
  | _ => false

/-- The recharge has run out (R75). -/
def State.rechargeDue (s : State) : Bool := s.track.unit_ == .recharging 0

/-- A crossing's open delay has run out (R77). -/
def State.openDelayDue (s : State) (c : Fin 4) : Bool := (s.track.couplings.get c).any fun k => k.openDelay == some 0

/-- A crossing's gate timeout has run out (R78). -/
def State.gateTimeoutDue (s : State) (c : Fin 4) : Bool := (s.track.couplings.get c).any fun k => k.timeout == .running 0

/-- A player's countdown has run out (R130). -/
def State.waitDue (s : State) (p : Fin 8) : Bool :=
  (s.cue.players.get p).state == .waiting &&
    (s.cue.players.get p).wait.any fun w => w.kind == .realMs 0 || w.kind == .townSeconds 0

/-- A player's timeout has run out (R130, R138). -/
def State.timeoutDue (s : State) (p : Fin 8) : Bool :=
  (s.cue.players.get p).state == .waiting &&
    (s.cue.players.get p).wait.any fun w => match w.kind with | .event _ (some (_, 0)) => true | _ => false

end Sys2Proof.Machine
end

