-- ==== Sys2Proof/Machine/AxisCommands.lean ====
section
/-! DEFINITION. The meanings of the commands of the Motion Controller, one for each row of the table. A request's command is its valid frame
arriving on the Show Link (log entry 1). -/

namespace Sys2Proof.Machine

/-- AXIS_CONFIG (R106). The request. -/
def execAxisConfig (tag axis : Nat) (cfg : RawAxisConfig) (s : State) : Host.Outcome State Fault Refusal :=
  perform (deliver (requestFrame tag (.axisConfig axis cfg))) s

/-- AXIS_SPEED (R111). The request. -/
def execAxisSpeed (tag axis speed direction : Nat) (s : State) : Host.Outcome State Fault Refusal :=
  perform (deliver (requestFrame tag (.axisSpeed axis speed direction))) s

/-- AXIS_STOP_AT (R112). The request. -/
def execAxisStopAt (tag axis angle : Nat) (s : State) : Host.Outcome State Fault Refusal :=
  perform (deliver (requestFrame tag (.axisStopAt axis angle))) s

/-- AXIS_MOVE (R114). The request. -/
def execAxisMove (tag axis : Nat) (position : Int) (s : State) : Host.Outcome State Fault Refusal :=
  perform (deliver (requestFrame tag (.axisMove axis position))) s

/-- AXIS_HOME (R114). The request. -/
def execAxisHome (tag axis : Nat) (s : State) : Host.Outcome State Fault Refusal :=
  perform (deliver (requestFrame tag (.axisHome axis))) s

/-- AXIS_STOP (R115). The request. -/
def execAxisStop (tag axis : Nat) (s : State) : Host.Outcome State Fault Refusal :=
  perform (deliver (requestFrame tag (.axisStop axis))) s

/-- AXIS_QUERY (R122). The request. -/
def execAxisQuery (tag axis : Nat) (s : State) : Host.Outcome State Fault Refusal :=
  perform (deliver (requestFrame tag (.axisQuery axis))) s

/-- AXIS_UPDATE (R107). The axis update. -/
def execAxisUpdate (levels : Nat) (s : State) : Host.Outcome State Fault Refusal :=
  perform (axisStep levels) s

/-- AXIS_ARRIVAL (R108). The update in which an axis lands on its target. -/
def execAxisArrival (axis : Nat) (input : Bool) (s : State) : Host.Outcome State Fault Refusal :=
  perform (forItem axis (axisOutcome input fun r => r.finish == .arrival)) s

/-- SPEED_REACHED (R111). The update in which an axis first runs at its wanted speed. -/
def execSpeedReached (axis : Nat) (input : Bool) (s : State) : Host.Outcome State Fault Refusal :=
  perform (forItem axis (axisOutcome input fun r => r.finish == .speedReached)) s

/-- STOP_MODE_REST (R107). The update in which a STOP-mode axis comes to rest. -/
def execStopModeRest (axis : Nat) (input : Bool) (s : State) : Host.Outcome State Fault Refusal :=
  perform (forItem axis (axisOutcome input fun r => r.finish == .stopRest)) s

/-- INDEX_CONFIRM (R113). The update that confirms an axis's index. -/
def execIndexConfirm (axis : Nat) (s : State) : Host.Outcome State Fault Refusal :=
  perform (forItem axis (axisOutcome true UpdateResult.seesIndex)) s

/-- HOME_CONFIRM (R114). The update that confirms an axis's home. -/
def execHomeConfirm (axis : Nat) (s : State) : Host.Outcome State Fault Refusal :=
  perform (forItem axis (axisOutcome true UpdateResult.seesHome)) s

/-- INDEX_MISSING (R113). The update in which an axis misses its index. -/
def execIndexMissing (axis : Nat) (input : Bool) (s : State) : Host.Outcome State Fault Refusal :=
  perform (forItem axis (axisOutcome input fun r => r.finish == .missing .indexMissing)) s

/-- HOME_MISSING (R114). The update in which a homing axis misses its home. -/
def execHomeMissing (axis : Nat) (input : Bool) (s : State) : Host.Outcome State Fault Refusal :=
  perform (forItem axis (axisOutcome input fun r => r.finish == .missing .homeMissing)) s

end Sys2Proof.Machine
end

