-- ==== Sys2Proof/Machine/ClockCommands.lean ====
section
/-! DEFINITION. The meanings of the commands of the Town Clock, one for each row of the table. A request's command is its valid frame
arriving on the Show Link (log entry 1). -/

namespace Sys2Proof.Machine

/-- CLOCK_SET_RATE (R3). The request. -/
def execClockSetRate (tag p m q : Nat) (glide : Option Nat) (s : State) : Host.Outcome State Fault Refusal :=
  perform (deliver (requestFrame tag (.clockSetRate p m q glide))) s

/-- CLOCK_HOLD (R6). The request. -/
def execClockHold (tag : Nat) (s : State) : Host.Outcome State Fault Refusal :=
  perform (deliver (requestFrame tag .clockHold)) s

/-- CLOCK_RUN (R7). The request. -/
def execClockRun (tag : Nat) (s : State) : Host.Outcome State Fault Refusal :=
  perform (deliver (requestFrame tag .clockRun)) s

/-- CLOCK_SET_TIME (R8). The request. -/
def execClockSetTime (tag target mode : Nat) (s : State) : Host.Outcome State Fault Refusal :=
  perform (deliver (requestFrame tag (.clockSetTime target mode))) s

/-- CLOCK_QUERY (R17). The request. -/
def execClockQuery (tag : Nat) (s : State) : Host.Outcome State Fault Refusal :=
  perform (deliver (requestFrame tag .clockQuery)) s

/-- REAL_MILLISECOND (R5). The next real millisecond begins. -/
def execRealMillisecond (s : State) : Host.Outcome State Fault Refusal :=
  perform realMillisecond s

/-- GLIDE_ARRIVAL (R11). The real millisecond in which a glide arrives. -/
def execGlideArrival (s : State) : Host.Outcome State Fault Refusal :=
  perform glideArrivalStep s

end Sys2Proof.Machine
end

