-- ==== Sys2Proof/Machine/CueCommands.lean ====
section
/-! DEFINITION. The meanings of the commands of the Cue Engine, one for each row of the table. A request's command is its valid frame
arriving on the Show Link (log entry 1). -/

namespace Sys2Proof.Machine

/-- LIST_WRITE (R124). The request. -/
def execListWrite (tag list first : Nat) (endFlag : Bool) (steps : List StepRec) (s : State) : Host.Outcome State Fault Refusal :=
  perform (deliver (requestFrame tag (.listWrite list first endFlag steps))) s

/-- LIST_ERASE (R126). The request. -/
def execListErase (tag list : Nat) (s : State) : Host.Outcome State Fault Refusal :=
  perform (deliver (requestFrame tag (.listErase list))) s

/-- LIST_QUERY (R126). The request. -/
def execListQuery (tag list first count : Nat) (s : State) : Host.Outcome State Fault Refusal :=
  perform (deliver (requestFrame tag (.listQuery list first count))) s

/-- PLAYER_START (R139). The request. -/
def execPlayerStart (tag player list policy : Nat) (s : State) : Host.Outcome State Fault Refusal :=
  perform (deliver (requestFrame tag (.playerStart player list policy))) s

/-- PLAYER_STOP (R140). The request. -/
def execPlayerStop (tag player : Nat) (s : State) : Host.Outcome State Fault Refusal :=
  perform (deliver (requestFrame tag (.playerStop player))) s

/-- PLAYER_PAUSE (R140). The request. -/
def execPlayerPause (tag player : Nat) (s : State) : Host.Outcome State Fault Refusal :=
  perform (deliver (requestFrame tag (.playerPause player))) s

/-- PLAYER_RESUME (R140). The request. -/
def execPlayerResume (tag player : Nat) (s : State) : Host.Outcome State Fault Refusal :=
  perform (deliver (requestFrame tag (.playerResume player))) s

/-- PLAYER_PRIORITY (R141). The request. -/
def execPlayerPriority (tag player priority : Nat) (s : State) : Host.Outcome State Fault Refusal :=
  perform (deliver (requestFrame tag (.playerPriority player priority))) s

/-- PLAYER_QUERY (R141). The request. -/
def execPlayerQuery (tag player : Nat) (s : State) : Host.Outcome State Fault Refusal :=
  perform (deliver (requestFrame tag (.playerQuery player))) s

/-- WAIT_EXPIRY (R130). A player's countdown has reached 0. -/
def execWaitExpiry (player : Nat) (s : State) : Host.Outcome State Fault Refusal :=
  perform (forItem player fun p s => whenDue (s.waitDue p) (waitExpire p) s) s

/-- WAIT_TIMEOUT (R138). The timeout of a player's EVENT wait has reached 0. -/
def execWaitTimeout (player : Nat) (s : State) : Host.Outcome State Fault Refusal :=
  perform (forItem player fun p s => whenDue (s.timeoutDue p) (waitTimeOut p) s) s

end Sys2Proof.Machine
end

