-- ==== Sys2Proof/Machine/LightCommands.lean ====
section
/-! DEFINITION. The meanings of the commands of the Light Engine, one for each row of the table. A request's command is its valid frame
arriving on the Show Link (log entry 1). -/

namespace Sys2Proof.Machine

/-- GROUP_SET_MODE (R20). The request. -/
def execGroupSetMode (tag group mode : Nat) (s : State) : Host.Outcome State Fault Refusal :=
  perform (deliver (requestFrame tag (.groupSetMode group mode))) s

/-- GROUP_SET_CURVE (R21). The request. -/
def execGroupSetCurve (tag group : Nat) (points : List (Nat × Nat)) (s : State) : Host.Outcome State Fault Refusal :=
  perform (deliver (requestFrame tag (.groupSetCurve group points))) s

/-- GROUP_CONFIG (R22). The request. -/
def execGroupConfig (tag group rounding gamma : Nat) (s : State) : Host.Outcome State Fault Refusal :=
  perform (deliver (requestFrame tag (.groupConfig group rounding gamma))) s

/-- GROUP_SET_LEVEL (R23). The request. -/
def execGroupSetLevel (tag group level duration base : Nat) (s : State) : Host.Outcome State Fault Refusal :=
  perform (deliver (requestFrame tag (.groupSetLevel group level duration base))) s

/-- FADE_DONE (R23). The step that ends a group's fade. -/
def execFadeDone (group : Nat) (s : State) : Host.Outcome State Fault Refusal :=
  perform (forItem group fadeDoneStep) s

/-- GROUP_SET_BLINK (R25). The request. -/
def execGroupSetBlink (tag group form on off burst : Nat) (s : State) : Host.Outcome State Fault Refusal :=
  perform (deliver (requestFrame tag (.groupSetBlink group form on off burst))) s

/-- GAMMA_WRITE (R27). The request. -/
def execGammaWrite (tag table : Nat) (entries : List Nat) (s : State) : Host.Outcome State Fault Refusal :=
  perform (deliver (requestFrame tag (.gammaWrite table entries))) s

/-- GAMMA_QUERY (R27). The request. -/
def execGammaQuery (tag table : Nat) (s : State) : Host.Outcome State Fault Refusal :=
  perform (deliver (requestFrame tag (.gammaQuery table))) s

/-- CHANNEL_CONFIG (R29). The request. -/
def execChannelConfig (tag channel group kind : Nat) (trim : Int) (binding : RawBinding) (warm restrike : Nat) (s : State) : Host.Outcome State Fault Refusal :=
  perform (deliver (requestFrame tag (.channelConfig channel group kind trim binding warm restrike))) s

/-- PWM_MAP (R33). The request. -/
def execPwmMap (tag output : Nat) (channel : Option Nat) (s : State) : Host.Outcome State Fault Refusal :=
  perform (deliver (requestFrame tag (.pwmMap output channel))) s

/-- CHAIN_LENGTH (R34). The request. -/
def execChainLength (tag chain length : Nat) (s : State) : Host.Outcome State Fault Refusal :=
  perform (deliver (requestFrame tag (.chainLength chain length))) s

/-- SEGMENT_SET (R34). The request. -/
def execSegmentSet (tag segment chain first count channel : Nat) (s : State) : Host.Outcome State Fault Refusal :=
  perform (deliver (requestFrame tag (.segmentSet segment chain first count channel))) s

/-- SEGMENT_CLEAR (R34). The request. -/
def execSegmentClear (tag segment : Nat) (s : State) : Host.Outcome State Fault Refusal :=
  perform (deliver (requestFrame tag (.segmentClear segment))) s

/-- GROUP_QUERY (R37). The request. -/
def execGroupQuery (tag group : Nat) (s : State) : Host.Outcome State Fault Refusal :=
  perform (deliver (requestFrame tag (.groupQuery group))) s

/-- CHANNEL_QUERY (R37). The request. -/
def execChannelQuery (tag channel : Nat) (s : State) : Host.Outcome State Fault Refusal :=
  perform (deliver (requestFrame tag (.channelQuery channel))) s

/-- LIGHT_FRAME (R18). The light frame. -/
def execLightFrame (s : State) : Host.Outcome State Fault Refusal :=
  perform lightFrameStep s

/-- BLINK_PHASE_END (R26). The light frame that ends a phase of a group's blink generator. -/
def execBlinkPhaseEnd (group : Nat) (s : State) : Host.Outcome State Fault Refusal :=
  perform (forItem group blinkStep) s

/-- SODIUM_WARM_REACHED (R31). The light frame that brings a sodium lamp to WARM. -/
def execSodiumWarmReached (channel : Nat) (s : State) : Host.Outcome State Fault Refusal :=
  perform (forItem channel warmStep) s

/-- SODIUM_COOLING_END (R31). The light frame that ends a sodium lamp's COOLING. -/
def execSodiumCoolingEnd (channel : Nat) (s : State) : Host.Outcome State Fault Refusal :=
  perform (forItem channel coolingStep) s

end Sys2Proof.Machine
end

