-- ==== Sys2Proof/Machine/LinkCommands.lean ====
section
/-! DEFINITION. The meanings of the commands of the Show Link, one for each row of the table. A request's command is its valid frame
arriving on the Show Link (log entry 1). -/

namespace Sys2Proof.Machine

/-- POWER_ON (R170). Power is applied: every block takes its power-on values; the pins and the waiting commands are the outside's. -/
def execPowerOn (s : State) : Host.Outcome State Fault Refusal :=
  .next (State.start .powerOn s.pins s.pending)

/-- RESET_PIN (R170). The reset pin is asserted: every block takes its power-on values, and a frame being sent is cut off. -/
def execResetPin (s : State) : Host.Outcome State Fault Refusal :=
  .next (State.start .resetPin s.pins s.pending)

/-- RECEIVE_BYTE (R164). A byte arrives. -/
def execReceiveByte (byte gapUs : Nat) (s : State) : Host.Outcome State Fault Refusal :=
  perform (receive (BitVec.ofNat 8 byte) gapUs) s

/-- UNKNOWN_KIND (R166). A frame arrives whose kind names no request. Log entry 8 (DESIGN CHOICE). -/
def execUnknownKind (kind tag : Nat) (payload : List Nat) (s : State) : Host.Outcome State Fault Refusal :=
  perform (deliver (readFrame kind tag payload)) s

/-- TRANSMIT_FRAME_END (R167). The transmitter finishes sending a frame. -/
def execTransmitFrameEnd (s : State) : Host.Outcome State Fault Refusal :=
  perform frameEnd s

/-- IDENTIFY (R171). The request. -/
def execIdentify (tag : Nat) (s : State) : Host.Outcome State Fault Refusal :=
  perform (deliver (requestFrame tag .identify)) s

/-- STATUS (R171). The request. -/
def execStatus (tag : Nat) (s : State) : Host.Outcome State Fault Refusal :=
  perform (deliver (requestFrame tag .status)) s

/-- RESET (R170). The request. -/
def execReset (tag scope : Nat) (s : State) : Host.Outcome State Fault Refusal :=
  perform (deliver (requestFrame tag (.reset scope))) s

/-- NOTICE_MASK (R168). The request. -/
def execNoticeMask (tag mask : Nat) (s : State) : Host.Outcome State Fault Refusal :=
  perform (deliver (requestFrame tag (.noticeMask mask))) s

end Sys2Proof.Machine
end

