-- ==== Sys2Proof/Machine/SupplyCommands.lean ====
section
/-! DEFINITION. The meanings of the commands of the Supply Sequencer, one for each row of the table. A request's command is its valid frame
arriving on the Show Link (log entry 1). -/

namespace Sys2Proof.Machine

/-- RAIL_PROGRAM (R155). The request. -/
def execRailProgram (tag program : Nat) (steps : List (Nat × Nat)) (s : State) : Host.Outcome State Fault Refusal :=
  perform (deliver (requestFrame tag (.railProgram program steps))) s

/-- RAIL_RAISE (R156). The request. -/
def execRailRaise (tag : Nat) (s : State) : Host.Outcome State Fault Refusal :=
  perform (deliver (requestFrame tag .railRaise)) s

/-- RAIL_LOWER (R156). The request. -/
def execRailLower (tag : Nat) (s : State) : Host.Outcome State Fault Refusal :=
  perform (deliver (requestFrame tag .railLower)) s

/-- RAIL_SET (R158). The request. -/
def execRailSet (tag pattern : Nat) (s : State) : Host.Outcome State Fault Refusal :=
  perform (deliver (requestFrame tag (.railSet pattern))) s

/-- SUPPLY_QUERY (R162). The request. -/
def execSupplyQuery (tag : Nat) (s : State) : Host.Outcome State Fault Refusal :=
  perform (deliver (requestFrame tag .supplyQuery)) s

/-- RAIL_PROGRAM_STEP (R157). A program step's delay has reached 0. -/
def execRailProgramStep (s : State) : Host.Outcome State Fault Refusal :=
  perform (fun s => whenDue s.programDue programStep s) s

/-- OVERLOAD_SAMPLE (R159). The sample of the overload input. -/
def execOverloadSample (active : Bool) (s : State) : Host.Outcome State Fault Refusal :=
  perform (overloadStep active) s

/-- OVERLOAD_ONSET (R160). The sample that confirms the overload input active. -/
def execOverloadOnset (s : State) : Host.Outcome State Fault Refusal :=
  perform (overloadConfirmStep true) s

/-- OVERLOAD_CLEAR (R159). The sample that confirms the overload input inactive. -/
def execOverloadClear (s : State) : Host.Outcome State Fault Refusal :=
  perform (overloadConfirmStep false) s

/-- OVERLOAD_END (R159). The cut-off's end timer has reached 0. -/
def execOverloadEnd (s : State) : Host.Outcome State Fault Refusal :=
  perform (fun s => whenDue (s.supply.endTimer == some 0) overloadFinish s) s

/-- QUIET_TIMER_EXPIRY (R160). The quiet timer has reached 0. -/
def execQuietTimerExpiry (s : State) : Host.Outcome State Fault Refusal :=
  perform (fun s => whenDue (s.supply.quiet == some 0) quietExpire s) s

/-- DRESSING_KEY_SAMPLE (R161). The sample of the dressing key. -/
def execDressingKeySample (on : Bool) (s : State) : Host.Outcome State Fault Refusal :=
  perform (keyStep on) s

/-- DRESSING (R161). The sample that confirms the dressing key's other state. -/
def execDressing (s : State) : Host.Outcome State Fault Refusal :=
  perform dressingStep s

end Sys2Proof.Machine
end

