-- ==== Sys2Proof/Machine/TrackCommands.lean ====
section
/-! DEFINITION. The meanings of the commands of the Track Controller and the Occupancy Monitor, one for each row of the table. A request's command is its valid frame
arriving on the Show Link (log entry 1). -/

namespace Sys2Proof.Machine

/-- LAYOUT_OPEN (R53). The request. -/
def execLayoutOpen (tag : Nat) (s : State) : Host.Outcome State Fault Refusal :=
  perform (deliver (requestFrame tag .layoutOpen)) s

/-- LAYOUT_CLOSE (R59). The request. -/
def execLayoutClose (tag : Nat) (s : State) : Host.Outcome State Fault Refusal :=
  perform (deliver (requestFrame tag .layoutClose)) s

/-- SECTION_DEFINE (R55). The request. -/
def execSectionDefine (tag sec : Nat) (linkA linkB : RawLink) (clearance filter : Nat) (s : State) : Host.Outcome State Fault Refusal :=
  perform (deliver (requestFrame tag (.sectionDefine sec linkA linkB clearance filter))) s

/-- SECTION_FORGET (R56). The request. -/
def execSectionForget (tag sec : Nat) (s : State) : Host.Outcome State Fault Refusal :=
  perform (deliver (requestFrame tag (.sectionForget sec))) s

/-- POINT_DEFINE (R57). The request. -/
def execPointDefine (tag point : Nat) (d : Option RawPoint) (s : State) : Host.Outcome State Fault Refusal :=
  perform (deliver (requestFrame tag (.pointDefine point d))) s

/-- CROSSING_DEFINE (R58). The request. -/
def execCrossingDefine (tag crossing : Nat) (d : Option RawCrossing) (s : State) : Host.Outcome State Fault Refusal :=
  perform (deliver (requestFrame tag (.crossingDefine crossing d))) s

/-- LAYOUT_QUERY (R64). The request. -/
def execLayoutQuery (tag cls index : Nat) (s : State) : Host.Outcome State Fault Refusal :=
  perform (deliver (requestFrame tag (.layoutQuery cls index))) s

/-- DETECTOR_SAMPLE (R66). The detector sample. -/
def execDetectorSample (levels : Nat) (s : State) : Host.Outcome State Fault Refusal :=
  perform (detectorStep levels) s

/-- DETECTOR_ENTER (R80). The sample that confirms ENTER on a section. -/
def execDetectorEnter (sec : Nat) (s : State) : Host.Outcome State Fault Refusal :=
  perform (forItem sec (confirmStep .enter)) s

/-- DETECTOR_LEAVE (R83). The sample that confirms LEAVE on a section. -/
def execDetectorLeave (sec : Nat) (s : State) : Host.Outcome State Fault Refusal :=
  perform (forItem sec (confirmStep .leave)) s

/-- CLEARANCE_EXPIRY (R73). A section's clearance timer has reached 0. -/
def execClearanceExpiry (sec : Nat) (s : State) : Host.Outcome State Fault Refusal :=
  perform (forItem sec fun x s => whenDue (s.sec x == .clearing 0) (expireSec x) s) s

/-- POINT_THROW (R76). The request. -/
def execPointThrow (tag point position : Nat) (s : State) : Host.Outcome State Fault Refusal :=
  perform (deliver (requestFrame tag (.pointThrow point position))) s

/-- THROW_UNIT_CONFIG (R76). The request. -/
def execThrowUnitConfig (tag recharge : Nat) (s : State) : Host.Outcome State Fault Refusal :=
  perform (deliver (requestFrame tag (.throwUnitConfig recharge))) s

/-- PULSE_END (R75). The throw pulse has run out. -/
def execPulseEnd (s : State) : Host.Outcome State Fault Refusal :=
  perform (fun s => whenDue s.pulseDue pulseFinish s) s

/-- RECHARGE_END (R75). The recharge time has run out. -/
def execRechargeEnd (s : State) : Host.Outcome State Fault Refusal :=
  perform (fun s => whenDue s.rechargeDue rechargeFinish s) s

/-- OPEN_DELAY_EXPIRY (R77). A crossing's open delay has reached 0. -/
def execOpenDelayExpiry (crossing : Nat) (s : State) : Host.Outcome State Fault Refusal :=
  perform (forItem crossing fun c s => whenDue (s.openDelayDue c) (openDelayExpire c) s) s

/-- GATE_TIMEOUT_EXPIRY (R78). A crossing's gate timeout has reached 0. -/
def execGateTimeoutExpiry (crossing : Nat) (s : State) : Host.Outcome State Fault Refusal :=
  perform (forItem crossing fun c s => whenDue (s.gateTimeoutDue c) (gateTimeoutExpire c) s) s

/-- GATE_RETRY (R78). The request. -/
def execGateRetry (tag crossing : Nat) (s : State) : Host.Outcome State Fault Refusal :=
  perform (deliver (requestFrame tag (.gateRetry crossing))) s

/-- SECTION_QUERY (R84). The request. -/
def execSectionQuery (tag sec : Nat) (s : State) : Host.Outcome State Fault Refusal :=
  perform (deliver (requestFrame tag (.sectionQuery sec))) s

/-- CROSSING_QUERY (R84). The request. -/
def execCrossingQuery (tag crossing : Nat) (s : State) : Host.Outcome State Fault Refusal :=
  perform (deliver (requestFrame tag (.crossingQuery crossing))) s

/-- THROW_QUERY (R84). The request. -/
def execThrowQuery (tag : Nat) (s : State) : Host.Outcome State Fault Refusal :=
  perform (deliver (requestFrame tag .throwQuery)) s

end Sys2Proof.Machine
end

