-- ==== Sys2Proof/Machine/TrainCommands.lean ====
section
/-! DEFINITION. The meanings of the commands of the Train Controller, one for each row of the table. A request's command is its valid frame
arriving on the Show Link (log entry 1). -/

namespace Sys2Proof.Machine

/-- TRAIN_CONFIG (R90). The request. -/
def execTrainConfig (tag train maxSpeed accel decel : Nat) (s : State) : Host.Outcome State Fault Refusal :=
  perform (deliver (requestFrame tag (.trainConfig train maxSpeed accel decel))) s

/-- TRAIN_PLACE (R88). The request. -/
def execTrainPlace (tag train : Nat) (secs : List (Nat × Nat)) (s : State) : Host.Outcome State Fault Refusal :=
  perform (deliver (requestFrame tag (.trainPlace train secs))) s

/-- TRAIN_REMOVE (R89). The request. -/
def execTrainRemove (tag train : Nat) (s : State) : Host.Outcome State Fault Refusal :=
  perform (deliver (requestFrame tag (.trainRemove train))) s

/-- TRAIN_SPEED (R97). The request. -/
def execTrainSpeed (tag train speed : Nat) (s : State) : Host.Outcome State Fault Refusal :=
  perform (deliver (requestFrame tag (.trainSpeed train speed))) s

/-- TRAIN_STOP (R97). The request. -/
def execTrainStop (tag train : Nat) (s : State) : Host.Outcome State Fault Refusal :=
  perform (deliver (requestFrame tag (.trainStop train))) s

/-- TRAIN_ROUTE (R91). The request. -/
def execTrainRoute (tag train mode : Nat) (secs : List Nat) (s : State) : Host.Outcome State Fault Refusal :=
  perform (deliver (requestFrame tag (.trainRoute train mode secs))) s

/-- TRAIN_RELEASE (R94). The request. -/
def execTrainRelease (tag train : Nat) (s : State) : Host.Outcome State Fault Refusal :=
  perform (deliver (requestFrame tag (.trainRelease train))) s

/-- TRAIN_DIRECTION (R102). The request. -/
def execTrainDirection (tag train : Nat) (s : State) : Host.Outcome State Fault Refusal :=
  perform (deliver (requestFrame tag (.trainDirection train))) s

/-- TRAIN_CLEAR_FAULT (R101). The request. -/
def execTrainClearFault (tag train : Nat) (s : State) : Host.Outcome State Fault Refusal :=
  perform (deliver (requestFrame tag (.trainClearFault train))) s

/-- TRAIN_QUERY (R103). The request. -/
def execTrainQuery (tag train : Nat) (s : State) : Host.Outcome State Fault Refusal :=
  perform (deliver (requestFrame tag (.trainQuery train))) s

/-- TRAIN_RAMP_STEP (R96). A train's ramp timer has reached its interval. -/
def execTrainRampStep (train : Nat) (s : State) : Host.Outcome State Fault Refusal :=
  perform (forItem train fun t s => whenDue (s.trains.get t).stepDue (rampStep t) s) s

end Sys2Proof.Machine
end

