-- ==== Sys2Proof/Machine/TriggerCommands.lean ====
section
/-! DEFINITION. The meanings of the commands of the Trigger Unit, one for each row of the table. A request's command is its valid frame
arriving on the Show Link (log entry 1). -/

namespace Sys2Proof.Machine

/-- INPUT_SAMPLE (R144). The input sample. -/
def execInputSample (levels : Nat) (s : State) : Host.Outcome State Fault Refusal :=
  perform (inputStep levels) s

/-- INPUT_EDGE (R144). The sample that confirms an edge of a window input. -/
def execInputEdge (input : Nat) (s : State) : Host.Outcome State Fault Refusal :=
  perform (forItem input edgeStep) s

/-- INPUT_CONFIG (R145). The request. -/
def execInputConfig (tag input debounce : Nat) (s : State) : Host.Outcome State Fault Refusal :=
  perform (deliver (requestFrame tag (.inputConfig input debounce))) s

/-- COUNTER_CONFIG (R147). The request. -/
def execCounterConfig (tag input mode edge reload : Nat) (s : State) : Host.Outcome State Fault Refusal :=
  perform (deliver (requestFrame tag (.counterConfig input mode edge reload))) s

/-- INPUT_QUERY (R148). The request. -/
def execInputQuery (tag input : Nat) (s : State) : Host.Outcome State Fault Refusal :=
  perform (deliver (requestFrame tag (.inputQuery input))) s

/-- AUX_SET (R149). The request. -/
def execAuxSet (tag output value : Nat) (s : State) : Host.Outcome State Fault Refusal :=
  perform (deliver (requestFrame tag (.auxSet output value))) s

/-- AUX_QUERY (R149). The request. -/
def execAuxQuery (tag : Nat) (s : State) : Host.Outcome State Fault Refusal :=
  perform (deliver (requestFrame tag .auxQuery)) s

/-- TRIGGER_SET (R150). The request. -/
def execTriggerSet (tag trigger : Nat) (record : RawTrigger) (s : State) : Host.Outcome State Fault Refusal :=
  perform (deliver (requestFrame tag (.triggerSet trigger record))) s

/-- TRIGGER_ENABLE (R150). The request. -/
def execTriggerEnable (tag trigger : Nat) (flag : Bool) (s : State) : Host.Outcome State Fault Refusal :=
  perform (deliver (requestFrame tag (.triggerEnable trigger flag))) s

/-- TRIGGER_QUERY (R153). The request. -/
def execTriggerQuery (tag trigger : Nat) (s : State) : Host.Outcome State Fault Refusal :=
  perform (deliver (requestFrame tag (.triggerQuery trigger))) s

/-- TRIGGER_CLEAR_COUNTS (R153). The request. -/
def execTriggerClearCounts (tag trigger : Nat) (s : State) : Host.Outcome State Fault Refusal :=
  perform (deliver (requestFrame tag (.triggerClearCounts trigger))) s

end Sys2Proof.Machine
end

