-- ==== Sys2Proof/Machine/Dispatch.lean ====
section
/-! DEFINITION. The dispatch: one call of its meaning for each command. -/

namespace Sys2Proof.Machine

def exec (i : Instr) (s : State) : Host.Outcome State Fault Refusal :=
  match i with
  | .powerOn => Sys2Proof.Machine.execPowerOn s
  | .resetPin => Sys2Proof.Machine.execResetPin s
  | .receiveByte byte gapUs => Sys2Proof.Machine.execReceiveByte byte gapUs s
  | .unknownKind kind tag payload => Sys2Proof.Machine.execUnknownKind kind tag payload s
  | .transmitFrameEnd => Sys2Proof.Machine.execTransmitFrameEnd s
  | .identify tag => Sys2Proof.Machine.execIdentify tag s
  | .status tag => Sys2Proof.Machine.execStatus tag s
  | .reset tag scope => Sys2Proof.Machine.execReset tag scope s
  | .noticeMask tag mask => Sys2Proof.Machine.execNoticeMask tag mask s
  | .clockSetRate tag p m q glide => Sys2Proof.Machine.execClockSetRate tag p m q glide s
  | .clockHold tag => Sys2Proof.Machine.execClockHold tag s
  | .clockRun tag => Sys2Proof.Machine.execClockRun tag s
  | .clockSetTime tag target mode => Sys2Proof.Machine.execClockSetTime tag target mode s
  | .clockQuery tag => Sys2Proof.Machine.execClockQuery tag s
  | .realMillisecond => Sys2Proof.Machine.execRealMillisecond s
  | .glideArrival => Sys2Proof.Machine.execGlideArrival s
  | .groupSetMode tag group mode => Sys2Proof.Machine.execGroupSetMode tag group mode s
  | .groupSetCurve tag group points => Sys2Proof.Machine.execGroupSetCurve tag group points s
  | .groupConfig tag group rounding gamma => Sys2Proof.Machine.execGroupConfig tag group rounding gamma s
  | .groupSetLevel tag group level duration base => Sys2Proof.Machine.execGroupSetLevel tag group level duration base s
  | .fadeDone group => Sys2Proof.Machine.execFadeDone group s
  | .groupSetBlink tag group form on off burst => Sys2Proof.Machine.execGroupSetBlink tag group form on off burst s
  | .gammaWrite tag table entries => Sys2Proof.Machine.execGammaWrite tag table entries s
  | .gammaQuery tag table => Sys2Proof.Machine.execGammaQuery tag table s
  | .channelConfig tag channel group kind trim binding warm restrike => Sys2Proof.Machine.execChannelConfig tag channel group kind trim binding warm restrike s
  | .pwmMap tag output channel => Sys2Proof.Machine.execPwmMap tag output channel s
  | .chainLength tag chain length => Sys2Proof.Machine.execChainLength tag chain length s
  | .segmentSet tag segment chain first count channel => Sys2Proof.Machine.execSegmentSet tag segment chain first count channel s
  | .segmentClear tag segment => Sys2Proof.Machine.execSegmentClear tag segment s
  | .groupQuery tag group => Sys2Proof.Machine.execGroupQuery tag group s
  | .channelQuery tag channel => Sys2Proof.Machine.execChannelQuery tag channel s
  | .lightFrame => Sys2Proof.Machine.execLightFrame s
  | .blinkPhaseEnd group => Sys2Proof.Machine.execBlinkPhaseEnd group s
  | .sodiumWarmReached channel => Sys2Proof.Machine.execSodiumWarmReached channel s
  | .sodiumCoolingEnd channel => Sys2Proof.Machine.execSodiumCoolingEnd channel s
  | .layoutOpen tag => Sys2Proof.Machine.execLayoutOpen tag s
  | .layoutClose tag => Sys2Proof.Machine.execLayoutClose tag s
  | .sectionDefine tag sec linkA linkB clearance filter => Sys2Proof.Machine.execSectionDefine tag sec linkA linkB clearance filter s
  | .sectionForget tag sec => Sys2Proof.Machine.execSectionForget tag sec s
  | .pointDefine tag point d => Sys2Proof.Machine.execPointDefine tag point d s
  | .crossingDefine tag crossing d => Sys2Proof.Machine.execCrossingDefine tag crossing d s
  | .layoutQuery tag cls index => Sys2Proof.Machine.execLayoutQuery tag cls index s
  | .detectorSample levels => Sys2Proof.Machine.execDetectorSample levels s
  | .detectorEnter sec => Sys2Proof.Machine.execDetectorEnter sec s
  | .detectorLeave sec => Sys2Proof.Machine.execDetectorLeave sec s
  | .clearanceExpiry sec => Sys2Proof.Machine.execClearanceExpiry sec s
  | .pointThrow tag point position => Sys2Proof.Machine.execPointThrow tag point position s
  | .throwUnitConfig tag recharge => Sys2Proof.Machine.execThrowUnitConfig tag recharge s
  | .pulseEnd => Sys2Proof.Machine.execPulseEnd s
  | .rechargeEnd => Sys2Proof.Machine.execRechargeEnd s
  | .openDelayExpiry crossing => Sys2Proof.Machine.execOpenDelayExpiry crossing s
  | .gateTimeoutExpiry crossing => Sys2Proof.Machine.execGateTimeoutExpiry crossing s
  | .gateRetry tag crossing => Sys2Proof.Machine.execGateRetry tag crossing s
  | .sectionQuery tag sec => Sys2Proof.Machine.execSectionQuery tag sec s
  | .crossingQuery tag crossing => Sys2Proof.Machine.execCrossingQuery tag crossing s
  | .throwQuery tag => Sys2Proof.Machine.execThrowQuery tag s
  | .trainConfig tag train maxSpeed accel decel => Sys2Proof.Machine.execTrainConfig tag train maxSpeed accel decel s
  | .trainPlace tag train secs => Sys2Proof.Machine.execTrainPlace tag train secs s
  | .trainRemove tag train => Sys2Proof.Machine.execTrainRemove tag train s
  | .trainSpeed tag train speed => Sys2Proof.Machine.execTrainSpeed tag train speed s
  | .trainStop tag train => Sys2Proof.Machine.execTrainStop tag train s
  | .trainRoute tag train mode secs => Sys2Proof.Machine.execTrainRoute tag train mode secs s
  | .trainRelease tag train => Sys2Proof.Machine.execTrainRelease tag train s
  | .trainDirection tag train => Sys2Proof.Machine.execTrainDirection tag train s
  | .trainClearFault tag train => Sys2Proof.Machine.execTrainClearFault tag train s
  | .trainQuery tag train => Sys2Proof.Machine.execTrainQuery tag train s
  | .trainRampStep train => Sys2Proof.Machine.execTrainRampStep train s
  | .axisConfig tag axis cfg => Sys2Proof.Machine.execAxisConfig tag axis cfg s
  | .axisSpeed tag axis speed direction => Sys2Proof.Machine.execAxisSpeed tag axis speed direction s
  | .axisStopAt tag axis angle => Sys2Proof.Machine.execAxisStopAt tag axis angle s
  | .axisMove tag axis position => Sys2Proof.Machine.execAxisMove tag axis position s
  | .axisHome tag axis => Sys2Proof.Machine.execAxisHome tag axis s
  | .axisStop tag axis => Sys2Proof.Machine.execAxisStop tag axis s
  | .axisQuery tag axis => Sys2Proof.Machine.execAxisQuery tag axis s
  | .axisUpdate levels => Sys2Proof.Machine.execAxisUpdate levels s
  | .axisArrival axis input => Sys2Proof.Machine.execAxisArrival axis input s
  | .speedReached axis input => Sys2Proof.Machine.execSpeedReached axis input s
  | .stopModeRest axis input => Sys2Proof.Machine.execStopModeRest axis input s
  | .indexConfirm axis => Sys2Proof.Machine.execIndexConfirm axis s
  | .homeConfirm axis => Sys2Proof.Machine.execHomeConfirm axis s
  | .indexMissing axis input => Sys2Proof.Machine.execIndexMissing axis input s
  | .homeMissing axis input => Sys2Proof.Machine.execHomeMissing axis input s
  | .listWrite tag list first endFlag steps => Sys2Proof.Machine.execListWrite tag list first endFlag steps s
  | .listErase tag list => Sys2Proof.Machine.execListErase tag list s
  | .listQuery tag list first count => Sys2Proof.Machine.execListQuery tag list first count s
  | .playerStart tag player list policy => Sys2Proof.Machine.execPlayerStart tag player list policy s
  | .playerStop tag player => Sys2Proof.Machine.execPlayerStop tag player s
  | .playerPause tag player => Sys2Proof.Machine.execPlayerPause tag player s
  | .playerResume tag player => Sys2Proof.Machine.execPlayerResume tag player s
  | .playerPriority tag player priority => Sys2Proof.Machine.execPlayerPriority tag player priority s
  | .playerQuery tag player => Sys2Proof.Machine.execPlayerQuery tag player s
  | .waitExpiry player => Sys2Proof.Machine.execWaitExpiry player s
  | .waitTimeout player => Sys2Proof.Machine.execWaitTimeout player s
  | .inputSample levels => Sys2Proof.Machine.execInputSample levels s
  | .inputEdge input => Sys2Proof.Machine.execInputEdge input s
  | .inputConfig tag input debounce => Sys2Proof.Machine.execInputConfig tag input debounce s
  | .counterConfig tag input mode edge reload => Sys2Proof.Machine.execCounterConfig tag input mode edge reload s
  | .inputQuery tag input => Sys2Proof.Machine.execInputQuery tag input s
  | .auxSet tag output value => Sys2Proof.Machine.execAuxSet tag output value s
  | .auxQuery tag => Sys2Proof.Machine.execAuxQuery tag s
  | .triggerSet tag trigger record => Sys2Proof.Machine.execTriggerSet tag trigger record s
  | .triggerEnable tag trigger flag => Sys2Proof.Machine.execTriggerEnable tag trigger flag s
  | .triggerQuery tag trigger => Sys2Proof.Machine.execTriggerQuery tag trigger s
  | .triggerClearCounts tag trigger => Sys2Proof.Machine.execTriggerClearCounts tag trigger s
  | .railProgram tag program steps => Sys2Proof.Machine.execRailProgram tag program steps s
  | .railRaise tag => Sys2Proof.Machine.execRailRaise tag s
  | .railLower tag => Sys2Proof.Machine.execRailLower tag s
  | .railSet tag pattern => Sys2Proof.Machine.execRailSet tag pattern s
  | .supplyQuery tag => Sys2Proof.Machine.execSupplyQuery tag s
  | .railProgramStep => Sys2Proof.Machine.execRailProgramStep s
  | .overloadSample active => Sys2Proof.Machine.execOverloadSample active s
  | .overloadOnset => Sys2Proof.Machine.execOverloadOnset s
  | .overloadClear => Sys2Proof.Machine.execOverloadClear s
  | .overloadEnd => Sys2Proof.Machine.execOverloadEnd s
  | .quietTimerExpiry => Sys2Proof.Machine.execQuietTimerExpiry s
  | .dressingKeySample on => Sys2Proof.Machine.execDressingKeySample on s
  | .dressing => Sys2Proof.Machine.execDressing s

end Sys2Proof.Machine
end

