-- ==== Sys2Proof/WellFormed.lean ====
section
/-! DEFINITION. Which commands can reach the part: a request whose fields fit the widths its payload gives them (R172, R175, R176), and a
step of the part's own that names an item the part has. -/

namespace Sys2Proof

/-! ## Field widths (R172) -/

/-- A one-byte field. -/
def isByte (x : Nat) : Bool := x < 256

/-- A two-byte field. -/
def isWord (x : Nat) : Bool := x < 65536

/-- A four-byte field. -/
def isLong (x : Nat) : Bool := x < 4294967296

/-- A signed two-byte field. -/
def isSignedWord (x : Int) : Bool := -32768 ≤ x && x ≤ 32767

/-- A signed four-byte field. -/
def isSignedLong (x : Int) : Bool := -2147483648 ≤ x && x ≤ 2147483647

/-! ## Records inside a payload -/

/-- A section link's fields are bytes (R178). -/
def RawLink.wellFormed (l : RawLink) : Bool := isByte l.kind && isByte l.index && isByte l.fin

/-- A binding field carries what its kind uses, and 0 elsewhere (R172, R176). -/
def RawBinding.wellFormed (kind : Nat) (b : RawBinding) : Bool :=
  if kind = 2 then isByte b.item && isByte b.aspect && b.start == 0 && b.width == 0
  else if kind = 3 then isByte b.item && b.aspect == 0 && isWord b.start && isWord b.width
  else if kind = 4 then isByte b.item && b.aspect == 0 && b.start == 0 && b.width == 0
  else b.item == 0 && b.aspect == 0 && b.start == 0 && b.width == 0

/-- A point definition's fields fit (R176). -/
def RawPoint.wellFormed (d : RawPoint) : Bool :=
  isByte d.section_ && isByte d.normalSection && isByte d.normalEnd && isByte d.reverseSection && isByte d.reverseEnd && isWord d.pulse

/-- A crossing definition's fields fit, with at most four members (R175, R178). -/
def RawCrossing.wellFormed (d : RawCrossing) : Bool :=
  isByte d.axis && isWord d.openDelay && isWord d.gateTimeout && d.members.all isByte && decide (d.members.length ≤ 4)

/-- An axis configuration's fields fit (R176). -/
def RawAxisConfig.wellFormed (c : RawAxisConfig) : Bool :=
  isByte c.kind && isWord c.maxSpeed && isWord c.accel && isWord c.creep && isWord c.spr && isWord c.offset && isWord c.tolerance
    && isSignedLong c.low && isSignedLong c.high && isSignedLong c.openPos && isSignedLong c.closedPos

/-- A cue step record's fields fit (R179). -/
def StepRec.wellFormed (r : StepRec) : Bool :=
  isByte r.action && isByte r.target && isByte r.flags && isByte r.waitKind && isByte r.w4 && isByte r.w5 && isByte r.w6
    && isWord r.timeout && isWord r.p1 && isWord r.p2 && isByte r.p3

/-- A trigger's fields fit (R175). -/
def RawTrigger.wellFormed (r : RawTrigger) : Bool :=
  isByte r.source && isByte r.par1 && isByte r.par2 && isByte r.player && isByte r.list && isByte r.policy

/-- A pair of bytes. -/
def isPair (x : Nat × Nat) : Bool := isByte x.1 && isByte x.2

/-- A pair of two-byte values. -/
def isWordPair (x : Nat × Nat) : Bool := isWord x.1 && isWord x.2

/-! ## Requests -/

/-- A request whose fields fit its payload (R175, R176, R178). -/
def Request.wellFormed : Request → Bool
  | .identify | .status | .clockHold | .clockRun | .clockQuery | .layoutOpen | .layoutClose | .throwQuery | .auxQuery
  | .railRaise | .railLower | .supplyQuery => true
  | .reset scope => isByte scope
  | .noticeMask mask => isWord mask
  | .clockSetRate p m q glide => isByte p && isWord m && isByte q && glide.all isWord
  | .clockSetTime target mode => isLong target && isByte mode
  | .groupSetMode group mode => isByte group && isByte mode
  | .groupSetCurve group points => isByte group && points.all isWordPair && decide (points.length ≤ 16)
  | .groupConfig group rounding gamma => isByte group && isByte rounding && isByte gamma
  | .groupSetLevel group level duration base => isByte group && isWord level && isWord duration && isByte base
  | .groupSetBlink group form on off burst => isByte group && isByte form && isByte on && isByte off && isByte burst
  | .gammaWrite table entries => isByte table && entries.all isWord && entries.length == 17
  | .gammaQuery table => isByte table
  | .channelConfig channel group kind trim binding warm restrike =>
    isWord channel && isByte group && isByte kind && isSignedWord trim && binding.wellFormed kind && isWord warm && isWord restrike
  | .pwmMap output channel => isByte output && channel.all fun c => decide (c < 65535)
  | .chainLength chain length => isByte chain && isByte length
  | .segmentSet segment chain first count channel =>
    isByte segment && isByte chain && isByte first && isByte count && isWord channel
  | .segmentClear segment => isByte segment
  | .groupQuery group => isByte group
  | .channelQuery channel => isWord channel
  | .sectionDefine sec linkA linkB clearance filter =>
    isByte sec && linkA.wellFormed && linkB.wellFormed && isWord clearance && isWord filter
  | .sectionForget sec => isByte sec
  | .pointDefine point d => isByte point && d.all RawPoint.wellFormed
  | .crossingDefine crossing d => isByte crossing && d.all RawCrossing.wellFormed
  | .layoutQuery cls index => isByte cls && isByte index
  | .pointThrow point position => isByte point && isByte position
  | .throwUnitConfig recharge => isWord recharge
  | .gateRetry crossing => isByte crossing
  | .sectionQuery sec => isByte sec
  | .crossingQuery crossing => isByte crossing
  | .trainConfig train maxSpeed accel decel => isByte train && isByte maxSpeed && isByte accel && isByte decel
  | .trainPlace train secs => isByte train && secs.all isPair && decide (1 ≤ secs.length) && decide (secs.length ≤ 4)
  | .trainRemove train => isByte train
  | .trainSpeed train speed => isByte train && isByte speed
  | .trainStop train => isByte train
  | .trainRoute train mode secs =>
    isByte train && isByte mode && secs.all isByte && decide (1 ≤ secs.length) && decide (secs.length ≤ 12)
  | .trainRelease train => isByte train
  | .trainDirection train => isByte train
  | .trainClearFault train => isByte train
  | .trainQuery train => isByte train
  | .axisConfig axis cfg => isByte axis && cfg.wellFormed
  | .axisSpeed axis speed direction => isByte axis && isWord speed && isByte direction
  | .axisStopAt axis angle => isByte axis && isWord angle
  | .axisMove axis position => isByte axis && isSignedLong position
  | .axisHome axis => isByte axis
  | .axisStop axis => isByte axis
  | .axisQuery axis => isByte axis
  | .listWrite list first _ steps => isByte list && isByte first && steps.all StepRec.wellFormed && decide (steps.length ≤ 17)
  | .listErase list => isByte list
  | .listQuery list first count => isByte list && isByte first && isByte count
  | .playerStart player list policy => isByte player && isByte list && isByte policy
  | .playerStop player => isByte player
  | .playerPause player => isByte player
  | .playerResume player => isByte player
  | .playerPriority player priority => isByte player && isByte priority
  | .playerQuery player => isByte player
  | .inputConfig input debounce => isByte input && isWord debounce
  | .counterConfig input mode edge reload => isByte input && isByte mode && isByte edge && isWord reload
  | .inputQuery input => isByte input
  | .auxSet output value => isByte output && isByte value
  | .triggerSet trigger record => isByte trigger && record.wellFormed
  | .triggerEnable trigger _ => isByte trigger
  | .triggerQuery trigger => isByte trigger
  | .triggerClearCounts trigger => isByte trigger
  | .railProgram program steps => isByte program && steps.all isPair && steps.length == 8
  | .railSet pattern => isByte pattern

/-! ## Commands -/

/-- The kinds that name a request (R175). -/
def requestKinds : List Nat :=
  [0x01, 0x02, 0x03, 0x04, 0x08, 0x09, 0x0A, 0x0B, 0x0C, 0x10, 0x11, 0x12, 0x13, 0x14, 0x15, 0x16, 0x17, 0x18, 0x19, 0x1A, 0x1B,
   0x1C, 0x1D, 0x20, 0x21, 0x22, 0x23, 0x24, 0x25, 0x26, 0x27, 0x28, 0x29, 0x2A, 0x2B, 0x2C, 0x30, 0x31, 0x32, 0x33, 0x34, 0x35,
   0x36, 0x37, 0x38, 0x39, 0x40, 0x41, 0x42, 0x43, 0x44, 0x45, 0x46, 0x50, 0x51, 0x52, 0x53, 0x54, 0x55, 0x56, 0x57, 0x58, 0x60,
   0x61, 0x62, 0x63, 0x64, 0x65, 0x66, 0x67, 0x68, 0x70, 0x71, 0x72, 0x73, 0x74]

/-- The tag and the request a request's command stands for; none for the part's own steps and for an unknown kind. -/
def Instr.request : Instr → Option (Nat × Request)
  | .identify tag => some (tag, .identify)
  | .status tag => some (tag, .status)
  | .reset tag scope => some (tag, .reset scope)
  | .noticeMask tag mask => some (tag, .noticeMask mask)
  | .clockSetRate tag p m q glide => some (tag, .clockSetRate p m q glide)
  | .clockHold tag => some (tag, .clockHold)
  | .clockRun tag => some (tag, .clockRun)
  | .clockSetTime tag target mode => some (tag, .clockSetTime target mode)
  | .clockQuery tag => some (tag, .clockQuery)
  | .groupSetMode tag group mode => some (tag, .groupSetMode group mode)
  | .groupSetCurve tag group points => some (tag, .groupSetCurve group points)
  | .groupConfig tag group rounding gamma => some (tag, .groupConfig group rounding gamma)
  | .groupSetLevel tag group level duration base => some (tag, .groupSetLevel group level duration base)
  | .groupSetBlink tag group form on off burst => some (tag, .groupSetBlink group form on off burst)
  | .gammaWrite tag table entries => some (tag, .gammaWrite table entries)
  | .gammaQuery tag table => some (tag, .gammaQuery table)
  | .channelConfig tag channel group kind trim binding warm restrike => some (tag, .channelConfig channel group kind trim binding warm restrike)
  | .pwmMap tag output channel => some (tag, .pwmMap output channel)
  | .chainLength tag chain length => some (tag, .chainLength chain length)
  | .segmentSet tag segment chain first count channel => some (tag, .segmentSet segment chain first count channel)
  | .segmentClear tag segment => some (tag, .segmentClear segment)
  | .groupQuery tag group => some (tag, .groupQuery group)
  | .channelQuery tag channel => some (tag, .channelQuery channel)
  | .layoutOpen tag => some (tag, .layoutOpen)
  | .layoutClose tag => some (tag, .layoutClose)
  | .sectionDefine tag sec linkA linkB clearance filter => some (tag, .sectionDefine sec linkA linkB clearance filter)
  | .sectionForget tag sec => some (tag, .sectionForget sec)
  | .pointDefine tag point d => some (tag, .pointDefine point d)
  | .crossingDefine tag crossing d => some (tag, .crossingDefine crossing d)
  | .layoutQuery tag cls index => some (tag, .layoutQuery cls index)
  | .pointThrow tag point position => some (tag, .pointThrow point position)
  | .throwUnitConfig tag recharge => some (tag, .throwUnitConfig recharge)
  | .gateRetry tag crossing => some (tag, .gateRetry crossing)
  | .sectionQuery tag sec => some (tag, .sectionQuery sec)
  | .crossingQuery tag crossing => some (tag, .crossingQuery crossing)
  | .throwQuery tag => some (tag, .throwQuery)
  | .trainConfig tag train maxSpeed accel decel => some (tag, .trainConfig train maxSpeed accel decel)
  | .trainPlace tag train secs => some (tag, .trainPlace train secs)
  | .trainRemove tag train => some (tag, .trainRemove train)
  | .trainSpeed tag train speed => some (tag, .trainSpeed train speed)
  | .trainStop tag train => some (tag, .trainStop train)
  | .trainRoute tag train mode secs => some (tag, .trainRoute train mode secs)
  | .trainRelease tag train => some (tag, .trainRelease train)
  | .trainDirection tag train => some (tag, .trainDirection train)
  | .trainClearFault tag train => some (tag, .trainClearFault train)
  | .trainQuery tag train => some (tag, .trainQuery train)
  | .axisConfig tag axis cfg => some (tag, .axisConfig axis cfg)
  | .axisSpeed tag axis speed direction => some (tag, .axisSpeed axis speed direction)
  | .axisStopAt tag axis angle => some (tag, .axisStopAt axis angle)
  | .axisMove tag axis position => some (tag, .axisMove axis position)
  | .axisHome tag axis => some (tag, .axisHome axis)
  | .axisStop tag axis => some (tag, .axisStop axis)
  | .axisQuery tag axis => some (tag, .axisQuery axis)
  | .listWrite tag list first endFlag steps => some (tag, .listWrite list first endFlag steps)
  | .listErase tag list => some (tag, .listErase list)
  | .listQuery tag list first count => some (tag, .listQuery list first count)
  | .playerStart tag player list policy => some (tag, .playerStart player list policy)
  | .playerStop tag player => some (tag, .playerStop player)
  | .playerPause tag player => some (tag, .playerPause player)
  | .playerResume tag player => some (tag, .playerResume player)
  | .playerPriority tag player priority => some (tag, .playerPriority player priority)
  | .playerQuery tag player => some (tag, .playerQuery player)
  | .inputConfig tag input debounce => some (tag, .inputConfig input debounce)
  | .counterConfig tag input mode edge reload => some (tag, .counterConfig input mode edge reload)
  | .inputQuery tag input => some (tag, .inputQuery input)
  | .auxSet tag output value => some (tag, .auxSet output value)
  | .auxQuery tag => some (tag, .auxQuery)
  | .triggerSet tag trigger record => some (tag, .triggerSet trigger record)
  | .triggerEnable tag trigger flag => some (tag, .triggerEnable trigger flag)
  | .triggerQuery tag trigger => some (tag, .triggerQuery trigger)
  | .triggerClearCounts tag trigger => some (tag, .triggerClearCounts trigger)
  | .railProgram tag program steps => some (tag, .railProgram program steps)
  | .railRaise tag => some (tag, .railRaise)
  | .railLower tag => some (tag, .railLower)
  | .railSet tag pattern => some (tag, .railSet pattern)
  | .supplyQuery tag => some (tag, .supplyQuery)
  | .powerOn | .resetPin | .receiveByte _ _ | .unknownKind _ _ _ | .transmitFrameEnd | .realMillisecond | .glideArrival
  | .fadeDone _ | .lightFrame | .blinkPhaseEnd _ | .sodiumWarmReached _ | .sodiumCoolingEnd _ | .detectorSample _
  | .detectorEnter _ | .detectorLeave _ | .clearanceExpiry _ | .pulseEnd | .rechargeEnd | .openDelayExpiry _
  | .gateTimeoutExpiry _ | .trainRampStep _ | .axisUpdate _ | .axisArrival _ _ | .speedReached _ _ | .stopModeRest _ _
  | .indexConfirm _ | .homeConfirm _ | .indexMissing _ _ | .homeMissing _ _ | .waitExpiry _ | .waitTimeout _
  | .inputSample _ | .inputEdge _ | .railProgramStep | .overloadSample _ | .overloadOnset | .overloadClear
  | .overloadEnd | .quietTimerExpiry | .dressingKeySample _ | .dressing => none

/-- A command that can occur: a request whose tag is a byte and whose fields fit, or a step of an item the part has. -/
def Instr.wellFormed (i : Instr) : Bool :=
  match i.request with
  | some (tag, r) => isByte tag && r.wellFormed
  | none =>
    match i with
    | .receiveByte byte _ => isByte byte
    | .unknownKind kind tag payload =>
      isByte kind && isByte tag && payload.all isByte && decide (payload.length ≤ 248) && !requestKinds.contains kind
    | .fadeDone group => decide (group < 32)
    | .blinkPhaseEnd group => decide (group < 32)
    | .sodiumWarmReached channel => decide (channel < 512)
    | .sodiumCoolingEnd channel => decide (channel < 512)
    | .detectorSample levels => decide (levels < 2 ^ 48)
    | .detectorEnter sec => decide (sec < 48)
    | .detectorLeave sec => decide (sec < 48)
    | .clearanceExpiry sec => decide (sec < 48)
    | .openDelayExpiry crossing => decide (crossing < 4)
    | .gateTimeoutExpiry crossing => decide (crossing < 4)
    | .trainRampStep train => decide (train < 8)
    | .axisUpdate levels => isByte levels
    | .axisArrival axis _ => decide (axis < 8)
    | .speedReached axis _ => decide (axis < 8)
    | .stopModeRest axis _ => decide (axis < 8)
    | .indexConfirm axis => decide (axis < 8)
    | .homeConfirm axis => decide (axis < 8)
    | .indexMissing axis _ => decide (axis < 8)
    | .homeMissing axis _ => decide (axis < 8)
    | .waitExpiry player => decide (player < 8)
    | .waitTimeout player => decide (player < 8)
    | .inputSample levels => isByte levels
    | .inputEdge input => decide (input < 8)
    | _ => true

end Sys2Proof
end

