-- ==== Sys2Proof/Safety.lean ====
section
/-! DEFINITION. The notions the statements use: the states in which a request is taken at once, the states a request's taking and
its reply lead through, a show in which nothing listens, and the invariants of the Town Clock's and the Show Link's records, of the
trains with the supply, the axes with the supply and the interlock, the players with the holder table, and the sections with the held
lists. -/

namespace Sys2Proof.Machine

/-! ## A request taken at once (R165, R166) -/

/-- Nothing is left over of an earlier handling, no RESET waits, a receive slot is free, and no earlier request still waits to be
taken: a request that arrives now is taken at once. -/
def State.ready (s : State) : Bool :=
  s.work.isClear && s.link.resetWaiting.isNone && decide (s.link.slots.length < Config.slotCount) && s.link.slots.all Slot.taken

/-- The state in which the owning block sees a request: its frame stands in a slot behind the others and is taken (R165, R166). -/
def State.taking (tag : Nat) (r : Request) (s : State) : State :=
  s.modLink fun l => { l with slots := l.slots ++ [{ frame := requestFrame tag r, taken := true }] }

/-- The end of a request's command: all that follows from the handling happens, the reply is appended to the reply list, and an
IDLE transmitter picks (R166, R167). -/
def State.replied (tag : Nat) (r : Request) (a : Answer) (s : State) : State :=
  finish ((settle s).modLink (ShowLink.addReply (replyTo (requestFrame tag r) a .request)))

/-- A request's command from end to end: the request is taken, the owning block makes the change `f`, all that follows happens, and
the reply `a` is queued. -/
def State.served (tag : Nat) (r : Request) (f : State → State) (a : Answer) (s : State) : State := (f (s.taking tag r)).replied tag r a

/-- A result that refuses a request (R166). -/
def ResultCode.refuses (c : ResultCode) : Bool := c != .ok && c != .accepted

/-! ## Bytes on the line (R163, R164) -/

/-- The commands of a run of received bytes, each with the microseconds since the byte before it. -/
def receiveAll : List (Byte × Nat) → State → Host.Outcome State Fault Refusal
  | [], s => .next s
  | (b, gapUs) :: rest, s =>
    match exec (.receiveByte b.toNat gapUs) s with
    | .next t => receiveAll rest t
    | o => o

/-- The transmitter has something to send, or there is nothing to send: so it stands between any two commands (R167). -/
def ShowLink.atRest (l : ShowLink) : Bool := l.tx != .idle || (l.replies.isEmpty && l.notices.isEmpty)

/-! ## A show in which nothing listens (R130, R133, R135, R152) -/

/-- A player that no event and no ending reaches: it waits for none, awaits none and repeats until none. -/
def Player.deaf (p : Player) : Bool :=
  p.await.isNone && p.repeats.all (fun f => f.until_.isNone) &&
    match p.wait with
    | some { kind := .event _ _, .. } => false
    | some { kind := .townAt _, .. } => false
    | _ => true

/-- No trigger is enabled and every player is deaf: an event reaches the Show Link alone. -/
def State.quiet (s : State) : Bool := s.cue.players.items.all Player.deaf && s.trig.triggers.items.all fun k => !k.enabled

/-! ## Invariants -/

/-- The ranges of the clock record (R2, R3), the glide record present in GLIDE and absent in RUN (R2, R9 to R11). -/
def Clock.wf (c : Clock) : Bool :=
  decide (c.town < Config.dayMs) && decide (c.day < 65536) && (rateFailure c.p c.m c.q (some c.glideRate)).isNone
    && decide (c.acc < c.p * c.q) && decide (c.rem < 1000) && c.target.all (fun t => decide (t < Config.dayMs))
    && (match c.state with | .run => c.target.isNone | .glide => c.target.isSome | .held => true)

/-- The ranges of the Show Link's records (R165, R169): four slots, 32 notices, a lost count of at most 255 that is 0 unless the
notice queue is full, and at most four BUSY replies. -/
def ShowLink.wf (l : ShowLink) : Bool :=
  decide (l.slots.length ≤ Config.slotCount) && decide (l.notices.length ≤ Config.noticeRoom) && decide (l.lost ≤ 255)
    && (l.lost == 0 || l.notices.length == Config.noticeRoom) && decide (l.busyCount ≤ Config.busyRoom)

/-- The speeds of a train (R90, R96, R97, R100): current and requested speed within the max speed, a step upward only below it, and a
train that is UNPLACED or HALTED at speed 0 with no step upward. -/
def Train.wf (x : Train) : Bool :=
  decide (1 ≤ x.maxSpeed) && decide (x.speed ≤ x.maxSpeed) && decide (x.requested ≤ x.maxSpeed)
    && (x.dir != .up || decide (x.speed < x.maxSpeed)) && ((x.placed && x.halt.isNone) || (x.speed == 0 && x.dir != .up))

/-- The trains run: the TRACK rail is UP, the cut-off INACTIVE and the dressing interlock RELEASED (R95, R98). -/
def State.trainsRun (s : State) : Bool := s.supply.rails.track && !s.supply.cutoff && !s.supply.keyOn

/-- Every train within its ranges, and at speed 0 with no step upward while the TRACK rail is DOWN, the cut-off ACTIVE or the interlock
ENGAGED (R96, R98, R99). -/
def State.trainsWf (s : State) : Bool :=
  s.trains.items.all Train.wf && (s.trainsRun || s.trains.items.all fun x => x.speed == 0 && x.dir != .up)

/-- A homed POSITIONAL or GATE axis stands within its limits, and a ROTARY angle within one revolution (R104, R109). -/
def Axis.placed (x : Axis) : Bool :=
  if x.kind = .rotary then decide (0 ≤ x.pos) && decide (x.pos < x.spr)
  else !x.homed || (decide (x.lowLimit ≤ x.pos) && decide (x.pos ≤ x.highLimit))

/-- The ranges of an axis record (R104, R106, R109, R111): the configuration's order, the speed within the max speed and 0 in every state
in which the axis stands, a wanted speed only while MOVING and within the max speed, and the position in its range. -/
def Axis.wf (x : Axis) : Bool :=
  decide (2 ≤ x.spr) && decide (x.offset < x.spr) && decide (x.creep ≤ x.maxSpeed) && decide (x.low ≤ 0) && decide (0 ≤ x.high)
    && decide (min x.openPos x.closedPos ≤ 0) && decide (0 ≤ max x.openPos x.closedPos) && decide (x.v ≤ x.maxSpeed)
    && (x.underWay || x.state == .fault || x.v == 0)
    && (match x.motion with | .speed w _ => x.state == .moving && decide (w ≤ x.maxSpeed) | _ => true) && x.placed

/-- Every axis within its ranges, and standing while the MOTION rail is DOWN (R119). -/
def State.axesWf (s : State) : Bool :=
  s.axes.items.all Axis.wf && (s.supply.rails.motion || s.axes.items.all fun x => x.v == 0 && !x.underWay)

/-- The interlock at the axes (R105, R120) and at the crossings (R79): an axis is HELD, with v 0, exactly while the interlock is ENGAGED, and no
gate timeout runs then. -/
def State.interlockWf (s : State) : Bool :=
  (s.axes.items.all fun x => (x.state == .held) == s.supply.keyOn && (x.state != .held || x.v == 0))
    && (!s.supply.keyOn || s.track.couplings.items.all fun k => k.all fun c => match c.timeout with | .running _ => false | _ => true)

/-- The stacks of a player within their room (R129, R135, R136), and a pre-pause state that a pause can have saved (R140). -/
def Player.wf (x : Player) : Bool :=
  decide (x.calls.length ≤ Config.callRoom) && decide (x.repeats.length ≤ Config.repeatRoom)
    && x.prePause != some .idle && x.prePause != some .fault

/-- The players within their ranges, and no target held by a player in IDLE or FAULT (R131). -/
def Cue.wf (c : Cue) : Bool :=
  c.players.items.all Player.wf && c.holders.items.all fun h => h.all fun p => (c.players.get p).runs

/-- The holders and the held lists agree (R68, R85): a train holds no section twice, it holds exactly the sections that name it in an
OPERATIONAL layout, an UNPLACED train holds nothing and claims nothing, and a train is placed only while the layout is OPERATIONAL. -/
def State.heldWf (s : State) : Bool :=
  (indices 8).all fun t =>
    let names := (s.heldOf t).map Prod.fst
    decide names.Nodup
      && ((indices 48).all fun x => names.contains x == (s.track.config == .operational && (s.sec x).holder == some t))
      && ((s.trains.get t).placed || (names.isEmpty && (s.trains.get t).claim == .none))
      && (s.track.config == .operational || !(s.trains.get t).placed)

end Sys2Proof.Machine
end

