-- ==== Sys2Proof/Certificates/Slice0/Obligations.lean ====
section
/-! DEFINITION. The statements for the provers. Each docstring names the rules of spec/ its statement rests on. -/

open Sys2Proof Sys2Proof.Machine

/-! ## Steps and commands -/

/-- A step takes the command at the front of the queue and carries it out with the queue's rest. With no command waiting the
part idles, which is the model's choice (log entry 21). -/
def Obligations.StepTakesFront : Prop :=
  (∀ (c : Instr) (rest : List Instr) (s : State), s.pending = c :: rest → step s = exec c { s with pending := rest }) ∧
    ∀ s : State, s.pending = [] → step s = .next s

/-- Every command answers a next state once the handling before it has come to its end, and no command changes the queue of the
commands behind it. A handling that has not come to its end, and does not when it is carried on, stops the machine at the next
command that waits for it, which every command but a power-on and the reset pin does (log entry 5, the model's choice). -/
def Obligations.EveryCommandCompletes : Prop :=
  (∀ (c : Instr) (s : State), (settle s).work.isClear = true → ∃ t, exec c s = .next t ∧ t.pending = s.pending) ∧
  ∀ (c : Instr) (s : State), (settle s).work.isClear = false → c ≠ .powerOn → c ≠ .resetPin → exec c s = .fault .endlessRun

/-- The end of an event-free request changes the Show Link alone (R166, R167): the reply is appended behind the replies that wait,
and an IDLE transmitter takes the oldest. -/
def Obligations.ReplyEnds : Prop :=
  ∀ (tag : Nat) (r : Request) (a : Answer) (t : State), t.work.isClear = true →
    t.replied tag r a = t.modLink fun l =>
      let x : Reply := { kind := replyKind (requestKind r), tag := tag, answer := a, origin := .request }
      match l.tx, l.replies with
      | .idle, [] => { l with tx := .reply x }
      | .idle, y :: rest => { l with tx := .reply y, replies := rest ++ [x] }
      | _, _ => { l with replies := l.replies ++ [x] }

/-- A request refused by its block changes no state (R166), for every request but one: a LIST_WRITE with the end flag whose list
fails validation leaves the list WRITING (R124). -/
def Obligations.RefusedChangesNothing : Prop :=
  ∀ (r : Request) (s : State), (handle r s).2.code.refuses = true → (∀ l f steps, r ≠ .listWrite l f true steps) → (handle r s).1 = s

/-- In a show in which nothing listens, an event reaches the Show Link alone (R128, R152, R168): after all that follows, every
record of every block stands as it was, and of the handling only the number of the next arrival has moved. -/
def Obligations.QuietEventTouchesLinkOnly : Prop :=
  ∀ (e : Event) (s : State), s.quiet = true → s.work.isClear = true →
    settle (s.raise e) = { s with link := (s.raise e).link, work := { s.work with arrival := (s.raise e).work.arrival } }

/-! ## The Show Link -/

/-- NOTICE_MASK (R168): a flag beyond the ninth is refused; otherwise the mask takes the new flags, which are the reply's data. RESET
(R170): any scope but WARM (0) and COLD (1) is refused; otherwise the reset waits for the end of its own reply. -/
def Obligations.LinkOwnRequests : Prop :=
  (∀ (tag mask : Nat) (s : State), s.ready = true →
     exec (.noticeMask tag mask) s = .next (
       if mask < 512 then s.served tag (.noticeMask mask) (State.modLink fun l => { l with mask := BitVec.ofNat 9 mask }) (okWith (dat 2 mask))
       else s.served tag (.noticeMask mask) id (refuse .outOfRange))) ∧
  ∀ (tag : Nat) (s : State), s.ready = true →
    (∀ scope, 2 ≤ scope → exec (.reset tag scope) s = .next (s.served tag (.reset scope) id (refuse .outOfRange))) ∧
    ∀ (scope : Nat) (x : Scope), (scope = 0 ∧ x = .warm) ∨ (scope = 1 ∧ x = .cold) →
      exec (.reset tag scope) s = .next (finish ((s.taking tag (.reset scope)).modLink fun l =>
        { l with resetWaiting := some x, replies := l.replies ++ [{ kind := 0x83, tag := tag, answer := okay, origin := .reset x }] }))

/-- A request that arrives while a RESET waits (R166, R170), or while every slot is occupied (R165): it waits in its slot; it is
answered BUSY and discarded; or, with four BUSY replies waiting, it is discarded with FRAME_REJECT(NO_ROOM). With four slots
occupied this holds also while a RESET waits and not every one of them is taken. A frame whose kind names no request (R166) is
answered UNKNOWN_KIND, and one of a known kind whose payload has not the length R175 gives the kind is answered BAD_LENGTH, as the
frame's last byte arrives; both reach no block: only the Show Link changes. The lengths are those of R175's table. -/
def Obligations.FrameHandedIn : Prop :=
  (∀ (c : Instr) (tag : Nat) (r : Request) (s : State), c.request = some (tag, r) → s.work.isClear = true →
     let stuck := s.link.slots.all Slot.taken = true ∨ s.link.resetWaiting.isSome = true
     (s.link.resetWaiting.isSome = true → s.link.slots.length < 4 →
       exec c s = .next (finish (s.modLink fun l => { l with slots := l.slots ++ [{ frame := requestFrame tag r, taken := false }] }))) ∧
     (4 ≤ s.link.slots.length → stuck → s.link.busyCount < 4 →
       exec c s = .next (finish (s.modLink fun l =>
         { l with replies := l.replies ++ [{ kind := replyKind (requestKind r), tag := tag, answer := refuse .busy, origin := .busy }] }))) ∧
     (4 ≤ s.link.slots.length → stuck → 4 ≤ s.link.busyCount →
       exec c s = .next (finish (settle (s.raise (.frameReject .noRoom)))))) ∧
  (∀ (kind tag : Nat) (payload : List Nat) (s : State), requestKinds.contains kind = false → s.ready = true →
    exec (.unknownKind kind tag payload) s = .next (finish (s.modLink fun l =>
      { l with slots := l.slots ++ [{ frame := { kind := kind, tag := tag, body := .unknownKind }, taken := true }]
               replies := l.replies ++ [{ kind := replyKind kind, tag := tag, answer := refuse .unknownKind, origin := .request }] }))) ∧
  (∀ (kind tag : Byte) (payload got : List Byte) (last gap : Nat) (s : State), s.ready = true → gap ≤ 5000 → payload.length ≤ 248 →
    let covered := BitVec.ofNat 8 (payload.length + 2) :: kind :: tag :: payload
    s.link.rx = .inFrame (payload.length + 2) got →
    got ++ [BitVec.ofNat 8 last] = kind :: tag :: payload ++ [(crc16 covered >>> 8).truncate 8, (crc16 covered).truncate 8] →
    parseRequest kind.toNat (payload.map BitVec.toNat) = .badLength →
      exec (.receiveByte last gap) s = .next (finish (s.modLink fun l => { l with
        rx := .hunting
        slots := l.slots ++ [{ frame := { kind := kind.toNat, tag := tag.toNat, body := .badLength }, taken := true }]
        replies := l.replies ++ [{ kind := replyKind kind.toNat, tag := tag.toNat, answer := refuse .badLength, origin := .request }] }))) ∧
  ∀ (kind : Nat) (payload : List Nat),
    let n := payload.length
    let suits :=
      (n = 0 ∧ kind ∈ [0x01, 0x02, 0x09, 0x0A, 0x0C, 0x20, 0x21, 0x2C, 0x64, 0x71, 0x72, 0x74]) ∨
      (n = 1 ∧ kind ∈ [0x03, 0x16, 0x1B, 0x1C, 0x23, 0x29, 0x2A, 0x2B, 0x32, 0x34, 0x36, 0x37, 0x38, 0x39, 0x44, 0x45, 0x46, 0x51, 0x54, 0x55,
        0x56, 0x58, 0x62, 0x67, 0x68, 0x73]) ∨
      (n = 2 ∧ kind ∈ [0x04, 0x10, 0x19, 0x1D, 0x26, 0x27, 0x28, 0x33, 0x57, 0x63, 0x66]) ∨
      (n = 3 ∧ kind ∈ [0x12, 0x18, 0x42, 0x52, 0x53, 0x60]) ∨ (n = 4 ∧ kind ∈ [0x08, 0x30, 0x41]) ∨
      (n = 5 ∧ kind ∈ [0x0B, 0x14, 0x43, 0x61]) ∨ (n = 6 ∧ kind ∈ [0x08, 0x13, 0x1A]) ∨ (kind = 0x65 ∧ n = 8) ∨ (kind = 0x24 ∧ n = 9) ∨
      (kind = 0x22 ∧ n = 11) ∨ (kind = 0x17 ∧ n = 15) ∨ (kind = 0x70 ∧ n = 17) ∨ (kind = 0x40 ∧ n = 30) ∨ (kind = 0x15 ∧ n = 35) ∨
      (kind = 0x11 ∧ ∃ k, k ≤ 16 ∧ n = 1 + 4 * k) ∨ (kind = 0x25 ∧ ∃ k, k ≤ 4 ∧ n = 7 + k) ∨
      (kind = 0x31 ∧ ∃ k, 1 ≤ k ∧ k ≤ 4 ∧ n = 1 + 2 * k) ∨ (kind = 0x35 ∧ ∃ k, 1 ≤ k ∧ k ≤ 12 ∧ n = 2 + k) ∨
      (kind = 0x50 ∧ ∃ k, k ≤ 17 ∧ n = 3 + 14 * k)
    (parseRequest kind payload = .badLength ↔ requestKinds.contains kind = true ∧ ¬suits) ∧
      (parseRequest kind payload = .unknownKind ↔ requestKinds.contains kind = false)

/-- The end of a frame, no RESET's reply, with every request taken and no notice lost (R165, R167): a request's reply frees the
oldest request's slot; then the oldest reply is sent, else the oldest notice, else the transmitter is IDLE. An IDLE transmitter
has no frame to end. The notice queue (R169): an offered notice is appended, or with the queue full counted as lost, saturating
at 255; the queue keeps its order and never holds more than 32; and the notice taken from a queue that has lost some makes room
for NOTICES_LOST. An event at the Show Link (R168, R169): its class is that of the events table, and it becomes a notice when
the mask enables the class; STARTED and NOTICES_LOST do whatever the mask says. A notice is queued, reported after what was
lost, or lost, and an IDLE transmitter with no reply waiting and no request unanswered sends it at once (log entry 7); the event
is offered to the blocks whatever its class. That an IDLE transmitter's frame end changes nothing and that a reply's end frees
the oldest taken slot are log entry 7 (DEDUCED). The bytes (R163, R173, R174): a reply and a notice as they stand on the line,
each event's code, subject and details, and each result's code; the notice record's stamps, without a day count, are log entry
47. -/
def Obligations.TransmitterAndNotices : Prop :=
  (∀ s : State, s.work.isClear = true → s.link.slots.all Slot.taken = true → s.link.lost = 0 →
     (s.link.tx = .idle → exec .transmitFrameEnd s = .next s) ∧
     ∀ freed : List Slot,
       ((∃ n, s.link.tx = .notice n) ∧ freed = s.link.slots ∨
         (∃ r, s.link.tx = .reply r ∧ (r.origin = .busy ∧ freed = s.link.slots ∨ r.origin = .request ∧ freed = s.link.slots.drop 1))) →
       exec .transmitFrameEnd s = .next (s.modLink fun l =>
         match l.replies, l.notices with
         | r :: rest, _ => { l with slots := freed, tx := .reply r, replies := rest }
         | [], n :: rest => { l with slots := freed, tx := .notice n, notices := rest }
         | [], [] => { l with slots := freed, tx := .idle })) ∧
  (∀ (report n : Notice) (l : ShowLink), l.wf = true →
    (l.notices.length < 32 → l.offer report n = { l with notices := l.notices ++ [n] }) ∧
    (l.notices.length = 32 → l.offer report n = { l with lost := min 255 (l.lost + 1) }) ∧ (l.offer report n).wf = true ∧
    ∀ (s : State) (m : Notice) (rest : List Notice), s.link = l → l.replies = [] → l.notices = m :: rest → 0 < l.lost →
      pick s = (s.modLink fun l => { l with
        tx := .notice m, notices := rest ++ [s.noticeOf (.noticesLost l.lost)], lost := 0 }).offerBlocks (.noticesLost l.lost)) ∧
  -- An event at the Show Link (R167 to R169)
  (∀ (e : Event) (s : State),
    let l := s.link
    let n := s.noticeOf e
    let report := s.noticeOf (.noticesLost l.lost)
    let atOnce := l.tx = .idle ∧ l.replies = [] ∧ ∀ x ∈ l.slots, x.taken = false
    let with_ := fun f : ShowLink → ShowLink => (s.modLink f).offerBlocks e
    (l.wants e = true ↔ (∃ cause, e = .started cause) ∨ (∃ count, e = .noticesLost count) ∨ l.mask.getLsbD e.cls.1 = true) ∧
    (l.wants e = false → (¬atOnce ∨ l.notices = []) → s.raise e = s.offerBlocks e) ∧
    (l.wants e = true → atOnce → l.notices = [] → l.lost = 0 → s.raise e = with_ fun l => { l with tx := .notice n }) ∧
    (l.wants e = true → ¬atOnce → l.notices.length < 32 → l.lost = 0 → s.raise e = with_ fun l => { l with notices := l.notices ++ [n] }) ∧
    (l.wants e = true → ¬atOnce → l.notices.length + 1 < 32 → 0 < l.lost → s.raise e = ((s.offerBlocks (.noticesLost l.lost)).modLink fun l =>
      { l with notices := l.notices ++ [report, n], lost := 0 }).offerBlocks e) ∧
    (l.wants e = true → ¬atOnce → l.notices.length = 31 → 0 < l.lost → s.raise e = ((s.offerBlocks (.noticesLost l.lost)).modLink fun l =>
      { l with notices := l.notices ++ [report], lost := 1 }).offerBlocks e) ∧
    (l.wants e = true → ¬atOnce → 32 ≤ l.notices.length → s.raise e = with_ fun l => { l with lost := min 255 (l.lost + 1) }) ∧
    e.cls = match e with
      | .townMinute _ | .townDay _ | .timeJumped _ _ | .clockLocked => 0
      | .fadeDone _ | .blinkDone _ => 1
      | .sectionEnter _ _ | .sectionLeave _ _ | .sectionFree _ | .straySeen _ | .routeReady _ _ | .routeFault _ _ | .pointSet _ _ => 2
      | .trainStopped _ _ | .trainHalted _ _ => 3
      | .axisDone _ | .axisIndex _ _ _ | .axisFault _ _ | .gateState _ _ => 4
      | .cueMark _ | .playerEnd _ | .playerFault _ _ | .playerDisplaced _ _ => 5
      | .inputEdge _ _ | .inputCount _ => 6
      | .railChange _ _ | .railDone _ | .overload _ | .dressing _ => 7
      | .frameReject _ | .noticesLost _ | .started _ => 8) ∧
  (∀ (r : Reply) (n : Notice) (s : State),
    let low := fun w x : Nat => (List.range w).map fun i => BitVec.ofNat 8 (x / 256 ^ i)
    let framed := fun (kind tag : Nat) (payload : List Byte) =>
      let covered := BitVec.ofNat 8 (payload.length + 2) :: BitVec.ofNat 8 kind :: BitVec.ofNat 8 tag :: payload
      0xC5#8 :: covered ++ [(crc16 covered >>> 8).truncate 8, (crc16 covered).truncate 8]
    let e := n.event
    r.bytes = framed r.kind r.tag (low 1 r.answer.code.code ++ low 1 (if r.answer.clamped then 1 else 0) ++ r.answer.data) ∧
    n.bytes = framed 0x7F 0 n.record ∧ n.record.length = 19 ∧
    n.record = low 1 e.code ++ low 2 (e.subject.getD 0) ++ low 4 (e.detail1 % 2 ^ 32).toNat ++ low 4 e.detail2 ++ low 4 n.stamp.toNat
      ++ low 4 n.townSeconds ∧
    s.noticeOf e = { event := e, stamp := s.clock.rt, townSeconds := s.clock.town / 1000, day := s.clock.day } ∧
    crc16 ((List.range 9).map fun i => BitVec.ofNat 8 (0x31 + i)) = 0x29B1) ∧
  (∀ e : Event, (e.code, e.subject, e.detail1, e.detail2) = match e with
    | .townMinute m => (0x01, some m, 0, 0) | .townDay day => (0x02, some day, 0, 0)
    | .timeJumped old new => (0x03, none, (old : Int), new) | .clockLocked => (0x04, none, 0, 0)
    | .fadeDone g => (0x10, some g.1, 0, 0) | .blinkDone g => (0x11, some g.1, 0, 0)
    | .sectionEnter x t => (0x20, some x.1, (t.1 : Int), 0) | .sectionLeave x t => (0x21, some x.1, (t.1 : Int), 0)
    | .sectionFree x => (0x22, some x.1, 0, 0) | .straySeen x => (0x23, some x.1, 0, 0)
    | .routeReady t x => (0x24, some t.1, (x.1 : Int), 0) | .routeFault t r => (0x25, some t.1, (r.code : Int), 0)
    | .pointSet p w => (0x26, some p.1, (w.code : Int), 0) | .trainStopped t r => (0x30, some t.1, (r.code : Int), 0)
    | .trainHalted t f => (0x31, some t.1, (f.code : Int), 0) | .axisDone a => (0x40, some a.1, 0, 0)
    | .axisIndex a error slip => (0x41, some a.1, error, if slip then 1 else 0) | .axisFault a c => (0x42, some a.1, (c.code : Int), 0)
    | .gateState c st => (0x43, some c.1, (st.code : Int), 0) | .cueMark v => (0x50, some v, 0, 0)
    | .playerEnd p => (0x51, some p.1, 0, 0) | .playerFault p c => (0x52, some p.1, (c.code : Int), 0)
    | .playerDisplaced p x => (0x53, some p.1, (x.1 : Int), 0) | .inputEdge i g => (0x60, some i.1, (g.code : Int), 0)
    | .inputCount i => (0x61, some i.1, 0, 0) | .railChange r up => (0x70, some r.code, if up then 1 else 0, 0)
    | .railDone q => (0x71, some q.code, 0, 0) | .overload phase => (0x72, some phase.code, 0, 0)
    | .dressing on => (0x73, some (if on then 1 else 0), 0, 0) | .frameReject r => (0x78, some r.code, 0, 0)
    | .noticesLost count => (0x79, some count, 0, 0) | .started cause => (0x7A, some cause.code, 0, 0)) ∧
  ∀ c : ResultCode, c.code = match c with
    | .ok => 0 | .accepted => 1 | .unknownKind => 2 | .badLength => 3 | .outOfRange => 4 | .wrongState => 5
    | .notAdjacent => 6 | .inUse => 7 | .interlocked => 9 | .busy => 10 | .invalid => 11

/-- A start (R170): power-on, the reset pin and a COLD reset at the end of its own reply give every block its power-on values,
whatever the state, and leave the input pins and the waiting commands to the outside; STARTED with its cause is the first
notice, and the transmitter has picked it (R167). That the pins and the waiting commands are kept is log entry 12, and that the
transmitter holds STARTED already is log entry 7 (DEDUCED): both are the model's. -/
def Obligations.StartsAnew : Prop :=
  (∀ s : State,
     exec .powerOn s = .next { State.reset with pins := s.pins, pending := s.pending } ∧
     exec .resetPin s = .next { State.reset with
       pins := s.pins, pending := s.pending
       link := { State.reset.link with tx := .notice { event := .started .resetPin, stamp := 0, townSeconds := 43200, day := 0 } } }) ∧
  ∀ (r : Reply) (s : State), s.work.isClear = true → s.link.tx = .reply r → r.origin = .reset .cold →
    exec .transmitFrameEnd s = .next { State.reset with
      pins := s.pins, pending := s.pending
      link := { State.reset.link with tx := .notice { event := .started .coldRequest, stamp := 0, townSeconds := 43200, day := 0 } } }

/-- A WARM reset (R170) takes effect at the end of its RESET's own reply: the request's slot is freed, every block applies its
WARM reset and what follows from it happens, and only then the transmitter has ended its frame and picks its next one, and the
requests that waited are taken. What it leaves of the blocks' records (R19, R24, R68, R74, R85, R121, R129, R142, R146, R149,
R150, R154, R155, R161, R168): the clock, the supply, the definitions and the pins are kept; every player is IDLE with its
priority and no target has a holder; every PENDING section is released, but for the first of a train that holds nothing else,
which goes back to RESERVED, every other section keeps its state, no train waits, no throw is queued and a pulse goes on; trains
stand where they stood with stop reason REQUEST; axes stand where they stood with their direction, goal, configuration and
travel since index (log entry 55), a HELD one still HELD, one in FAULT UNHOMED, and a GATE axis carries a kept goal out at its
next update (a crossing whose open delay is 0 may command its gate open at the release of a PENDING member, log entry 35); every
counter is reloaded; and no event but GATE_STATE is raised. The order of the blocks is log entry 3, the taking of the waiting
requests after the pick is log entry 7, and a pulse that serves no ended grant is log entry 40. -/
def Obligations.WarmResetKeeps : Prop :=
  (∀ (r : Reply) (s : State), s.work.isClear = true → s.link.tx = .reply r → r.origin = .reset .warm →
     exec .transmitFrameEnd s = .next (finish (takeAll (settle (kick ((settle (warmReset (s.modLink fun l =>
       { l with slots := freeTaken l.slots, resetWaiting := none }))).modLink fun l => { l with tx := .idle })))))) ∧
  ∀ s : State,
    let t := warmReset s
    t.clock = s.clock ∧ t.supply = s.supply ∧ t.pins = s.pins ∧ t.link.mask = s.link.mask ∧ t.link.slots = s.link.slots ∧
      t.link.replies = s.link.replies ∧ t.link.rx = s.link.rx ∧
      t.track.config = s.track.config ∧ t.track.defs = s.track.defs ∧ t.track.points = s.track.points ∧
      t.track.crossings = s.track.crossings ∧ t.track.detectors = s.track.detectors ∧ t.track.queue = [] ∧
      (∀ p w ms serves, s.track.unit_ = .pulsing p w ms serves → ∃ serves', t.track.unit_ = .pulsing p w ms serves') ∧
      ((∀ p w ms serves, s.track.unit_ ≠ .pulsing p w ms serves) → t.track.unit_ = s.track.unit_) ∧
      (∀ x, (t.track.runs.get x).waiting = []) ∧ (∀ x, (∀ k, s.sec x ≠ .pending k) → t.sec x = s.sec x) ∧
      (∀ k, let names := (s.heldOf k).map Prod.fst
        let kept := fun x => (∀ y ∈ names, s.sec y = .pending k) ∧ names.head? = some x
        names.Nodup →
          (∀ x ∈ names, s.sec x = .pending k → (kept x → t.sec x = .reserved k) ∧
            (¬kept x → t.sec x = .clearing (s.track.defs.get x).clearance)) ∧
          (∀ e, e ∈ t.heldOf k ↔ e ∈ s.heldOf k ∧ (s.sec e.1 = .pending k → kept e.1)) ∧ (t.heldOf k).Sublist (s.heldOf k)) ∧
      t.light.channels = s.light.channels ∧ t.light.gammas = s.light.gammas ∧ t.light.pwm = s.light.pwm ∧
      (∀ g, t.light.groups.get g = { s.light.groups.get g with level := (s.light.groups.get g).levelNow, fade := none }) ∧
      (∀ p, t.cue.players.get p = Player.initial (s.cue.players.get p).priority) ∧ (∀ x, t.cue.holders.get x = none) ∧
      t.cue.lists = s.cue.lists ∧
      (∀ k, let x := s.trains.get k
        let y := t.trains.get k
        y.speed = 0 ∧ y.requested = 0 ∧ y.queue = [] ∧ y.halt = none ∧ y.claim = .none ∧ y.routeEnd = none ∧ y.placed = x.placed ∧
          y.stop = (if x.placed = true then .request else .none) ∧ y.state = (if x.placed = true then .standing else .unplaced) ∧
          y.maxSpeed = x.maxSpeed ∧ y.accel = x.accel ∧ y.decel = x.decel ∧ y.mode = x.mode) ∧
      (∀ a, let x := s.axes.get a
        let y := t.axes.get a
        y.v = 0 ∧ y.f = 0 ∧ y.pos = x.pos ∧ y.homed = x.homed ∧ y.motion = .none ∧ y.phase = .cruise ∧ y.travel = x.travel ∧
          y.armed = x.armed ∧ y.indexRun = 0 ∧ y.homeRun = 0 ∧ y.homeTravel = 0 ∧
          (x.state = .held → y.state = .held ∧ y.fault = x.fault) ∧ (x.state = .fault → y.state = .unhomed ∧ y.fault = none) ∧
          (x.state = .moving ∨ x.state = .homing → y.state = if x.homed = true then .idle else .unhomed) ∧
          (x.kind ≠ .gate ∨ (∀ c d k, (s.track.crossings.get c).defn = some d → d.axis = a → s.track.couplings.get c = some k →
              0 < (s.track.crossings.get c).openDelay ∧ k.demand = demandOf s d.members) →
            y = { x with
              v := 0, f := 0, motion := .none, phase := .cruise, met := false, indexRun := 0, homeRun := 0, homeTravel := 0, state := y.state
              fault := y.fault, reported := y.reported, resume := decide (x.kind = .gate ∧ x.goal ≠ .none) } ∧
            ∀ u : State, u.axes.get a = y → x.kind = .gate →
              let due := ((u.modSched fun d => { d with axes := d.axes &&& ~~~(1#8 <<< a.1) }).modAxis a fun k =>
                { k with resume := false }).modOuts fun o => { o with pulses := o.pulses.set a 0 }
              (x.goal = .open_ → updateAxis a u = gateCommand a .open_ due) ∧ (x.goal = .closed → updateAxis a u = gateCommand a .close due))) ∧
      (∀ i, (t.trig.counters.get i).count = (s.trig.counters.get i).reload) ∧ t.trig.aux = s.trig.aux ∧ t.trig.triggers = s.trig.triggers ∧
      ∀ e ∈ t.work.events, e ∈ s.work.events ∨ (∃ c st, e = .gateState c st) ∨ ∃ n, e = .noticesLost n

/-- The receiver (R164) byte by byte, with no request waiting to be taken: a lead byte begins a frame and any other byte is
discarded; the length is kept or the frame is discarded with reason LENGTH; a late byte discards the frame in progress with reason
GAP and is handled as in HUNTING; a frame whose check does not match is discarded with reason CHECK. -/
def Obligations.ReceiverByte : Prop :=
  ∀ (b gap : Nat) (s : State), b < 256 → s.work.isClear = true → s.link.slots.all Slot.taken = true →
    let rx := fun (x : Receiver) => State.modLink fun l => { l with rx := x }
    let hunt := if b = 0xC5 then Receiver.atLength else .hunting
    (s.link.rx = .hunting → exec (.receiveByte b gap) s = .next (finish (rx hunt s))) ∧
    (s.link.rx = .atLength → gap ≤ 5000 → 2 ≤ b → b ≤ 250 → exec (.receiveByte b gap) s = .next (finish (rx (.inFrame b []) s))) ∧
    (s.link.rx = .atLength → gap ≤ 5000 → (b < 2 ∨ 250 < b) →
      exec (.receiveByte b gap) s = .next (finish (settle ((rx .hunting s).raise (.frameReject .length))))) ∧
    (s.link.rx ≠ .hunting → 5000 < gap →
      exec (.receiveByte b gap) s = .next (finish (settle (rx hunt ((rx .hunting s).raise (.frameReject .gap)))))) ∧
    ∀ (n : Nat) (got : List Byte), s.link.rx = .inFrame n got → gap ≤ 5000 →
      (got.length + 1 < n + 2 → exec (.receiveByte b gap) s = .next (finish (rx (.inFrame n (got ++ [BitVec.ofNat 8 b])) s))) ∧
      (n + 2 ≤ got.length + 1 → checkMatches n (got ++ [BitVec.ofNat 8 b]) = false →
        exec (.receiveByte b gap) s = .next (finish (settle ((rx .hunting s).raise (.frameReject .check)))))

/-- A request's bytes are its command (R163 to R166, R173, R175, R176): receiving the frame of a well-formed request byte by byte, with
no gap above 5 ms, from a HUNTING receiver, ends in the very state in which the request's command ends. -/
def Obligations.BytesAreTheRequest : Prop :=
  ∀ (c : Instr) (tag : Nat) (r : Request) (gaps : List Nat) (s : State),
    c.request = some (tag, r) → c.wellFormed = true → s.ready = true → s.link.rx = .hunting → s.link.atRest = true →
    gaps.length = (requestPayload r).length + 6 → (∀ g ∈ gaps, g ≤ 5000) →
      receiveAll ((frameBytes (requestKind r) tag ((requestPayload r).map (BitVec.ofNat 8))).zip gaps) s = exec c s

/-- Decode and encode agree for every request (R172, R175, R176, R178, R179): the payload of a well-formed request, read by its kind, is
that request, with every field at every value it admits. -/
def Obligations.PayloadRoundTrip : Prop :=
  ∀ r : Request, r.wellFormed = true → parseRequest (requestKind r) (requestPayload r) = .request r

/-! ## The Town Clock -/

/-- CLOCK_SET_RATE (R3, R4): a failing setting is named, in the order P, M, Q, stage condition, glide rate; otherwise the settings are
stored, A becomes 0, and the glide rate is kept when the request carries none. CLOCK_HOLD (R6) makes any state HELD and keeps the
glide record; CLOCK_RUN (R7) turns HELD to GLIDE when a glide is suspended and to RUN when none is, and changes nothing in RUN and
in GLIDE. -/
def Obligations.ClockSettings : Prop :=
  (∀ (tag p m q : Nat) (glide : Option Nat) (s : State), s.ready = true →
     exec (.clockSetRate tag p m q glide) s = .next (
       let r : Request := .clockSetRate p m q glide
       if p < 1 ∨ 16 < p then s.served tag r id (refuseAt .outOfRange 0 0 0)
       else if m < 1 ∨ 4095 < m then s.served tag r id (refuseAt .outOfRange 1 0 0)
       else if ¬(q = 1 ∨ q = 2 ∨ q = 4 ∨ q = 8) then s.served tag r id (refuseAt .outOfRange 2 0 0)
       else if ¬(p ≤ m ∧ m ≤ 256 * p) then s.served tag r id (refuseAt .outOfRange 3 0 0)
       else if glide.any (fun g => g < 1 || 4096 < g) then s.served tag r id (refuseAt .outOfRange 4 0 0)
       else s.served tag r
         (State.modClock fun c => { c with p := p, m := m, q := q, acc := 0, glideRate := glide.getD c.glideRate })
         (okWith (dat 1 p ++ dat 2 m ++ dat 1 q ++ dat 2 (glide.getD s.clock.glideRate))))) ∧
  ∀ (tag : Nat) (s : State), s.ready = true →
    exec (.clockHold tag) s = .next (s.served tag .clockHold (State.modClock fun c => { c with state := .held }) okay) ∧
    (s.clock.state = .held → s.clock.target = none →
      exec (.clockRun tag) s = .next (s.served tag .clockRun (State.modClock fun c => { c with state := .run }) okay)) ∧
    (s.clock.state = .held → s.clock.target.isSome = true →
      exec (.clockRun tag) s = .next (s.served tag .clockRun (State.modClock fun c => { c with state := .glide }) okay)) ∧
    (s.clock.state ≠ .held → exec (.clockRun tag) s = .next (s.served tag .clockRun id okay))

/-- CLOCK_SET_TIME (R8, R9, R10, R12): a target beyond the town day or another mode is refused; a JUMP (0) sets the town time, drops the
glide record with a glide ending, and raises TIME_JUMPED; a GLIDE (1) is refused while HELD, locks at once at distance 0, and
otherwise takes the target. -/
def Obligations.ClockSetTime : Prop :=
  ∀ (tag target mode : Nat) (s : State), s.ready = true →
    let r : Request := .clockSetTime target mode
    let ended := fun s : State => if s.clock.target.isSome then s.handEnding .glide else s
    (86399999 < target ∨ 2 ≤ mode → exec (.clockSetTime tag target mode) s = .next (s.served tag r id (refuse .outOfRange))) ∧
    (target ≤ 86399999 → mode = 0 →
      exec (.clockSetTime tag target mode) s = .next (s.served tag r (fun s =>
        ((ended s).modClock fun c =>
          { c with town := target, target := none, state := if c.state = .held then .held else .run }).raise
            (.timeJumped s.clock.town target)) okay)) ∧
    (target ≤ 86399999 → mode = 1 → s.clock.state = .held →
      exec (.clockSetTime tag target mode) s = .next (s.served tag r id (refuse .wrongState))) ∧
    (target ≤ 86399999 → mode = 1 → s.clock.state ≠ .held → (target + 86400000 - s.clock.town) % 86400000 = 0 →
      exec (.clockSetTime tag target mode) s = .next (s.served tag r (fun s =>
        ((ended s).modClock fun c => { c with target := none, state := .run }).raise .clockLocked) okay)) ∧
    (target ≤ 86399999 → mode = 1 → s.clock.state ≠ .held → (target + 86400000 - s.clock.town) % 86400000 ≠ 0 →
      exec (.clockSetTime tag target mode) s = .next (s.served tag r (fun s =>
        (ended s).modClock fun c => { c with target := some target, state := .glide }) taken))

/-- The clock record after a real millisecond's advance (R5, R6, R11, R15): in RUN through the accumulator; in GLIDE by the smaller of
the glide rate and the distance, without the accumulator, arriving when the advance is the whole distance; in HELD as it was. -/
def Obligations.ClockAdvance : Prop :=
  ∀ s : State, s.clock.wf = true →
    let c := s.clock
    let t := advanceClock s
    (c.state = .held → t = s) ∧
    (c.state = .run →
      let d := (c.acc + c.m) / (c.p * c.q)
      t.clock.town = (c.town + d) % 86400000 ∧ t.clock.acc = (c.acc + c.m) % (c.p * c.q) ∧ t.clock.rem = (c.rem + d) % 1000 ∧
        t.clock.state = .run ∧ t.clock.target = none ∧ d ≤ 256) ∧
    (∀ target, c.state = .glide → c.target = some target →
      let far := (target + 86400000 - c.town) % 86400000
      let d := min c.glideRate far
      t.clock.town = (c.town + d) % 86400000 ∧ t.clock.acc = c.acc ∧ t.clock.rem = (c.rem + d) % 1000 ∧
        (c.glideRate < far → t.clock.state = .glide ∧ t.clock.target = some target) ∧
        (far ≤ c.glideRate → t.clock.state = .run ∧ t.clock.target = none ∧ t.clock.town = target)) ∧
    t.clock.rt = c.rt ∧ t.clock.p = c.p ∧ t.clock.m = c.m ∧ t.clock.q = c.q ∧ t.clock.glideRate = c.glideRate

/-- The minute boundaries an advance passes (R13): exactly the whole multiples of 60,000 in t < b ≤ t + d, in the order they are
passed. One boundary passed (R13, R14): TOWN_MINUTE of the minute that begins there; at midnight TOWN_MINUTE(0), then the day
count moves by one, 65,535 to 0, then TOWN_DAY of the new count. A whole advance (R5, R11, R13, R15): town time, the accumulator
and the second remainder move, the boundaries passed are raised in order, a glide that has covered its distance ends with
CLOCK_LOCKED, and the whole seconds carried over are handed to the TOWN fades, in ascending group index (log entry 58), and then
to the TOWN_SECONDS waits; nothing is handed out at 0. That the events come before the hand-out is log entry 38. -/
def Obligations.MinutesPassed : Prop :=
  (∀ t d : Nat, (∀ b, b ∈ boundaries t d ↔ (b % 60000 = 0 ∧ t < b ∧ b ≤ t + d)) ∧ (boundaries t d).Pairwise (· < ·)) ∧
  (∀ (b : Nat) (s : State),
    (b < 86400000 → passBoundary b s = s.raise (.townMinute (b / 60000))) ∧
    (b = 86400000 → passBoundary b s =
      ((s.raise (.townMinute 0)).modClock fun c => { c with day := (s.clock.day + 1) % 65536 }).raise (.townDay ((s.clock.day + 1) % 65536)))) ∧
  (∀ s : State, s.clock.wf = true →
     let c := s.clock
     let given := fun (n : Nat) (s : State) => if n = 0 then s
       else (forEach (indices 32) (advanceFade .town n) s).modCue fun k => { k with players := k.players.map (Player.countTown n) }
     let passed := fun (d acc : Nat) => forEach (boundaries c.town d) passBoundary (s.modClock fun c =>
       { c with town := (c.town + d) % 86400000, acc := acc, rem := (c.rem + d) % 1000 })
     (c.state = .run →
       let d := (c.acc + c.m) / (c.p * c.q)
       advanceClock s = given ((c.rem + d) / 1000) (passed d ((c.acc + c.m) % (c.p * c.q)))) ∧
     ∀ target, c.state = .glide → c.target = some target →
       let far := (target + 86400000 - c.town) % 86400000
       (c.glideRate < far → advanceClock s = given ((c.rem + c.glideRate) / 1000) (passed c.glideRate c.acc)) ∧
       (far ≤ c.glideRate → advanceClock s = given ((c.rem + far) / 1000)
         (((passed far c.acc).modClock fun c => { c with target := none, state := .run }).raise .clockLocked))) ∧
  ∀ (n : Nat) (p : Player),
    (∀ left since, p.state = .waiting → p.wait = some { kind := .townSeconds left, since := since } →
      p.countTown n = { p with wait := some { kind := .townSeconds (left - n), since := since } }) ∧
    (p.state ≠ .waiting ∨ (∀ left since, p.wait ≠ some { kind := .townSeconds left, since := since }) → p.countTown n = p)

/-- A real millisecond (R1, R5; log entry 2, the model's choice, for what comes first): what the present one still owes is taken,
then the counts move and the clock advances. The row GLIDE_ARRIVAL is the real millisecond in which the glide arrives (R11), and
nothing when none does. The counts: the real-time count moves by one, wrapping at 32 bits, and the periodic steps of the new
millisecond are marked, the light frame at multiples of 10 (R18), the detectors at even counts (R66), the axes and the other
samples at each (R107, R144, R159, R161); the lamps, the axes, the Show Link and the pins are as they were. Each countdown in real
milliseconds falls by one: a CLEARING section's clearance (R73), the pulse and the recharge (R75), a crossing's open delay and a
running gate timeout (R77), the sequencer's delay (R157), the end timer and the quiet timer (R159, R160), and a WAITING player's
REAL_MS wait or EVENT timeout (R130). A train on a ramp counts its timer, and its step is due at the interval (R96). The triggers'
applied marks go (R152). Nothing else of these blocks moves. -/
def Obligations.RealMillisecond : Prop :=
  (∀ s : State, s.work.isClear = true →
     exec .realMillisecond s = .next (finish (advanceClock (countMs (flush s)))) ∧
     (countMs (flush s)).clock = { (flush s).clock with rt := (flush s).clock.rt + 1 } ∧
     ((flush s).clock.arrives = true → exec .glideArrival s = .next (finish (advanceClock (countMs (flush s))))) ∧
     ((flush s).clock.arrives = false → exec .glideArrival s = .next s)) ∧
  (∀ s : State,
    let n := (countMs s).clock.rt.toNat
    n = (s.clock.rt.toNat + 1) % 4294967296 ∧ (countMs s).sched.light = (n % 10 == 0) ∧
      (∀ x : Fin 48, (countMs s).sched.detect.getLsbD x.1 = (n % 2 == 0)) ∧
      (∀ a : Fin 8, (countMs s).sched.axes.getLsbD a.1 = true) ∧ (∀ i : Fin 8, (countMs s).sched.inputs.getLsbD i.1 = true) ∧
      (countMs s).sched.overload = true ∧ (countMs s).sched.key = true ∧
      (countMs s).light = s.light ∧ (countMs s).axes = s.axes ∧ (countMs s).link = s.link ∧ (countMs s).pins = s.pins) ∧
  ∀ s : State,
    let t := countMs s
    (∀ x ms, s.sec x = .clearing ms → t.track.runs.get x = { s.track.runs.get x with state := .clearing (ms - 1) }) ∧
    (∀ x, (∀ ms, s.sec x ≠ .clearing ms) → t.track.runs.get x = s.track.runs.get x) ∧
    (t.track.unit_ = match s.track.unit_ with
      | .pulsing p w ms serves => .pulsing p w (ms - 1) serves | .recharging ms => .recharging (ms - 1) | .ready => .ready) ∧
    (∀ c, t.track.couplings.get c = (s.track.couplings.get c).map fun k =>
      { k with openDelay := k.openDelay.map fun ms => ms - 1
               timeout := match k.timeout with | .running ms => .running (ms - 1) | left => left }) ∧
    t.track = { s.track with runs := t.track.runs, unit_ := t.track.unit_, couplings := t.track.couplings } ∧
    t.supply = { s.supply with
      seq := (match s.supply.seq with | .active q i ms => .active q i (ms - 1) | .idle => .idle)
      endTimer := s.supply.endTimer.map fun ms => ms - 1, quiet := s.supply.quiet.map fun ms => ms - 1 } ∧
    (∀ k, t.trains.get k =
      let x := s.trains.get k
      let n := min 255 (x.timer + 1)
      if x.dir = .level then x else { x with timer := n, stepDue := decide ((if x.dir = .up then x.accel else x.decel) ≤ n) }) ∧
    (∀ p, let x := s.cue.players.get p
      (∀ n since, x.state = .waiting → x.wait = some { kind := .realMs n, since := since } →
        t.cue.players.get p = { x with wait := some { kind := .realMs (n - 1), since := since } }) ∧
      (∀ spec given n since, x.state = .waiting → x.wait = some { kind := .event spec (some (given, n)), since := since } →
        t.cue.players.get p = { x with wait := some { kind := .event spec (some (given, n - 1)), since := since } }) ∧
      (x.state ≠ .waiting ∨ ((∀ n since, x.wait ≠ some { kind := .realMs n, since := since }) ∧
        ∀ spec left since, x.wait ≠ some { kind := .event spec (some left), since := since }) → t.cue.players.get p = x)) ∧
    t.cue = { s.cue with players := t.cue.players } ∧
    (∀ k, t.trig.triggers.get k = { s.trig.triggers.get k with applied := false }) ∧ t.trig = { s.trig with triggers := t.trig.triggers }

/-! ## The Light Engine -/

/-- GROUP_SET_MODE (R20) and GROUP_CONFIG (R22): the fields are stored; CURVE without a curve is refused with WRONG_STATE. GROUP_SET_BLINK
(R25; the words' numbers are log entry 6): OFF turns the generator off; a setting restarts it in phase ON with the counter at
on-frames − 1, counts of 0 clamped to 1. An index or word beyond its list is refused with OUT_OF_RANGE. -/
def Obligations.GroupSettings : Prop :=
  (∀ (tag : Nat) (g : Fin 32) (m : GroupMode) (w : Rounding) (table : Fin 4) (s : State), s.ready = true →
     ((m = .curve → (s.light.groups.get g).curve ≠ []) →
       exec (.groupSetMode tag g.1 m.code) s =
         .next (s.served tag (.groupSetMode g.1 m.code) (State.modGroup g fun r => { r with mode := m }) okay)) ∧
     ((s.light.groups.get g).curve = [] →
       exec (.groupSetMode tag g.1 0) s = .next (s.served tag (.groupSetMode g.1 0) id (refuse .wrongState))) ∧
     exec (.groupConfig tag g.1 w.code table.1) s =
       .next (s.served tag (.groupConfig g.1 w.code table.1) (State.modGroup g fun r => { r with rounding := w, gamma := table }) okay) ∧
     (∀ group mode, 31 < group ∨ 2 < mode →
       exec (.groupSetMode tag group mode) s = .next (s.served tag (.groupSetMode group mode) id (refuse .outOfRange))) ∧
     ∀ group word index, 31 < group ∨ 3 < word ∨ 3 < index →
       exec (.groupConfig tag group word index) s = .next (s.served tag (.groupConfig group word index) id (refuse .outOfRange))) ∧
  ∀ (tag : Nat) (g : Fin 32) (on off burst : Nat) (s : State), s.ready = true →
    exec (.groupSetBlink tag g.1 0 on off burst) s =
      .next (s.served tag (.groupSetBlink g.1 0 on off burst) (State.modGroup g fun x => { x with blink := none }) okay) ∧
    exec (.groupSetBlink tag g.1 1 on off burst) s =
      .next (s.served tag (.groupSetBlink g.1 1 on off burst) (State.modGroup g fun x => { x with
        blink := some { onFrames := max 1 on, offFrames := max 1 off, burst := burst, phaseOn := true, counter := max 1 on - 1 } })
        { code := .ok, clamped := decide (on = 0) || decide (off = 0), data := [] }) ∧
    ∀ group form, 31 < group ∨ 1 < form →
      exec (.groupSetBlink tag group form on off burst) s =
        .next (s.served tag (.groupSetBlink group form on off burst) id (refuse .outOfRange))

/-- GROUP_SET_CURVE (R21): points in range with rising minutes replace the curve, levels clamped to 4095; no point at all makes
it absent, unless the group is in CURVE mode; the first point whose minute lies above 1439, or the first that does not rise, is
named (the first of several: log entry 57), and a group above 31 or a count that is none is refused (the details' numbers are
log entry 31). GAMMA_WRITE (R27): entries within 0 to 1023 that never fall replace the table; the first entry out of range (log
entry 57), or the first that falls, is named. -/
def Obligations.CurveAndGammaWrites : Prop :=
  (∀ (tag : Nat) (g : Fin 32) (points : List (Nat × Nat)) (s : State), s.ready = true →
     let r : Request := .groupSetCurve g.1 points
     (points.length ≠ 1 → points.length ≤ 16 → (∀ x ∈ points, x.1 ≤ 1439) → points.Pairwise (fun a b => a.1 < b.1) →
       (points = [] → (s.light.groups.get g).mode ≠ .curve) →
       exec (.groupSetCurve tag g.1 points) s = .next (s.served tag r
         (State.modGroup g fun x => { x with curve := points.map fun p => (p.1, min 4095 p.2) })
         (okay.clampedBy (points.any fun p => 4095 < p.2)))) ∧
     (points.length = 1 ∨ 16 < points.length →
       exec (.groupSetCurve tag g.1 points) s = .next (s.served tag r id (refuse .outOfRange))) ∧
     (points = [] → (s.light.groups.get g).mode = .curve →
       exec (.groupSetCurve tag g.1 points) s = .next (s.served tag r id (refuse .wrongState))) ∧
     (∀ before x after, points = before ++ x :: after → points.length ≠ 1 → points.length ≤ 16 → (∀ y ∈ before, y.1 ≤ 1439) → 1439 < x.1 →
       exec (.groupSetCurve tag g.1 points) s = .next (s.served tag r id (refuseAt .outOfRange 2 before.length 0))) ∧
     (∀ group, 31 < group →
       exec (.groupSetCurve tag group points) s = .next (s.served tag (.groupSetCurve group points) id (refuse .outOfRange))) ∧
     ∀ (before after : List (Nat × Nat)) (a b : Nat × Nat),
       points = before ++ a :: b :: after → points.length ≤ 16 → (∀ x ∈ points, x.1 ≤ 1439) →
       (before ++ [a]).Pairwise (fun a b => a.1 < b.1) → b.1 ≤ a.1 →
         exec (.groupSetCurve tag g.1 points) s = .next (s.served tag r id (refuseAt .invalid 3 (before.length + 1) 0))) ∧
  ∀ (tag : Nat) (t : Fin 4) (entries : List Nat) (s : State), s.ready = true →
    let r : Request := .gammaWrite t.1 entries
    ((∀ x ∈ entries, x ≤ 1023) → entries.Pairwise (· ≤ ·) →
      exec (.gammaWrite tag t.1 entries) s =
        .next (s.served tag r (State.modLight fun l => { l with gammas := l.gammas.set t entries }) okay)) ∧
    (∀ (before after : List Nat) (a b : Nat), entries = before ++ a :: b :: after → (∀ x ∈ entries, x ≤ 1023) →
      (before ++ [a]).Pairwise (· ≤ ·) → b < a →
      exec (.gammaWrite tag t.1 entries) s = .next (s.served tag r id (refuseAt .invalid 2 (before.length + 1) 0))) ∧
    (∀ (before after : List Nat) (a : Nat), entries = before ++ a :: after → (∀ x ∈ before, x ≤ 1023) → 1023 < a →
      exec (.gammaWrite tag t.1 entries) s = .next (s.served tag r id (refuseAt .outOfRange 1 before.length 0))) ∧
    ∀ table, 3 < table → exec (.gammaWrite tag table entries) s = .next (s.served tag (.gammaWrite table entries) id (refuse .outOfRange))

/-- GROUP_SET_LEVEL (R23, R24): a fade in flight is handed over as ended; with duration 0 the level is taken at once and FADE_DONE
raised; otherwise the fade starts from the level the group stands at. -/
def Obligations.GroupSetLevel : Prop :=
  ∀ (tag : Nat) (g : Fin 32) (level duration : Nat) (b : FadeBase) (s : State), s.ready = true →
    let r : Request := .groupSetLevel g.1 level duration b.code
    let ended := fun s : State => if (s.light.groups.get g).fade.isSome then s.handEnding (.fade g) else s
    (duration = 0 → exec (.groupSetLevel tag g.1 level duration b.code) s = .next (s.served tag r (fun s =>
      ((ended s).modGroup g fun x => { x with level := min 4095 level, fade := none }).raise (.fadeDone g))
      { code := .ok, clamped := decide (4095 < level), data := [] })) ∧
    (0 < duration → exec (.groupSetLevel tag g.1 level duration b.code) s = .next (s.served tag r (fun s =>
      (ended s).modGroup g fun x => { x with
        fade := some { fromLevel := x.levelNow, toLevel := min 4095 level, duration := duration, elapsed := 0, base := b } })
      { code := .accepted, clamped := decide (4095 < level), data := [] })) ∧
    ∀ group base, 31 < group ∨ 1 < base →
      exec (.groupSetLevel tag group level duration base) s =
        .next (s.served tag (.groupSetLevel group level duration base) id (refuse .outOfRange))

/-- CHANNEL_CONFIG (R29; the fields' numbers are log entry 31): the fields are stored, the trim, the warm frames and the
restrike frames clamped, and the lamp is COLD unless the channel stays SODIUM; the first field that is none of its range is
named. The output places (R28, R33, R34): a channel without a place is mapped to a PWM output, and one the output carries
already changes nothing; a channel mapped elsewhere is refused with its place; a chain's length and a segment are stored, unless
another segment maps a position of it or a channel of it has a place; a segment is cleared; and an output, a channel, a segment,
a chain, a count or a run beyond its range is refused. The clashes of SEGMENT_SET: the lowest position of the run that another
segment of the chain maps, with that segment, the lowest where several do; else the lowest channel of the run that a PWM output
or another segment carries. The numbers of the details are log entry 31, and which clashing segment IN_USE names is log entry
16. -/
def Obligations.ChannelsAndPlaces : Prop :=
  (∀ (tag : Nat) (c : Fin 512) (g : Fin 32) (kind : Nat) (trim : Int) (bind : RawBinding) (warm restrike : Nat) (s : State), s.ready = true →
     let r : Request := .channelConfig c.1 g.1 kind trim bind warm restrike
     let store := fun k : ChannelKind => State.modChannel c fun x =>
       { x with group := g, kind := k, trim := max (-512) (min 511 trim), warmFrames := min 1000 warm, restrikeFrames := min 1000 restrike
                sodium := if x.kind = .sodium ∧ k = .sodium then x.sodium else .cold }
     let reply : Answer :=
       { code := .ok, clamped := decide (trim < -512) || decide (511 < trim) || decide (1000 < warm) || decide (1000 < restrike), data := [] }
     (kind = 0 → exec (.channelConfig tag c.1 g.1 kind trim bind warm restrike) s = .next (s.served tag r (store .plain) reply)) ∧
     (kind = 1 → exec (.channelConfig tag c.1 g.1 kind trim bind warm restrike) s = .next (s.served tag r (store .sodium) reply)) ∧
     (∀ (x : Fin 48) (a : Aspect), kind = 2 → bind.item = x.1 → bind.aspect = a.code →
       exec (.channelConfig tag c.1 g.1 kind trim bind warm restrike) s = .next (s.served tag r (store (.signal x a)) reply)) ∧
     (∀ a : Fin 8, kind = 3 → bind.item = a.1 → 0 < bind.width →
       exec (.channelConfig tag c.1 g.1 kind trim bind warm restrike) s =
         .next (s.served tag r (store (.chase a bind.start bind.width)) reply)) ∧
     (∀ x : Fin 4, kind = 4 → bind.item = x.1 →
       exec (.channelConfig tag c.1 g.1 kind trim bind warm restrike) s = .next (s.served tag r (store (.gate x)) reply)) ∧
     (let fails := fun n : Nat =>
        exec (.channelConfig tag c.1 g.1 kind trim bind warm restrike) s = .next (s.served tag r id (refuseAt .outOfRange n 0 0))
      (kind = 2 → (47 < bind.item → fails 3) ∧ (bind.item ≤ 47 → 2 < bind.aspect → fails 4)) ∧
      (kind = 3 → (7 < bind.item → fails 5) ∧ (bind.item ≤ 7 → bind.width = 0 → fails 6)) ∧ (kind = 4 → 3 < bind.item → fails 7)) ∧
     (4 < kind → exec (.channelConfig tag c.1 g.1 kind trim bind warm restrike) s =
       .next (s.served tag r id (refuseAt .outOfRange 2 0 0))) ∧
     ∀ channel group, 511 < channel ∨ 31 < group →
       exec (.channelConfig tag channel group kind trim bind warm restrike) s =
         .next (s.served tag (.channelConfig channel group kind trim bind warm restrike) id
           (refuseAt .outOfRange (if 511 < channel then 0 else 1) 0 0))) ∧
  ∀ (tag : Nat) (o : Fin 16) (c : Fin 512) (k : Fin 4) (s : State), s.ready = true →
    (s.light.placeOf c.1 = .none →
      exec (.pwmMap tag o.1 (some c.1)) s =
        .next (s.served tag (.pwmMap o.1 (some c.1)) (State.modLight fun l => { l with pwm := l.pwm.set o (some c) }) okay)) ∧
    (∀ o' : Fin 16, o' ≠ o → s.light.placeOf c.1 = .pwm o' →
      exec (.pwmMap tag o.1 (some c.1)) s = .next (s.served tag (.pwmMap o.1 (some c.1)) id (refuseAt .inUse 0 o'.1 0))) ∧
    (∀ i n, s.light.placeOf c.1 = .chain i n →
      exec (.pwmMap tag o.1 (some c.1)) s = .next (s.served tag (.pwmMap o.1 (some c.1)) id (refuseAt .inUse 1 i.1 0))) ∧
    (s.light.placeOf c.1 = .pwm o → exec (.pwmMap tag o.1 (some c.1)) s = .next (s.served tag (.pwmMap o.1 (some c.1)) id okay)) ∧
    (∀ output channel, 15 < output ∨ (∃ n, channel = some n ∧ 511 < n) →
      exec (.pwmMap tag output channel) s = .next (s.served tag (.pwmMap output channel) id (refuse .outOfRange))) ∧
    (∀ seg chain first count channel, 15 < seg ∨ 3 < chain ∨ count < 1 ∨ 128 < count ∨ 128 < first + count ∨ 512 < channel + count →
      exec (.segmentSet tag seg chain first count channel) s =
        .next (s.served tag (.segmentSet seg chain first count channel) id (refuse .outOfRange))) ∧
    (∀ seg, 15 < seg → exec (.segmentClear tag seg) s = .next (s.served tag (.segmentClear seg) id (refuse .outOfRange))) ∧
    exec (.pwmMap tag o.1 none) s = .next (s.served tag (.pwmMap o.1 none) (State.modLight fun l => { l with pwm := l.pwm.set o none }) okay) ∧
    (∀ n, n ≤ 128 → exec (.chainLength tag k.1 n) s =
      .next (s.served tag (.chainLength k.1 n) (State.modLight fun l => { l with chainLen := l.chainLen.set k n }) okay)) ∧
    (∀ chain n, 3 < chain ∨ 128 < n → exec (.chainLength tag chain n) s =
      .next (s.served tag (.chainLength chain n) id (refuse .outOfRange))) ∧
    (∀ first count channel, 1 ≤ count → first + count ≤ 128 → channel + count ≤ 512 →
      (∀ i : Fin 16, i ≠ o → ∀ d, s.light.segments.get i = some d →
        (d.chain = k → d.first + d.count ≤ first ∨ first + count ≤ d.first) ∧ (d.channel + d.count ≤ channel ∨ channel + count ≤ d.channel)) →
      (∀ (o' : Fin 16) (x : Fin 512), s.light.pwm.get o' = some x → x.1 < channel ∨ channel + count ≤ x.1) →
      exec (.segmentSet tag o.1 k.1 first count channel) s = .next (s.served tag (.segmentSet o.1 k.1 first count channel)
        (State.modLight fun l =>
          { l with segments := l.segments.set o (some { chain := k, first := first, count := count, channel := channel }) }) okay)) ∧
    (∀ first count channel, 1 ≤ count → first + count ≤ 128 → channel + count ≤ 512 →
      (∀ j, segmentClash s.light o k first count = some j → exec (.segmentSet tag o.1 k.1 first count channel) s =
        .next (s.served tag (.segmentSet o.1 k.1 first count channel) id (refuseAt .inUse 5 j.1 0))) ∧
      (∀ n, segmentClash s.light o k first count = none → channelClash s.light o channel count = some n →
        exec (.segmentSet tag o.1 k.1 first count channel) s =
          .next (s.served tag (.segmentSet o.1 k.1 first count channel) id (refuseAt .inUse 6 n 0)))) ∧
    (∀ first count channel : Nat,
      let maps := fun (i : Fin 16) (n : Nat) => i ≠ o ∧ first ≤ n ∧ n < first + count ∧
        ∃ d, s.light.segments.get i = some d ∧ d.chain = k ∧ d.first ≤ n ∧ n < d.first + d.count
      let placed := fun n : Nat => channel ≤ n ∧ n < channel + count ∧ ((∃ (o' : Fin 16) (x : Fin 512), s.light.pwm.get o' = some x ∧ x.1 = n) ∨
        ∃ (i : Fin 16) (d : Segment), i ≠ o ∧ s.light.segments.get i = some d ∧ d.channel ≤ n ∧ n < d.channel + d.count)
      (∀ j, segmentClash s.light o k first count = some j ↔
        ∃ n, maps j n ∧ (∀ i m, maps i m → n ≤ m) ∧ ∀ i, maps i n → j ≤ i) ∧
      (segmentClash s.light o k first count = none ↔ ∀ i n, ¬maps i n) ∧
      (∀ n, channelClash s.light o channel count = some n ↔ placed n ∧ ∀ m, placed m → n ≤ m) ∧
      (channelClash s.light o channel count = none ↔ ∀ n, ¬placed n)) ∧
    exec (.segmentClear tag o.1) s =
      .next (s.served tag (.segmentClear o.1) (State.modLight fun l => { l with segments := l.segments.set o none }) okay)

/-- The light frame (R18, R23, R26, R31, R35): a due frame counts the REAL fades, composes every channel, advances the blink
generators and sends the duties, in this order, and the rows that name one outcome of it are that frame when it has the outcome.
A frame that is not due, or without the outcome, changes nothing (log entry 2). The blink generators (R26): each group's, in
ascending group index (log entry 58), moves by one frame, and BLINK_DONE is raised as the generator of a burst turns off. The
composition (R30, R38, R46, R47, R49): every channel takes V from its group's C and G, W where its group's blink generator
passes and its binding is lit, and D from W or, for a sodium lamp, from what the lamp gives after its update. The duties (R35,
R36, R50): a PWM output and a mapped chain position carry their channel's D, 0 while the LIGHTS rail is DOWN, and 0 without a
channel; a chain sends one 16-bit word a position, most significant bit first. At RAIL_CHANGE(LIGHTS, DOWN) every lit sodium
lamp cools (R32). A group in CURVE mode without a curve composes as log entry 34 says. -/
def Obligations.LightFrame : Prop :=
  (∀ (g : Fin 32) (c : Fin 512) (s : State), s.work.isClear = true →
    let frame := finish (sendDuties (advanceBlinks (composeAll (advanceFades .real 1 (s.modSched fun d => { d with light := false })))))
    let lamp := s.light.channels.get c
    exec .lightFrame s = .next (if s.sched.light then frame else s) ∧
    exec (.blinkPhaseEnd g.1) s = .next (if s.sched.light && s.endsPhase g then frame else s) ∧
    exec (.sodiumWarmReached c.1) s = .next (if s.sched.light && s.reachesWarm c then frame else s) ∧
    exec (.sodiumCoolingEnd c.1) s =
      .next (if s.sched.light && (lamp.kind == .sodium && (lamp.sodium == .cooling 0 || lamp.sodium == .cooling 1)) then frame else s)) ∧
  -- The blink generators (R26)
  (∀ (g : Fin 32) (s : State),
     let shown := fun x : Option Blink => s.modGroup g fun r => { r with blink := x }
     advanceBlinks s = forEach (indices 32) advanceBlink s ∧ ((s.light.groups.get g).blink = none → advanceBlink g s = s) ∧
     ∀ b, (s.light.groups.get g).blink = some b →
       (0 < b.counter → advanceBlink g s = shown (some { b with counter := b.counter - 1 })) ∧
       (b.counter = 0 → b.phaseOn = true → advanceBlink g s = shown (some { b with phaseOn := false, counter := b.offFrames - 1 })) ∧
       (b.counter = 0 → b.phaseOn = false → b.burst = 0 →
         advanceBlink g s = shown (some { b with phaseOn := true, counter := b.onFrames - 1 })) ∧
       (b.counter = 0 → b.phaseOn = false → 2 ≤ b.burst →
         advanceBlink g s = shown (some { b with phaseOn := true, counter := b.onFrames - 1, burst := b.burst - 1 })) ∧
       (b.counter = 0 → b.phaseOn = false → b.burst = 1 → advanceBlink g s = (shown none).raise (.blinkDone g))) ∧
  (∀ (c : Fin 512) (s : State),
     let x := s.light.channels.get c
     let y := (composeAll s).light.channels.get c
     let g := s.light.groups.get x.group
     let passes := (∀ b, g.blink = some b → b.phaseOn = true) ∧ s.lit x.kind = true
     let duty := gammaDuty g.rounding (s.light.gammas.get g.gamma)
     y.lastV = product g.rounding (g.curveValue (s.clock.town / 1000)) g.levelNow ∧
     (passes → y.lastW = trimmed y.lastV x.trim) ∧ (¬passes → y.lastW = 0) ∧
     (x.kind ≠ .sodium → y.sodium = x.sodium ∧ y.lastD = duty y.lastW) ∧
     (x.kind = .sodium → y.sodium = sodiumStep x.warmFrames x.restrikeFrames (if s.supply.rails.lights then y.lastW else 0) x.sodium ∧
       (y.sodium = .cold ∨ (∃ k, y.sodium = .cooling k) → y.lastD = duty 0) ∧ (y.sodium = .warm → y.lastD = duty y.lastW) ∧
       ∀ k, y.sodium = .warming k → y.lastD = duty (min y.lastW (roundDiv g.rounding (4095 * k : Nat) x.warmFrames).toNat)) ∧
     y = { x with sodium := y.sodium, lastV := y.lastV, lastW := y.lastW, lastD := y.lastD } ∧
     composeAll s = s.modLight (fun l => { l with channels := (composeAll s).light.channels })) ∧
  (∀ (x : Fin 48) (a : Fin 8) (k : Fin 4) (start width : Nat) (s : State),
     let served := s.track.config = .operational ∧ (s.track.defs.get x).present = true
     s.lit .plain = true ∧ s.lit .sodium = true ∧
     (s.lit (.signal x .proceed) = true ↔ served ∧ ∃ t, s.sec x = .reserved t) ∧
     (s.lit (.signal x .occupied) = true ↔ served ∧ (s.sec x = .stray ∨ ∃ t, s.sec x = .occupied t)) ∧
     (¬served ∨ s.sec x = .free ∨ (∃ t, s.sec x = .pending t) ∨ (∃ ms, s.sec x = .clearing ms) → s.lit (.signal x .stop) = true) ∧
     (served → (∃ t, s.sec x = .reserved t ∨ s.sec x = .occupied t) ∨ s.sec x = .stray → s.lit (.signal x .stop) = false) ∧
     (s.lit (.chase a start width) = true ↔
       (s.axes.get a).kind = .rotary ∧ (s.axes.get a).homed = true ∧ ((s.axes.get a).pos - start) % (s.axes.get a).spr < width) ∧
     (s.lit (.gate k) = true ↔
       s.track.config = .operational ∧ ∃ d, (s.track.crossings.get k).defn = some d ∧ (s.axes.get d.axis).gateState ≠ .open_)) ∧
  (∀ (o : Fin 16) (k : Fin 4) (n : Nat) (s : State),
     let duty := fun c : Fin 512 => if s.supply.rails.lights then (s.light.channels.get c).lastD else 0
     let t := sendDuties s
     let word := (t.outs.chains.get k)[n]?
     t = { s with outs := { t.outs with pulses := s.outs.pulses } } ∧
     (∀ c, s.light.pwm.get o = some c → t.outs.pwm.get o = duty c) ∧ (s.light.pwm.get o = none → t.outs.pwm.get o = 0) ∧
     (t.outs.chains.get k).length = s.light.chainLen.get k ∧
     (∀ i d c, n < s.light.chainLen.get k → s.light.segments.get i = some d → d.maps k n = true →
       (∀ j e, s.light.segments.get j = some e → e.maps k n = true → j = i) → c.1 = d.channel + (n - d.first) →
       word = some (BitVec.ofNat 16 (duty c))) ∧
     (n < s.light.chainLen.get k → (∀ i d, s.light.segments.get i = some d → d.maps k n = false) → word = some 0) ∧
     (∀ w b, word = some w → b < 16 → (t.chainBits k)[16 * n + b]? = some (w.getLsbD (15 - b))) ∧
     (t.chainBits k).length = 16 * s.light.chainLen.get k) ∧
  ∀ (c : Fin 512) (s : State),
    let x := s.light.channels.get c
    let lit := x.kind = .sodium ∧ (x.sodium = .warm ∨ ∃ k, x.sodium = .warming k)
    (lit → (sodiumRailDown s).light.channels.get c =
      { x with sodium := if x.restrikeFrames = 0 then .cold else .cooling x.restrikeFrames }) ∧
    (¬lit → (sodiumRailDown s).light.channels.get c = x)

/-- The end of a fade (R15, R23): the row is the light frame that carries a REAL fade to its duration, or the real millisecond whose
whole town seconds carry a TOWN fade there; the fade's end takes the to-level and raises FADE_DONE, and short of it only the elapsed
count moves. S2, the group level (R43): without a fade the record's level, and with one from + (to − from) × elapsed / duration, rounded by
the group's mode, which lies between the two levels and is the from-level at elapsed 0. A row whose outcome is not due is log entry 2. -/
def Obligations.FadeEnds : Prop :=
  (∀ (g : Fin 32) (f : Fade) (n : Nat) (s : State), (s.light.groups.get g).fade = some f →
    (f.duration ≤ f.elapsed + n → advanceFade f.base n g s =
      (s.modGroup g fun r => { r with level := f.toLevel, fade := none }).raise (.fadeDone g)) ∧
    (f.elapsed + n < f.duration → advanceFade f.base n g s =
      s.modGroup g fun r => { r with fade := some { f with elapsed := f.elapsed + n } }) ∧
    (s.work.isClear = true → f.base = .real → f.duration ≤ f.elapsed + 1 → s.sched.light = true →
      exec (.fadeDone g.1) s = .next (finish (lightFrame s))) ∧
    (s.work.isClear = true → f.base = .town → ((flush s).light.groups.get g).fade = some f →
      0 < (flush s).clock.secondsOf (flush s).clock.advance.1 →
      f.duration ≤ f.elapsed + (flush s).clock.secondsOf (flush s).clock.advance.1 →
      exec (.fadeDone g.1) s = .next (finish (advanceClock (countMs (flush s)))))) ∧
  ∀ (g : Group) (f : Fade),
    (g.fade = none → g.levelNow = g.level) ∧
    (g.fade = some f → 0 < f.duration → f.elapsed ≤ f.duration →
      (g.levelNow : Int) = f.fromLevel + roundDiv g.rounding (((f.toLevel : Int) - f.fromLevel) * f.elapsed) f.duration ∧
        min f.fromLevel f.toLevel ≤ g.levelNow ∧ g.levelNow ≤ max f.fromLevel f.toLevel ∧ (f.elapsed = 0 → g.levelNow = f.fromLevel))

/-- A blink generator's phase (R26): entered with a counter of r it stands for r + 1 frames and then ends, an ON phase by entering OFF and
an OFF phase by entering ON or, at the end of a burst, by turning the generator off. A sodium lamp (R31): a lit lamp whose level falls
to 0 at frame f stays dark for its restrike frames, whatever the levels in between, and at frame f + R is COLD on level 0 and strikes
on a level above 0. -/
def Obligations.BlinkAndSodium : Prop :=
  (∀ (b : Blink) (frames : Nat → Option Blink), frames 0 = some b →
     (∀ k, frames (k + 1) = (frames k).bind fun x => x.advance.1) →
       (∀ k, k ≤ b.counter → frames k = some { b with counter := b.counter - k }) ∧
       (b.phaseOn = true → frames (b.counter + 1) = some { b with phaseOn := false, counter := b.offFrames - 1 }) ∧
       (b.phaseOn = false → b.burst = 0 → frames (b.counter + 1) = some { b with phaseOn := true, counter := b.onFrames - 1 }) ∧
       (b.phaseOn = false → b.burst = 1 → frames (b.counter + 1) = none) ∧
       (b.phaseOn = false → 2 ≤ b.burst →
         frames (b.counter + 1) = some { b with phaseOn := true, counter := b.onFrames - 1, burst := b.burst - 1 })) ∧
  ∀ (warm restrike : Nat) (levels : Nat → Nat) (lamp : Nat → Sodium), 0 < restrike →
    (∀ f, lamp (f + 1) = sodiumStep warm restrike (levels f) (lamp f)) →
      ∀ f, (lamp f = .warm ∨ ∃ k, lamp f = .warming k) → levels f = 0 →
        (∀ j, j < restrike → lamp (f + 1 + j) = .cooling (restrike - j)) ∧
        (levels (f + restrike) = 0 → lamp (f + 1 + restrike) = .cold) ∧
        (0 < levels (f + restrike) → lamp (f + 1 + restrike) = if warm ≤ 1 then .warm else .warming 1)

/-- Rounded division (R39): DOWN is the greatest integer not above the quotient, UP the least not below it, TOWARD_ZERO the quotient
without its fraction, NEAREST_EVEN the nearest integer with ties to the even one. -/
def Obligations.RoundedDivision : Prop :=
  ∀ (num : Int) (den : Nat), 0 < den →
    (roundDiv .down num den * den ≤ num ∧ num < (roundDiv .down num den + 1) * den) ∧
    ((roundDiv .up num den - 1) * den < num ∧ num ≤ roundDiv .up num den * den) ∧
    (roundDiv .towardZero num den = if 0 ≤ num then roundDiv .down num den else roundDiv .up num den) ∧
    (let q := roundDiv .nearestEven num den;
      |2 * (num - q * den)| ≤ den ∧ (|2 * (num - q * den)| = den → q % 2 = 0))

/-- S3, the product (R44): V is C × G / 4095 rounded, never a tie; it lies in 0 to 4095; three cases are exact under every mode; and
whether a small product gives 0 depends on the mode. S4, the trim (R45): 0 stays 0 whatever the trim; any other V takes the trim and
is saturated to 0 to 4095. -/
def Obligations.LevelStages : Prop :=
  (∀ (m : Rounding) (c g : Nat), c ≤ 4095 → g ≤ 4095 →
     ((product m c g : Nat) : Int) = roundDiv m ((c : Int) * g) 4095 ∧ product m c g ≤ 4095 ∧
       product m c 4095 = c ∧ product m 4095 g = g ∧ (c = 0 ∨ g = 0 → product m c g = 0) ∧
       (product .nearestEven c g = 0 ↔ c * g ≤ 2047) ∧ (product .down c g = 0 ↔ c * g ≤ 4094) ∧
       (product .towardZero c g = 0 ↔ c * g ≤ 4094) ∧ (product .up c g = 0 ↔ c * g = 0) ∧
       (c * g = 2048 → product .nearestEven c g = 1) ∧ (c * g = 4095 → product .down c g = 1 ∧ product .towardZero c g = 1) ∧
       (c * g = 1 → product .up c g = 1) ∧ 2 * (c * g % 4095) ≠ 4095) ∧
  ∀ (v : Nat) (trim : Int),
    (v = 0 → trimmed v trim = 0) ∧
    (v ≠ 0 → 0 ≤ (v : Int) + trim → (v : Int) + trim ≤ 4095 → ((trimmed v trim : Nat) : Int) = v + trim) ∧
    (v ≠ 0 → (v : Int) + trim < 0 → trimmed v trim = 0) ∧ (v ≠ 0 → 4095 < (v : Int) + trim → trimmed v trim = 4095)

/-- S7, the gamma table (R48): D of 0 is 0; full level gives the last entry; a level in between gives the rounded interpolation, between the
two entries around it, and never above 1023. S1, the curve value (R40, R41, R42): 4095 in FIXED mode and 0 in DARK; on a day curve the
level of a point at that point's minute, and on the way to the next point the start level and the rounded part of the rise, between the
two levels; the last point and the first are joined by one straight run across midnight. An absent curve is log entry 34. -/
def Obligations.GammaAndCurve : Prop :=
  (∀ (m : Rounding) (table : List Nat) (w : Nat), table.length = 17 → table.Pairwise (· ≤ ·) → (∀ x ∈ table, x ≤ 1023) → w ≤ 4095 →
     gammaDuty m table 0 = 0 ∧ gammaDuty m table 4095 = table.getD 16 0 ∧ gammaDuty m table w ≤ 1023 ∧
       (0 < w → w < 4095 →
         let k := 16 * w / 4095
         let lo := table.getD k 0
         let hi := table.getD (k + 1) 0
         lo ≤ gammaDuty m table w ∧ gammaDuty m table w ≤ hi ∧
           (gammaDuty m table w : Int) = lo + roundDiv m (((hi : Int) - lo) * (16 * w % 4095 : Nat)) 4095)) ∧
  ∀ (m : Rounding) (points : List (Nat × Nat)) (g : Group) (x : Nat),
    (g.mode = .fixed → g.curveValue x = 4095) ∧ (g.mode = .dark → g.curveValue x = 0) ∧
    (g.mode = .curve → g.curveValue x = curveLevel g.rounding g.curve x) ∧
    (points.Pairwise (fun a b => a.1 < b.1) → 2 ≤ points.length → (∀ p ∈ points, p.1 ≤ 1439) →
      (∀ p ∈ points, curveLevel m points (60 * p.1) = p.2) ∧
      ∀ (before after : List (Nat × Nat)) (a b : Nat × Nat), points = before ++ a :: b :: after → 60 * a.1 ≤ x → x < 60 * b.1 →
        (curveLevel m points x : Int) = a.2 + roundDiv m (((b.2 : Int) - a.2) * ((x : Int) - 60 * a.1)) (60 * (b.1 - a.1)) ∧
        min a.2 b.2 ≤ curveLevel m points x ∧ curveLevel m points x ≤ max a.2 b.2) ∧
    (∀ (first last : Nat × Nat) (mid : List (Nat × Nat)), points = first :: mid ++ [last] → points.Pairwise (fun a b => a.1 < b.1) →
      (∀ p ∈ points, p.1 ≤ 1439) →
      let level := fun since : Int =>
        (last.2 : Int) + roundDiv m (((first.2 : Int) - last.2) * since) (60 * (first.1 + 1440 - last.1))
      (60 * last.1 ≤ x → x < 86400 → (curveLevel m points x : Int) = level (x - 60 * last.1)) ∧
      (x < 60 * first.1 → (curveLevel m points x : Int) = level (x + 86400 - 60 * last.1)))

/-! ## The layout -/

/-- LAYOUT_OPEN (R53): refused with the lowest-numbered placed train; otherwise EDITING, and from OPERATIONAL every section
loses its state, every queued throw is dropped and every crossing stops. LAYOUT_CLOSE (R59, R60): refused with WRONG_STATE
outside EDITING; refused with the first failure of its validation; otherwise the layout is in service, with every present
section STRAY or FREE as its detector is confirmed OCCUPIED or EMPTY; STRAY_SEEN is raised for each STRAY section in ascending
order, and then the crossings start their coupling, in ascending crossing index (log entry 58, the model's choice): a demand of
CLOSE commands the gate closed, one of OPEN starts the open delay (a delay of 0 runs out at once, log entry 35), and while the
interlock is ENGAGED the demand alone is taken (R77, R79). The validation (R59): its nine checks, each over the items it names,
and of all that fail the first by check, then by index, then by end. The reasons are numbered from 0 by log entry 31. -/
def Obligations.LayoutOpenClose : Prop :=
  (∀ (tag : Nat) (s : State), s.ready = true →
     (∀ t : Fin 8, (s.trains.get t).placed = true → (∀ u : Fin 8, u < t → (s.trains.get u).placed = false) →
       exec (.layoutOpen tag) s = .next (s.served tag .layoutOpen id (refuseAt .inUse 0 t.1 0))) ∧
     ((∀ t : Fin 8, (s.trains.get t).placed = false) →
       (s.track.config = .editing → exec (.layoutOpen tag) s = .next (s.served tag .layoutOpen id okay)) ∧
       (s.track.config = .unconfigured → exec (.layoutOpen tag) s =
         .next (s.served tag .layoutOpen (State.modTrack fun k => { k with config := .editing }) okay)) ∧
       (s.track.config = .operational → exec (.layoutOpen tag) s =
         .next (s.served tag .layoutOpen (State.modTrack fun k =>
           { k with config := .editing, runs := .replicate 48 { state := .none, waiting := [] }, couplings := .replicate 4 none
                    queue := [] }) okay)))) ∧
  (∀ (tag : Nat) (s : State), s.ready = true →
    (s.track.config ≠ .editing → exec (.layoutClose tag) s = .next (s.served tag .layoutClose id (refuse .wrongState))) ∧
    (∀ row index e, s.track.config = .editing → layoutFailure s = some (row, index, e) →
      exec (.layoutClose tag) s = .next (s.served tag .layoutClose id (refuseAt .invalid row index e))) ∧
    (s.track.config = .editing → layoutFailure s = none →
      exec (.layoutClose tag) s = .next (s.served tag .layoutClose enterService okay)) ∧
    (enterService s).track.config = .operational ∧
    (∀ x, (enterService s).sec x = if (s.track.defs.get x).present = false then .none
      else if (s.track.detectors.get x).occupied then .stray else .free) ∧
    (enterService s).track.defs = s.track.defs ∧ (enterService s).track.points = s.track.points ∧
    (enterService s).trains = s.trains ∧ (enterService s).light = s.light ∧ (enterService s).supply = s.supply) ∧
  -- Into service (R60, R77)
  (∀ (c : Fin 4) (s : State),
    (∀ strays : List (Fin 48), strays.Pairwise (· < ·) →
      (∀ x, x ∈ strays ↔ (s.track.defs.get x).present = true ∧ (s.track.detectors.get x).occupied = true) →
      let opened := s.modTrack fun k => { k with config := .operational, runs := .ofFn fun x =>
        { state := if (k.defs.get x).present = false then .none else if (k.detectors.get x).occupied then .stray else .free, waiting := [] } }
      enterService s = startCoupling 3 (startCoupling 2 (startCoupling 1 (startCoupling 0
        (forEach strays (fun x => State.raise (.straySeen x)) opened))))) ∧
    ((s.track.crossings.get c).defn = none → startCoupling c s = s.setCoupling c none) ∧
    ∀ d, (s.track.crossings.get c).defn = some d →
      let k : Coupling := { demand := demandOf s d.members, last := none, openDelay := none, timeout := .absent, retry := false }
      let delay := (s.track.crossings.get c).openDelay
      (s.engaged = true → startCoupling c s = s.setCoupling c (some k)) ∧
      (s.engaged = false → k.demand = .close → startCoupling c s = gateCommand d.axis .close (s.setCoupling c (some
        { k with last := some .close, timeout := .running (s.track.crossings.get c).gateTimeout }))) ∧
      (s.engaged = false → k.demand = .open_ → 0 < delay → startCoupling c s = s.setCoupling c (some { k with openDelay := some delay })) ∧
      (s.engaged = false → k.demand = .open_ → delay = 0 → startCoupling c s =
        if (s.axes.get d.axis).gateState = .unknown then s.setCoupling c (some k)
        else gateCommand d.axis .open_ (s.setCoupling c (some { k with last := some .open_ })))) ∧
  ∀ s : State,
    let present := fun x : Fin 48 => (s.track.defs.get x).present = true
    let leadsBack := fun (y : Fin 48) (g : End) (x : Fin 48) (f : End) => s.linkAt y g = .plain x f ∨
      ∃ p d, s.linkAt y g = .point p ∧ s.pointDef p = some d ∧ (d.normal = ⟨x, f⟩ ∨ d.reverse = ⟨x, f⟩)
    let isToe := fun (d : PointDef) (p : Fin 24) (f : End) => s.linkAt d.sec f = .point p ∧ (f = .b → s.linkAt d.sec .a ≠ .point p)
    let fails := fun row index fin : Nat =>
      (∃ (x : Fin 48) (f : End), present x ∧ index = x.1 ∧ fin = f.code ∧
        ((row = 0 ∧ ∃ y g, s.linkAt x f = .plain y g ∧ ¬present y) ∨
         (row = 1 ∧ ∃ y g, s.linkAt x f = .plain y g ∧ ¬leadsBack y g x f) ∨
         (row = 2 ∧ ∃ p, s.linkAt x f = .point p ∧ s.pointDef p = none) ∨
         (row = 3 ∧ ∃ p d, s.linkAt x f = .point p ∧ s.pointDef p = some d ∧ d.sec ≠ x))) ∨
      (∃ (p : Fin 24) (d : PointDef), s.pointDef p = some d ∧ index = p.1 ∧ fin = 0 ∧
        ((row = 4 ∧ (¬present d.sec ∨ ∀ f, s.linkAt d.sec f ≠ .point p)) ∨
         (row = 5 ∧ (¬present d.normal.sec ∨ ¬present d.reverse.sec)) ∨
         (row = 6 ∧ ∃ leg, (leg = d.normal ∨ leg = d.reverse) ∧ ∀ f, isToe d p f → s.linkAt leg.sec leg.fin ≠ .plain d.sec f))) ∨
      ∃ (c : Fin 4) (d : CrossingDef), (s.track.crossings.get c).defn = some d ∧ index = c.1 ∧ fin = 0 ∧
        ((row = 7 ∧ ∃ x ∈ d.members, ¬present x) ∨ (row = 8 ∧ (s.axes.get d.axis).kind ≠ .gate))
    (layoutFailure s = none ↔ ∀ row index fin, ¬fails row index fin) ∧
    ∀ row index fin, layoutFailure s = some (row, index, fin) ↔ fails row index fin ∧ ∀ row' index' fin', fails row' index' fin' →
      row < row' ∨ (row = row' ∧ (index < index' ∨ (index = index' ∧ fin ≤ fin')))

/-- SECTION_DEFINE (R55) with links in range that do not lead back to their own end or to one point twice, and SECTION_FORGET
(R56): the record is written, clearance and filter clamped, or taken back to its power-on values. The refusals of R55's table,
check by check and end A before end B: a section above 47; a link kind above 2, a PLAIN link's section or end, a POINT link's
point beyond its range, with the end; a PLAIN link back to the end that carries it; the two ends at one point, with end B (the
details' numbers are log entry 31; that their index bytes are 0, and that end A is named when both ends fail the same row, is
log entry 59). SECTION_FORGET of a crossing's member is refused with the crossing. Both, as POINT_DEFINE and CROSSING_DEFINE,
are refused with WRONG_STATE outside EDITING (R52). That the refusal outside EDITING comes before the range checks, so for every
index, is log entry 25. -/
def Obligations.SectionDefinition : Prop :=
  ∀ (tag : Nat) (x : Fin 48) (a b : RawLink) (clearance filter : Nat) (s : State), s.ready = true →
    (∀ la lb : Link, s.track.config = .editing → readLink a = .ok la → readLink b = .ok lb →
      la ≠ .plain x .a → lb ≠ .plain x .b → (∀ p, la = .point p → lb ≠ .point p) →
      exec (.sectionDefine tag x.1 a b clearance filter) s = .next (s.served tag (.sectionDefine x.1 a b clearance filter)
        (State.modTrack fun k => { k with defs := k.defs.modify x fun d =>
          { d with present := true, linkA := la, linkB := lb, clearance := min 5000 clearance, filter := max 20 (min 2000 filter) } })
        { code := .ok, clamped := decide (5000 < clearance) || decide (filter < 20) || decide (2000 < filter), data := [] })) ∧
    (s.track.config = .editing →
      let refused := fun (code : ResultCode) (row fin : Nat) => exec (.sectionDefine tag x.1 a b clearance filter) s =
        .next (s.served tag (.sectionDefine x.1 a b clearance filter) id (refuseAt code row 0 fin))
      let fails := fun (l : RawLink) (row : Nat) => (row = 1 ∧ 2 < l.kind) ∨ (row = 2 ∧ l.kind = 1 ∧ (47 < l.index ∨ 1 < l.fin)) ∨
        (row = 3 ∧ l.kind = 2 ∧ 23 < l.index)
      (∀ l row, readLink l = .error row ↔ fails l row) ∧
      (∀ row, fails a row → (∀ row', fails b row' → row ≤ row') → refused .outOfRange row 0) ∧
      (∀ row, fails b row → (∀ row', fails a row' → row < row') → refused .outOfRange row 1) ∧
      (∀ lb, readLink a = .ok (.plain x .a) → readLink b = .ok lb → refused .invalid 4 0) ∧
      (∀ la, readLink a = .ok la → la ≠ .plain x .a → readLink b = .ok (.plain x .b) → refused .invalid 4 1) ∧
      (∀ p, readLink a = .ok (.point p) → readLink b = .ok (.point p) → refused .invalid 5 1) ∧
      ∀ sec, 47 < sec → exec (.sectionDefine tag sec a b clearance filter) s =
          .next (s.served tag (.sectionDefine sec a b clearance filter) id (refuse .outOfRange)) ∧
        exec (.sectionForget tag sec) s = .next (s.served tag (.sectionForget sec) id (refuse .outOfRange))) ∧
    readLink { kind := 0, index := 0, fin := 0 } = .ok .buffer ∧
    (∀ y : Fin 48, readLink { kind := 1, index := y.1, fin := 0 } = .ok (.plain y .a) ∧
      readLink { kind := 1, index := y.1, fin := 1 } = .ok (.plain y .b)) ∧
    (∀ p : Fin 24, readLink { kind := 2, index := p.1, fin := 0 } = .ok (.point p)) ∧
    (s.track.config = .editing → (s.track.defs.get x).crossing = none →
      exec (.sectionForget tag x.1) s =
        .next (s.served tag (.sectionForget x.1) (State.modTrack fun k => { k with defs := k.defs.set x SectionDef.initial }) okay)) ∧
    (∀ c : Fin 4, s.track.config = .editing → (s.track.defs.get x).crossing = some c →
      exec (.sectionForget tag x.1) s = .next (s.served tag (.sectionForget x.1) id (refuseAt .inUse 0 c.1 0))) ∧
    (s.track.config ≠ .editing →
      (∀ sec, exec (.sectionDefine tag sec a b clearance filter) s =
        .next (s.served tag (.sectionDefine sec a b clearance filter) id (refuse .wrongState))) ∧
      (∀ sec, exec (.sectionForget tag sec) s = .next (s.served tag (.sectionForget sec) id (refuse .wrongState))) ∧
      (∀ p d, exec (.pointDefine tag p d) s = .next (s.served tag (.pointDefine p d) id (refuse .wrongState))) ∧
      ∀ c d, exec (.crossingDefine tag c d) s = .next (s.served tag (.crossingDefine c d) id (refuse .wrongState)))

/-- POINT_DEFINE and CROSSING_DEFINE (R57, R58) while EDITING: a new point's position is UNKNOWN and a redefined one's is kept;
a crossing takes its members and its axis; with NONE the definition goes. POINT_DEFINE is refused for a number or an end out of
range, while the point's pulse is in progress, and with equal legs; the order of these three is log entry 52. CROSSING_DEFINE is
refused, check by check, for a crossing, an axis, a count or a member out of range; for a member that appears twice, with its
list index; for a member of another crossing, with the section; and for another crossing's gate axis, with that crossing (the
details' numbers are log entry 31; that of several repeats or sections the first, and of several crossings the lowest, is named
is log entry 57). That NONE keeps the pulse length, the open delay and the gate timeout is log entry 37. -/
def Obligations.PointAndCrossingDefinition : Prop :=
  ∀ (tag : Nat) (p : Fin 24) (c : Fin 4) (s : State), s.ready = true → s.track.config = .editing →
    (∀ (x n v : Fin 48) (ne ve : End) (pulse : Nat), (n, ne) ≠ (v, ve) → s.pulsing p = false →
      let d : RawPoint :=
        { section_ := x.1, normalSection := n.1, normalEnd := ne.code, reverseSection := v.1, reverseEnd := ve.code, pulse := pulse }
      exec (.pointDefine tag p.1 (some d)) s = .next (s.served tag (.pointDefine p.1 (some d))
        (State.modPoint p fun r =>
          { r with defn := some { sec := x, normal := ⟨n, ne⟩, reverse := ⟨v, ve⟩ }
                   position := if r.defn.isSome then r.position else .unknown
                   pulse := max 50 (min 1000 pulse) })
        { code := .ok, clamped := decide (pulse < 50) || decide (1000 < pulse), data := [] })) ∧
    (s.pulsing p = false → exec (.pointDefine tag p.1 none) s =
      .next (s.served tag (.pointDefine p.1 none) (State.modPoint p fun r => { r with defn := none, position := .unknown }) okay)) ∧
    (s.pulsing p = true → exec (.pointDefine tag p.1 none) s = .next (s.served tag (.pointDefine p.1 none) id (refuse .inUse))) ∧
    (∀ d : RawPoint,
      let refused := fun code : ResultCode =>
        exec (.pointDefine tag p.1 (some d)) s = .next (s.served tag (.pointDefine p.1 (some d)) id (refuse code))
      let inRange := d.section_ ≤ 47 ∧ d.normalSection ≤ 47 ∧ d.normalEnd ≤ 1 ∧ d.reverseSection ≤ 47 ∧ d.reverseEnd ≤ 1
      (¬inRange → refused .outOfRange) ∧ (inRange → s.pulsing p = true → refused .inUse) ∧
      (inRange → s.pulsing p = false → d.normalSection = d.reverseSection → d.normalEnd = d.reverseEnd → refused .invalid)) ∧
    (∀ n d, 23 < n → exec (.pointDefine tag n d) s = .next (s.served tag (.pointDefine n d) id (refuse .outOfRange))) ∧
    (∀ n d, 3 < n → exec (.crossingDefine tag n d) s = .next (s.served tag (.crossingDefine n d) id (refuse .outOfRange))) ∧
    (∀ d : RawCrossing, 7 < d.axis ∨ d.members.length < 1 ∨ 4 < d.members.length ∨ (∃ x ∈ d.members, 47 < x) →
      exec (.crossingDefine tag c.1 (some d)) s = .next (s.served tag (.crossingDefine c.1 (some d)) id (refuse .outOfRange))) ∧
    (∀ (a : Fin 8) (members : List (Fin 48)) (delay timeout : Nat), 1 ≤ members.length → members.length ≤ 4 →
      let d : RawCrossing := { axis := a.1, openDelay := delay, gateTimeout := timeout, members := members.map Fin.val }
      let refused := fun (code : ResultCode) (row i : Nat) =>
        exec (.crossingDefine tag c.1 (some d)) s = .next (s.served tag (.crossingDefine c.1 (some d)) id (refuseAt code row i 0))
      let elsewhere := fun x : Fin 48 => ∃ k, (s.track.defs.get x).crossing = some k ∧ k ≠ c
      (∀ before x after, members = before ++ x :: after → before.Nodup → x ∈ before → refused .invalid 3 before.length) ∧
      (∀ before x after, members = before ++ x :: after → members.Nodup → (∀ y ∈ before, ¬elsewhere y) → elsewhere x → refused .inUse 4 x.1) ∧
      ∀ (k : Fin 4) (r : CrossingDef), members.Nodup → (∀ x ∈ members, ¬elsewhere x) → k ≠ c →
        (s.track.crossings.get k).defn = some r → r.axis = a →
        (∀ j r', j < k → j ≠ c → (s.track.crossings.get j).defn = some r' → r'.axis ≠ a) → refused .inUse 5 k.1) ∧
    (∀ (a : Fin 8) (members : List (Fin 48)) (delay timeout : Nat), 1 ≤ members.length → members.length ≤ 4 → members.Nodup →
      (∀ x ∈ members, ∀ k, (s.track.defs.get x).crossing = some k → k = c) →
      (∀ k d, (s.track.crossings.get k).defn = some d → d.axis = a → k = c) →
      let d : RawCrossing := { axis := a.1, openDelay := delay, gateTimeout := timeout, members := members.map Fin.val }
      exec (.crossingDefine tag c.1 (some d)) s = .next (s.served tag (.crossingDefine c.1 (some d))
        (State.modTrack fun k =>
          { k with
            defs := .ofFn fun x => { k.defs.get x with
              crossing := if x ∈ members then some c else if (k.defs.get x).crossing = some c then none else (k.defs.get x).crossing }
            crossings := k.crossings.set c { defn := some { axis := a, members := members }, openDelay := min 10000 delay
                                             gateTimeout := max 500 (min 20000 timeout) } })
        { code := .ok, clamped := decide (10000 < delay) || decide (timeout < 500) || decide (20000 < timeout), data := [] })) ∧
    exec (.crossingDefine tag c.1 none) s = .next (s.served tag (.crossingDefine c.1 none)
      (State.modTrack fun k =>
        { k with defs := k.defs.map fun d => if d.crossing = some c then { d with crossing := none } else d
                 crossings := k.crossings.modify c fun r => { r with defn := none } }) okay)

/-- POINT_THROW and THROW_UNIT_CONFIG (R76): the table's answers in its order, but for an undefined point or a layout out of
service, which answer WRONG_STATE; the recharge time is clamped to 100 to 5000. That a changed entry does not have the head
examined is log entry 27. -/
def Obligations.PointThrow : Prop :=
  ∀ (tag : Nat) (p : Fin 24) (w : Position) (recharge : Nat) (s : State), s.ready = true → w ≠ .unknown →
    let r : Request := .pointThrow p.1 w.code
    (s.track.config ≠ .operational ∨ s.pointDef p = none →
      exec (.pointThrow tag p.1 w.code) s = .next (s.served tag r id (refuse .wrongState))) ∧
    (∀ d, s.track.config = .operational → s.pointDef p = some d →
      (s.sec d.sec ≠ .free → exec (.pointThrow tag p.1 w.code) s = .next (s.served tag r id (refuse .inUse))) ∧
      (s.sec d.sec = .free → (∃ e ∈ s.track.queue, e.point = p) →
        exec (.pointThrow tag p.1 w.code) s = .next (s.served tag r
          (fun s => s.setQueue (s.track.queue.map fun e => if e.point = p then { e with position := w } else e)) taken)) ∧
      (s.sec d.sec = .free → (∀ e ∈ s.track.queue, e.point ≠ p) → (s.track.points.get p).position = w → s.pulsing p = false →
        exec (.pointThrow tag p.1 w.code) s = .next (s.served tag r (State.raise (.pointSet p w)) okay)) ∧
      (s.sec d.sec = .free → (∀ e ∈ s.track.queue, e.point ≠ p) → ((s.track.points.get p).position ≠ w ∨ s.pulsing p = true) →
        exec (.pointThrow tag p.1 w.code) s = .next (s.served tag r (fun s =>
          (s.setQueue (s.track.queue ++ [{ point := p, position := w, origin := .request }])).later .examine) taken))) ∧
    (∀ point position, 23 < point ∨ 1 < position →
      exec (.pointThrow tag point position) s = .next (s.served tag (.pointThrow point position) id (refuse .outOfRange))) ∧
    exec (.throwUnitConfig tag recharge) s = .next (s.served tag (.throwUnitConfig recharge)
      (State.modTrack fun k => { k with recharge := max 100 (min 5000 recharge) })
      { code := .ok, clamped := decide (recharge < 100) || decide (5000 < recharge), data := [] })

/-- The discharge unit (R75, R74): a head whose point lies at the wanted position with no pulse for it leaves with POINT_SET, and
completion is tested for the grant it served; any other head starts its pulse while the unit is READY and the interlock is released,
and waits otherwise; a dropped head has the new head examined, another dropped entry does not. After a pulse the point has its position, POINT_SET is
raised and the unit recharges, then is READY. A point's select line is high while its pulse is in progress; the fire line is high for
REVERSE, low for NORMAL (read from the state: entry 41; low between pulses: entry 60). The crossings (R77, R78, R79): a section's
change of state has its crossing work its demand out again; the demand, what its changes do, and what the interlock does; after the
open delay a gate not UNKNOWN is commanded open; after the gate timeout its axis faults. At GATE_STATE CLOSED (R71, R78) a running
timeout becomes absent, a retry ends, the grants pending there are tested in ascending train index (entry 53), and after a retry under
a demand of OPEN the open delay starts, unless ENGAGED. GATE_RETRY (R78) is refused for a crossing above 3, out of service, for an
undefined crossing and while ENGAGED; else it sets the goal CLOSED, clears a fault and, with the MOTION rail UP, homes the gate, with
a fresh timeout. The gate axis (R117, R118): a crossing command in each state, a fault, the derived gate state, and GATE_STATE at each
change of it for every crossing of the axis, in order. A time not run out leaves the state as it is (entry 2). The model's choices:
the retry's mark and the timeout at a gate that stands CLOSED (entry 24); a delay of 0 ends at once (entry 35), at release too (entry
61); GATE_RETRY restarts the home run and travel at an axis HOMING (entry 48); the test of the grant a pulse still serves (entry 40);
an axis that is no gate is UNKNOWN (entry 22); mode NONE and phase CRUISE in FAULT (entry 49). -/
def Obligations.ThrowsAndCrossings : Prop :=
  (∀ s : State,
     (s.track.queue = [] → examineHead s = s) ∧
     (∀ (e : ThrowEntry) (rest : List ThrowEntry), s.track.queue = e :: rest →
       let placed := (s.track.points.get e.point).position = e.position ∧ s.pulsing e.point = false
       let shown := (s.setQueue rest).raise (.pointSet e.point e.position)
       (placed → examineHead s = (match e.origin with | .grant t _ => shown.later (.complete t) | .request => shown).later .examine) ∧
       (¬placed → s.track.unit_ = .ready → s.engaged = false → examineHead s = ((s.setQueue rest).setUnit
         (.pulsing e.point e.position (s.track.points.get e.point).pulse e.origin.serves)).later .examine) ∧
       (¬placed → (s.track.unit_ ≠ .ready ∨ s.engaged = true) → examineHead s = s)) ∧
     (∀ drop : ThrowEntry → Bool,
       (s.track.queue = [] → dropThrows drop s = s) ∧
       ∀ (e : ThrowEntry) (rest : List ThrowEntry), s.track.queue = e :: rest →
         (drop e = true → dropThrows drop s = (s.setQueue (rest.filter fun x => !drop x)).later .examine) ∧
         (drop e = false → dropThrows drop s = s.setQueue (e :: rest.filter fun x => !drop x))) ∧
     (s.work.isClear = true → ∀ p w serves, s.track.unit_ = .pulsing p w 0 serves →
       let done := ((s.modPoint p fun r => { r with position := w }).setUnit (.recharging s.track.recharge)).raise (.pointSet p w)
       exec .pulseEnd s = .next (finish ((match serves with | some t => done.later (.complete t) | none => done).later .examine))) ∧
     (s.work.isClear = true → (∀ p w serves, s.track.unit_ ≠ .pulsing p w 0 serves) → exec .pulseEnd s = .next s) ∧
     (s.work.isClear = true → s.track.unit_ = .recharging 0 → exec .rechargeEnd s = .next (finish ((s.setUnit .ready).later .examine))) ∧
     (s.work.isClear = true → s.track.unit_ ≠ .recharging 0 → exec .rechargeEnd s = .next s)) ∧
  -- The select and fire lines (R75), and a section's change of state at its crossing (R77)
  (∀ (p : Fin 24) (x : Fin 48) (st : SecState) (s : State),
     (s.selectLine p = true ↔ ∃ w ms serves, s.track.unit_ = .pulsing p w ms serves) ∧
     (∀ q w ms serves, s.track.unit_ = .pulsing q w ms serves → (s.fireLine = true ↔ w = .reverse)) ∧
     ((∀ q w ms serves, s.track.unit_ ≠ .pulsing q w ms serves) → s.fireLine = false) ∧
     let changed := s.modRun x fun r => { r with state := st }
     ((s.track.defs.get x).crossing = none → setSec x st s = changed) ∧
     ∀ c, (s.track.defs.get x).crossing = some c → setSec x st s = redemand c changed) ∧
  (∀ (c : Fin 4) (d : CrossingDef) (k : Coupling) (s : State), (s.track.crossings.get c).defn = some d →
     s.track.couplings.get c = some k →
     let full := (s.track.crossings.get c).gateTimeout
     let delay := (s.track.crossings.get c).openDelay
     let closing := fun k : Coupling => gateCommand d.axis .close (s.setCoupling c (some
       { k with last := some .close, timeout := .running full, retry := false }))
     let opened := fun k : Coupling =>
       if (s.axes.get d.axis).gateState = .unknown then s.setCoupling c (some { k with openDelay := none })
       else gateCommand d.axis .open_ (s.setCoupling c (some { k with openDelay := none, last := some .open_, timeout := .absent, retry := false }))
     (demandOf s d.members = .close ↔
       ∃ x ∈ d.members, s.sec x = .stray ∨ ∃ t, s.sec x = .pending t ∨ s.sec x = .reserved t ∨ s.sec x = .occupied t) ∧
     (demandOf s d.members = k.demand → redemand c s = s) ∧
     (demandOf s d.members ≠ k.demand → s.engaged = true →
       redemand c s = s.setCoupling c (some { k with demand := demandOf s d.members })) ∧
     (demandOf s d.members = .close → k.demand = .open_ → s.engaged = false →
       redemand c s = if k.last = some .close then s.setCoupling c (some { k with demand := .close, openDelay := none })
         else closing { k with demand := .close, openDelay := none }) ∧
     (demandOf s d.members = .open_ → k.demand = .close → s.engaged = false →
       redemand c s = if delay = 0 then opened { k with demand := .open_ }
         else s.setCoupling c (some { k with demand := .open_, openDelay := some delay })) ∧
     (∀ ms, k.timeout = .running ms →
       suspendCrossing c s = s.setCoupling c (some { k with openDelay := none, retry := false, timeout := .suspended ms })) ∧
     ((∀ ms, k.timeout ≠ .running ms) →
       suspendCrossing c s = s.setCoupling c (some { k with openDelay := none, retry := false })) ∧
     (k.demand = .close → recommandCrossing c s = closing k) ∧
     (k.demand = .open_ → ∀ left : GateTimer, (left = k.timeout ∧ ∀ ms, k.timeout ≠ .suspended ms) ∨ (left = .absent ∧ ∃ ms, k.timeout = .suspended ms) →
       recommandCrossing c s = if delay = 0 then opened { k with last := none, timeout := left }
         else s.setCoupling c (some { k with last := none, timeout := left, openDelay := some delay }))) ∧
  -- GATE_STATE CLOSED at a crossing (R71, R78)
  (∀ (c : Fin 4) (d : CrossingDef) (k : Coupling) (st : GateState) (s : State), (s.track.crossings.get c).defn = some d →
     s.track.couplings.get c = some k →
     let delay := (s.track.crossings.get c).openDelay
     let passed := { k with timeout := (match k.timeout with | .running _ => .absent | t => t), retry := false }
     let waits := (indices 8).filter fun t => (s.heldOf t).any fun e => s.sec e.1 == .pending t && (s.track.defs.get e.1).crossing == some c
     let seen := forEach waits (fun t => State.later (.complete t)) (s.setCoupling c (some passed))
     let retried := k.retry = true ∧ k.demand = .open_ ∧ s.engaged = false
     (st ≠ .closed → gateSeen c st s = s) ∧ (¬retried → gateSeen c .closed s = seen) ∧
     (retried → 0 < delay → gateSeen c .closed s = seen.setCoupling c (some { passed with openDelay := some delay })) ∧
     (retried → delay = 0 → gateSeen c .closed s =
       if (s.axes.get d.axis).gateState = .unknown then seen.setCoupling c (some { passed with openDelay := none })
       else gateCommand d.axis .open_ (seen.setCoupling c (some { passed with openDelay := none, last := some .open_, timeout := .absent })))) ∧
  -- A command to a gate axis, a retry, and the GATE_STATE of a change (R78, R118)
  (∀ (a : Fin 8) (w : GateWish) (s : State),
     let x := s.axes.get a
     let shown := s.modAxis a fun x => { x with reported := x.gateState }
     gateCommand a w s = syncGate a (s.modAxis a (Axis.command s.supply.rails.motion w)) ∧
     retryGate a s = syncGate a (s.modAxis a (Axis.retry s.supply.rails.motion)) ∧
     (x.gateState = x.reported → syncGate a s = s) ∧ (x.gateState ≠ x.reported → x.kind ≠ .gate → syncGate a s = shown) ∧
     ∀ l : List (Fin 4), x.gateState ≠ x.reported → x.kind = .gate → l.Pairwise (· < ·) →
       (∀ c, c ∈ l ↔ ∃ d, (s.track.crossings.get c).defn = some d ∧ d.axis = a) →
       syncGate a s = forEach l (fun c s => (s.raise (.gateState c x.gateState)).later (.gateSeen c x.gateState)) shown) ∧
  (∀ x : Axis,
     x.enterHoming = { x with
       state := .homing, homed := false, fault := none, homeRun := 0, homeTravel := 0, motion := .home, met := false
       dir := if x.v = 0 then x.homeDir else x.dir, phase := if x.v = 0 ∨ x.dir = x.homeDir then .cruise else .reversing } ∧
     x.retry true = { x with goal := .closed }.enterHoming ∧
     x.retry false = { x with goal := .closed, fault := none, homed := false, state := if x.state = .held then .held else .unhomed }) ∧
  (∀ (x : Axis) (up : Bool) (w : GateWish),
     let aimed := fun g : GateGoal => { x with goal := g }
     let goal := match w with | .close => GateGoal.closed | .open_ => .open_
     let place := match w with | .close => x.closedPos | .open_ => x.openPos
     (x.kind ≠ .gate ∨ x.state = .fault → x.command up w = x) ∧
     (x.kind = .gate → x.state ≠ .fault →
       (x.state = .held ∨ up = false ∨ x.state = .homing → x.command up w = aimed goal) ∧
       (up = true → x.state ≠ .held → x.state ≠ .homing → x.homed = false → x.command up w = (aimed goal).enterHoming) ∧
       (up = true → x.homed = true → x.state = .idle → x.pos = place → x.command up w = aimed goal) ∧
       (up = true → x.homed = true → (x.state = .moving ∨ (x.state = .idle ∧ x.pos ≠ place)) →
         x.command up w = (aimed goal).retarget place)) ∧
     (x.gateState = .unknown ↔ x.kind ≠ .gate ∨ x.homed = false) ∧
     (x.kind = .gate → x.homed = true → x.openPos ≠ x.closedPos →
       (x.gateState = .open_ ↔ x.state = .idle ∧ x.pos = x.openPos) ∧ (x.gateState = .closed ↔ x.state = .idle ∧ x.pos = x.closedPos) ∧
       (x.gateState = .closing ↔ x.state = .moving ∧ x.motion = .position x.closedPos))) ∧
  (∀ (a : Fin 8) (code : AxisFaultCode) (s : State),
     ((s.axes.get a).state = .fault → faultAxis a code s = s) ∧
     ((s.axes.get a).state ≠ .fault → faultAxis a code s = syncGate a ((s.modAxis a fun x =>
       { x with state := .fault, homed := false, fault := some code, motion := .none, phase := .cruise, goal := .none, met := false
                f := if x.v = 0 then 0 else x.f }).raise (.axisFault a code)))) ∧
  (∀ (tag : Nat) (c : Fin 4) (s : State), s.ready = true →
    (∀ n, 3 < n → exec (.gateRetry tag n) s = .next (s.served tag (.gateRetry n) id (refuse .outOfRange))) ∧
    (s.track.config ≠ .operational ∨ (s.track.crossings.get c).defn = none ∨ s.track.couplings.get c = none →
      exec (.gateRetry tag c.1) s = .next (s.served tag (.gateRetry c.1) id (refuse .wrongState)))) ∧
  ∀ (tag : Nat) (c : Fin 4) (d : CrossingDef) (k : Coupling) (s : State), (s.track.crossings.get c).defn = some d →
    s.track.couplings.get c = some k → s.work.isClear = true →
    (k.openDelay = some 0 → exec (.openDelayExpiry c.1) s = .next (finish (
      if (s.axes.get d.axis).gateState = .unknown then s.setCoupling c (some { k with openDelay := none })
      else gateCommand d.axis .open_ (s.setCoupling c (some { k with openDelay := none, last := some .open_, timeout := .absent, retry := false }))))) ∧
    (k.openDelay ≠ some 0 → exec (.openDelayExpiry c.1) s = .next s) ∧
    (k.timeout = .running 0 → exec (.gateTimeoutExpiry c.1) s =
      .next (finish (faultAxis d.axis .gateTimeout (s.setCoupling c (some { k with timeout := .absent, retry := false }))))) ∧
    (k.timeout ≠ .running 0 → exec (.gateTimeoutExpiry c.1) s = .next s) ∧
    (s.ready = true → s.track.config = .operational → s.engaged = true →
      exec (.gateRetry tag c.1) s = .next (s.served tag (.gateRetry c.1) id (refuse .interlocked))) ∧
    (s.ready = true → s.track.config = .operational → s.engaged = false →
      exec (.gateRetry tag c.1) s = .next (s.served tag (.gateRetry c.1) (fun s => retryGate d.axis (s.setCoupling c (some
        { k with last := some .close, timeout := .running (s.track.crossings.get c).gateTimeout, openDelay := none, retry := true }))) taken))

/-- The clearance (R73): when the timer has reached 0 the section is FREE and SECTION_FREE is raised; a train that waits is
granted it at once; a timer that still runs is left as it is (log entry 2). A claim (R69, R93): a train with a route, a place in
its held list and no claim takes the first section of its queue; a FREE one is granted at once, for any other it joins the end
of the waiting list. A grant (R63, R70): the throws POINT_THROW queued for the section's points are dropped; the section is
PENDING for the train, in front of its held list, unless the move's facing point would have to be thrown under an OCCUPIED
section, which fails with NO_THROW; a throw that is needed is queued for the section itself or for a RESERVED prev that goes
back to PENDING. Completion (R71): when no throw for it is outstanding and every gate reads CLOSED the PENDING sections are
RESERVED and ROUTE_READY is raised. A release (R72): the section is CLEARING, or FREE as soon as its clearance of 0 is taken,
out of the held list, and its queued throw is dropped. A section's change of state has its crossing, if it has one, work its
demand out again. A pulse that serves a grant is log entry 40, and what is put off with `later` is log entry 4. -/
def Obligations.ClaimsAndClearance : Prop :=
  (∀ (x : Fin 48) (s : State), s.work.isClear = true →
     let free := (setSec x .free s).raise (.sectionFree x)
     (s.sec x = .clearing 0 → (s.track.runs.get x).waiting = [] → exec (.clearanceExpiry x.1) s = .next (finish free)) ∧
     (∀ t rest e, s.sec x = .clearing 0 → (s.track.runs.get x).waiting = t :: rest → (s.trains.get t).claim = .waiting x e →
       exec (.clearanceExpiry x.1) s = .next (finish (grant t x e free))) ∧
     (s.sec x ≠ .clearing 0 → exec (.clearanceExpiry x.1) s = .next s)) ∧
  (∀ (t : Fin 8) (x : Fin 48) (e : End) (rest : List (Fin 48 × End)) (s : State),
    let r := s.trains.get t
    let claimed := s.modTrain t fun y => { y with queue := rest, claim := .waiting x e }
    r.queue = (x, e) :: rest → r.claim = .none → r.held.length < 16 → r.halt = none → r.placed = true →
      (s.sec x = .free → testClaim t s = grant t x e claimed) ∧
      (s.sec x ≠ .free → testClaim t s = claimed.modRun x fun r => { r with waiting := r.waiting ++ [t] })) ∧
  (∀ (t : Fin 8) (x prev : Fin 48) (e : End) (sense : Sense) (s0 : State), s0.frontOf t = some (prev, sense) →
    let drops := fun q : ThrowEntry => q.origin == .request && (s0.pointDef q.point).any fun d => d.sec == x
    let left := s0.setQueue (s0.track.queue.filter fun q => !drops q)
    let s := if s0.track.queue.head?.any drops then left.later .examine else left
    let pended := resync t (((setSec x (.pending t) (s.modRun x fun r => { r with waiting := r.waiting.filter fun u => u != t })).modTrain t
      fun y => { y with held := y.held ++ [(x, e.sense)] }).modTrain t fun r => { r with claim := .granted x })
    let needs := moveNeeds s prev sense.exitEnd x e
    let inPlace := fun (p : Fin 24) (w : Position) =>
      (s.track.points.get p).position = w ∧ ∀ w' ms serves, s.track.unit_ ≠ .pulsing p w' ms serves
    let throwsFor := fun (p : Fin 24) (y : Fin 48) => ∃ d, s.pointDef p = some d ∧ d.sec = y
    (needs = none → grant t x e s0 = pended.later (.complete t)) ∧
    (∀ p w, needs = some (p, w) → inPlace p w → grant t x e s0 = pended.later (.complete t)) ∧
    (∀ p w, needs = some (p, w) → ¬inPlace p w → throwsFor p x →
      grant t x e s0 = (queueThrow { point := p, position := w, origin := .grant t x } pended).later (.complete t)) ∧
    (∀ p w, needs = some (p, w) → ¬inPlace p w → ¬throwsFor p x → s.sec prev = .reserved t →
      grant t x e s0 = (queueThrow { point := p, position := w, origin := .grant t prev }
        (resync t (setSec prev (.pending t) pended))).later (.complete t)) ∧
    (∀ p w, needs = some (p, w) → ¬inPlace p w → ¬throwsFor p x → s.sec prev ≠ .reserved t →
      grant t x e s0 = ((clearSec x (s.modRun x fun r => { r with waiting := r.waiting.filter fun u => u != t })).modTrain t
        fun y => { y with claim := .none, queue := [], routeEnd := none }).raise (.routeFault t .noThrow))) ∧
  (∀ (a b : Fin 48) (x y : End) (p : Fin 24) (d : PointDef) (s : State),
    (s.linkAt a x = .point p → s.pointDef p = some d →
      (d.normal = ⟨b, y⟩ → moveNeeds s a x b y = some (p, .normal)) ∧
      (d.normal ≠ ⟨b, y⟩ → d.reverse = ⟨b, y⟩ → moveNeeds s a x b y = some (p, .reverse))) ∧
    ((∀ q, s.linkAt a x ≠ .point q) → s.linkAt b y = .point p → s.pointDef p = some d →
      (d.normal = ⟨a, x⟩ → moveNeeds s a x b y = some (p, .normal)) ∧
      (d.normal ≠ ⟨a, x⟩ → d.reverse = ⟨a, x⟩ → moveNeeds s a x b y = some (p, .reverse))) ∧
    ((∀ q, s.linkAt a x ≠ .point q) → (∀ q, s.linkAt b y ≠ .point q) → moveNeeds s a x b y = none)) ∧
  (∀ (t : Fin 8) (x : Fin 48) (s : State), (s.trains.get t).claim = .granted x →
    let held := ((s.heldOf t).map Prod.fst).filter fun y => s.sec y == .pending t
    let waits := (∃ q ∈ s.track.queue, ∃ y, q.origin = .grant t y) ∨ (∃ p w ms, s.track.unit_ = .pulsing p w ms (some t)) ∨
      ∃ y ∈ held, ∃ c d, (s.track.defs.get y).crossing = some c ∧ (s.track.crossings.get c).defn = some d ∧
        (s.axes.get d.axis).gateState ≠ .closed
    let reserved := (forEach held (fun y => setSec y (.reserved t)) s).modTrain t fun r =>
      { r with claim := .none, routeEnd := if r.routeEnd = some x then none else r.routeEnd }
    (¬waits → completeGrant t s = ((resync t reserved).raise (.routeReady t x)).later (.claim t)) ∧ (waits → completeGrant t s = s)) ∧
  ∀ (t : Fin 8) (x : Fin 48) (s : State),
    let n := (s.track.defs.get x).clearance
    (clearSec x s = if n = 0 then (setSec x (.clearing 0) s).later (.expire x) else setSec x (.clearing n) s) ∧
    releaseSec t x s = resync t (dropGrantThrow x (clearSec x
      ((s.modTrain t fun y => { y with held := y.held.filter fun e => e.1 != x }).later (.claim t)))) ∧
    (s.track.queue.head?.any (fun q => match q.origin with | .grant _ y => y == x | .request => false) = false →
      (dropGrantThrow x s).work = s.work) ∧
    (∀ q, q ∈ (dropGrantThrow x s).track.queue ↔ q ∈ s.track.queue ∧ ∀ u, q.origin ≠ .grant u x) ∧
    ∀ st, ((s.track.defs.get x).crossing = none → setSec x st s = s.modRun x fun r => { r with state := st }) ∧
      ∀ c, (s.track.defs.get x).crossing = some c → setSec x st s = redemand c (s.modRun x fun r => { r with state := st })

/-- The detector filter (R66): ENTER is confirmed at the third of three occupied samples in a row; LEAVE when the empty run
reaches or passes the release filter, 2 ms a sample; any sample equal to the confirmed state clears the run. The rows (R66, R67,
R80, R83; log entry 2): DETECTOR_SAMPLE samples every section still due, in order; the rows DETECTOR_ENTER and DETECTOR_LEAVE
are the due sample of one section that confirms just that; while the TRACK rail is DOWN or the cut-off ACTIVE no record moves.
Otherwise the sample goes through the section's filter, 300 ms for a section that is not present (R54), and what it confirms is
handed on only in service and for a present section (R52); the two rows are decided by that same sample. That all that follows
from one section comes before the next is sampled is log entry 63. -/
def Obligations.Detectors : Prop :=
  (∀ (filter : Nat) (d : Detector),
     (d.occupied = false → d.sample filter false = ({ occupied := false, progress := 0 }, .nothing)) ∧
     (d.occupied = false → d.progress < 2 → d.sample filter true = ({ occupied := false, progress := d.progress + 1 }, .nothing)) ∧
     (d.occupied = false → d.progress = 2 → d.sample filter true = ({ occupied := true, progress := 0 }, .enter)) ∧
     (d.occupied = true → d.sample filter true = ({ occupied := true, progress := 0 }, .nothing)) ∧
     (d.occupied = true → filter ≤ d.progress + 2 → d.sample filter false = ({ occupied := false, progress := 0 }, .leave)) ∧
     (d.occupied = true → d.progress + 2 < filter → d.sample filter false = ({ occupied := true, progress := d.progress + 2 }, .nothing))) ∧
  ∀ (levels : Nat) (x : Fin 48) (s : State), s.work.isClear = true →
    let on := s.modPins fun p => { p with detect := p.detect ||| (1#48 <<< x.1) }
    let off := s.modPins fun p => { p with detect := p.detect &&& ~~~(1#48 <<< x.1) }
    let read := s.modPins fun p => { p with detect := BitVec.ofNat 48 levels }
    exec (.detectorSample levels) s = .next (finish (eachSettled s.dueDetectors sampleDetector read)) ∧
    exec (.detectorEnter x.1) s =
      .next (if s.sched.detect.getLsbD x.1 && on.wouldConfirm x == .enter then finish (sampleDetector x on) else s) ∧
    exec (.detectorLeave x.1) s =
      .next (if s.sched.detect.getLsbD x.1 && off.wouldConfirm x == .leave then finish (sampleDetector x off) else s) ∧
    (s.trackPowered = false → s.wouldConfirm x = .nothing ∧ sampleDetector x s = s.modSched fun d => { d with detect := d.detect &&& ~~~(1#48 <<< x.1) }) ∧
    (s.trackPowered = true ↔ s.supply.rails.track = true ∧ s.supply.cutoff = false) ∧
    (s.trackPowered = true →
      let r := (s.track.detectors.get x).sample (if (s.track.defs.get x).present = true then (s.track.defs.get x).filter else 300)
        (s.pins.detect.getLsbD x.1)
      let kept := (s.modSched fun d => { d with detect := d.detect &&& ~~~(1#48 <<< x.1) }).modTrack fun k =>
        { k with detectors := k.detectors.set x r.1 }
      let served := s.track.config = .operational ∧ (s.track.defs.get x).present = true
      s.wouldConfirm x = r.2 ∧ (¬served ∨ r.2 = .nothing → sampleDetector x s = kept) ∧ (served → r.2 = .enter → sampleDetector x s = takeEnter x kept) ∧
      (served → r.2 = .leave → sampleDetector x s = takeLeave x kept))

/-- A confirmed entry (R80, R81). On a section held by a train, next ahead of it or faced by no other train, the section is
OCCUPIED by its holder and SECTION_ENTER is raised; if it was PENDING its queued throw is dropped and the train is halted with
OVERRUN. On one that is not next ahead while others face it, it is STRAY, what its holder has PENDING or RESERVED ahead is
released, the others are halted with OVERRUN and the holder with CONFLICT; a holder that faces the section itself is halted with
CONFLICT alone (log entry 45). On a FREE or CLEARING section, the one train that faces it, if its held list has room, takes it
OCCUPIED and is halted with OVERRUN; else it is STRAY, STRAY_SEEN is raised, and every train that faces it is halted, in index
order (log entry 46). On one already OCCUPIED or STRAY nothing happens. Next ahead (5.6) is the section in front of the head, or
any held one without a head; a train faces the present neighbour (R62) through its front's exit end. A halt (R82, R100) stops
the train with its first fault, withdraws its claim and releases what it has PENDING; with a claim ROUTE_FAULT(HALTED) is
raised, without one its route ends. A confirmed leave (R83): a STRAY section clears; the last OCCUPIED section of a train goes
back to RESERVED and the train is lost; the rear of several is left, and in AUTO_RELEASE it and what is reserved behind it are
released (several sections of a train are released from rear to front: log entry 54); a section in front of another OCCUPIED one
goes back to RESERVED. -/
def Obligations.EntriesAndLeaves : Prop :=
  (∀ (x : Fin 48) (t : Fin 8) (s : State),
     (s.sec x = .reserved t → nextAhead s t x = true →
       takeEnter x s = (resync t (setSec x (.occupied t) s)).raise (.sectionEnter x t)) ∧
     (s.sec x = .free → facingTrains s x = [] →
       takeEnter x s = (dropRequestThrows x (setSec x .stray s)).raise (.straySeen x)) ∧
     (s.sec x = .occupied t ∨ s.sec x = .stray → takeEnter x s = s) ∧
     let mine := nextAhead s t x = true ∨ ∀ u, u ≠ t → facingEnd s u x = none
     (s.sec x = .reserved t → mine → takeEnter x s = (resync t (setSec x (.occupied t) s)).raise (.sectionEnter x t)) ∧
     (s.sec x = .pending t → mine → takeEnter x s =
       halt t .overrun ((resync t (dropGrantThrow x (setSec x (.occupied t) s))).raise (.sectionEnter x t))) ∧
     (s.sec x = .pending t ∨ s.sec x = .reserved t → ¬mine →
       let others := (indices 8).filter fun u => (facingEnd s u x).isSome && u != t
       let ahead := ((((s.heldOf t).map Prod.fst).dropWhile fun y => y != x).drop 1).filter fun y =>
         s.sec y == .pending t || s.sec y == .reserved t
       let left := forEach ahead (releaseSec t) (dropGrantThrow x (leaveHeld t x (setSec x .stray s)))
       takeEnter x s = halt t .conflict (forEach others (fun u => halt u .overrun) ((resync t left).raise (.straySeen x)))) ∧
     let stray := (dropRequestThrows x (setSec x .stray s)).raise (.straySeen x)
     (s.sec x = .free ∨ (∃ ms, s.sec x = .clearing ms) →
       ((∀ u, facingEnd s u x = none) → takeEnter x s = stray) ∧
       (∀ e, facingEnd s t x = some e → (∀ u, u ≠ t → facingEnd s u x = none) →
         takeEnter x s =
           if (s.heldOf t).length < 16 then
             let joined := (setSec x (.occupied t) s).modTrain t fun y => { y with held := y.held ++ [(x, e.sense)] }
             halt t .overrun ((resync t (dropRequestThrows x (withdraw t x joined))).raise (.sectionEnter x t))
           else halt t .overrun stray) ∧
       (∀ u, u ≠ t → (facingEnd s t x).isSome = true → (facingEnd s u x).isSome = true →
         takeEnter x s = forEach ((indices 8).filter fun v => (facingEnd s v x).isSome) (fun v => halt v .overrun) stray))) ∧
  (∀ (x y : Fin 48) (t : Fin 8) (e : End) (s : State),
    (facingEnd s t x = some e ↔
      ∃ z sense, s.frontOf t = some (z, sense) ∧ presentNeighbour s z sense.exitEnd = some (x, e)) ∧
    ((∀ h ∈ s.heldOf t, s.sec h.1 ≠ .occupied t) → (nextAhead s t x = true ↔ ∃ sense, (x, sense) ∈ s.heldOf t)) ∧
    (∀ rear front h sense, s.heldOf t = rear ++ h :: (y, sense) :: front → s.sec h.1 = .occupied t →
      (∀ k ∈ (y, sense) :: front, s.sec k.1 ≠ .occupied t) → (nextAhead s t x = true ↔ y = x)) ∧
    (∀ rear h, s.heldOf t = rear ++ [h] → s.sec h.1 = .occupied t → nextAhead s t x = false) ∧
    ((s.track.defs.get x).present = true →
      (∀ f, s.linkAt x e = .plain y f → presentNeighbour s x e =
        match moveNeeds s x e y f with
        | none => some (y, f)
        | some (p, w) => if (s.track.points.get p).position = w then some (y, f) else none) ∧
      (∀ p d, s.linkAt x e = .point p → s.pointDef p = some d → d.normal ≠ d.reverse → presentNeighbour s x e =
        match (s.track.points.get p).position with
        | .normal => some (d.normal.sec, d.normal.fin)
        | .reverse => some (d.reverse.sec, d.reverse.fin)
        | .unknown => none) ∧
      (s.linkAt x e = .buffer → presentNeighbour s x e = none))) ∧
  (∀ (t : Fin 8) (f : HaltFault) (s : State),
    let r := s.trains.get t
    let stopped := resync t ((s.modTrain t fun x => { x with
      speed := 0, requested := 0, timer := 0, stepDue := false, halt := some f, stop := .none }).raise (.trainHalted t f))
    let end_ := fun (s : State) (claim : Claim) =>
      let left := releasePending t (match claim with | .waiting x _ => withdraw t x s | _ => s)
      if claim = .none then
        (if (left.trains.get t).routeEnd.isSome then left.handEnding (.route t) else left).modTrain t fun x =>
          { x with queue := [], routeEnd := none }
      else (left.modTrain t fun x => { x with claim := .none, queue := [], routeEnd := none }).raise (.routeFault t .halted)
    (r.halt = none → halt t f s = end_ stopped r.claim) ∧ (r.halt.isSome = true → halt t f s = end_ s r.claim)) ∧
  ∀ (x : Fin 48) (t : Fin 8) (s : State),
    (s.sec x = .stray → takeLeave x s = clearSec x s) ∧
    (s.sec x = .occupied t → s.occupiedOf t = [x] → takeLeave x s = halt t .lost (resync t (setSec x (.reserved t) s))) ∧
    (∀ y rest, s.sec x = .occupied t → s.occupiedOf t = x :: y :: rest → (s.trains.get t).mode = .hold →
      takeLeave x s = (resync t (setSec x (.reserved t) s)).raise (.sectionLeave x t)) ∧
    (∀ y rest, s.sec x = .occupied t → s.occupiedOf t = x :: y :: rest → (s.trains.get t).mode = .autoRelease →
      takeLeave x s = forEach (((((s.heldOf t).map Prod.fst).takeWhile fun z => z != x).filter fun z => s.sec z == .reserved t) ++ [x])
        (releaseSec t) (s.raise (.sectionLeave x t))) ∧
    (∀ y rest, s.sec x = .occupied t → s.occupiedOf t = y :: rest → y ≠ x → takeLeave x s = resync t (setSec x (.reserved t) s))

/-! ## Trains -/

/-- TRAIN_CONFIG (R90), TRAIN_SPEED and TRAIN_STOP (R97), TRAIN_CLEAR_FAULT (R101) of a train the part has: the record's change,
and the effective target worked out again. That TRAIN_CONFIG decides anew whether a ramp step of the present millisecond is due
is log entry 2. -/
def Obligations.TrainSettings : Prop :=
  ∀ (tag : Nat) (t : Fin 8) (top accel decel speed : Nat) (s : State), s.ready = true →
    let x := s.trains.get t
    exec (.trainConfig tag t.1 top accel decel) s = .next (s.served tag (.trainConfig t.1 top accel decel)
      (fun s => resync t (s.modTrain t fun x => { x with
        maxSpeed := max 1 top, accel := max 1 accel, decel := max 1 decel, requested := min (max 1 top) x.requested
        speed := min (max 1 top) x.speed
        stepDue := x.stepDue && decide ((if x.dir = .up then max 1 accel else max 1 decel) ≤ x.timer) }))
      { code := .ok, clamped := decide (top = 0) || decide (accel = 0) || decide (decel = 0) || decide (max 1 top < x.requested), data := [] }) ∧
    (x.placed = true → x.halt = none → exec (.trainSpeed tag t.1 speed) s = .next (s.served tag (.trainSpeed t.1 speed)
      (fun s => resync t (s.modTrain t fun x => { x with requested := min x.maxSpeed speed }))
      { code := .ok, clamped := decide (x.maxSpeed < speed), data := [] })) ∧
    (x.placed = false ∨ x.halt.isSome = true →
      exec (.trainSpeed tag t.1 speed) s = .next (s.served tag (.trainSpeed t.1 speed) id (refuse .wrongState))) ∧
    (x.placed = true → exec (.trainStop tag t.1) s =
      .next (s.served tag (.trainStop t.1) (fun s => resync t (s.modTrain t fun x => { x with requested := 0 })) okay)) ∧
    (x.placed = false → exec (.trainStop tag t.1) s = .next (s.served tag (.trainStop t.1) id (refuse .wrongState))) ∧
    (x.placed = true → x.halt.isSome = true → exec (.trainClearFault tag t.1) s =
      .next (s.served tag (.trainClearFault t.1) (fun s => resync t (s.modTrain t fun x => { x with halt := none })) okay)) ∧
    (x.placed = false ∨ x.halt = none →
      exec (.trainClearFault tag t.1) s = .next (s.served tag (.trainClearFault t.1) id (refuse .wrongState))) ∧
    ∀ train, 7 < train →
      exec (.trainConfig tag train top accel decel) s = .next (s.served tag (.trainConfig train top accel decel) id (refuse .outOfRange)) ∧
      exec (.trainSpeed tag train speed) s = .next (s.served tag (.trainSpeed train speed) id (refuse .outOfRange)) ∧
      exec (.trainStop tag train) s = .next (s.served tag (.trainStop train) id (refuse .outOfRange)) ∧
      exec (.trainClearFault tag train) s = .next (s.served tag (.trainClearFault train) id (refuse .outOfRange))

/-- The state of a train and its effective target (R86, R95): the state follows from being placed, the halt fault and the speed; the
target is the requested one unless the train is halted, the TRACK rail DOWN, the cut-off ACTIVE, the interlock ENGAGED or the authority
empty. The authority (R87): empty without an OCCUPIED section; with one, the RESERVED sections immediately in front of the frontmost
OCCUPIED section of the held list, up to the first that is not RESERVED. The target of an UNPLACED train is 0 (log entry 50). The
lines of a section (R63, R98; that they are read from the state is log entry 41): the duty is nonzero only while the TRACK rail is UP,
the cut-off inactive, the interlock RELEASED and the section OCCUPIED by, or RESERVED within the authority of, a train whose speed is
nonzero, and then equals that speed × 1023 div 255; the polarity line is high exactly for a section held A_TO_B in service. -/
def Obligations.StateTargetAuthority : Prop :=
  (∀ (t : Fin 8) (s : State),
     let x := s.trains.get t
     (x.state = .unplaced ↔ x.placed = false) ∧ (x.state = .halted ↔ x.placed = true ∧ x.halt.isSome = true) ∧
       (x.state = .standing ↔ x.placed = true ∧ x.halt = none ∧ x.speed = 0) ∧
       (x.state = .running ↔ x.placed = true ∧ x.halt = none ∧ 0 < x.speed) ∧
       (x.placed = true → s.effective t =
         if x.halt.isSome = true ∨ s.supply.rails.track = false ∨ s.supply.cutoff = true ∨ s.supply.keyOn = true ∨ s.authority t = [] then 0
         else x.requested) ∧
       (x.placed = false → s.effective t = 0)) ∧
  (∀ (t : Fin 8) (s : State),
    ((∀ e ∈ s.heldOf t, s.sec e.1 ≠ .occupied t) → s.authority t = []) ∧
    ∀ (rear run front : List (Fin 48 × Sense)) (h : Fin 48 × Sense), s.heldOf t = rear ++ h :: run ++ front →
      s.sec h.1 = .occupied t → (∀ e ∈ run, s.sec e.1 = .reserved t) → (∀ e ∈ front, s.sec e.1 ≠ .occupied t) →
      (∀ e rest, front = e :: rest → s.sec e.1 ≠ .reserved t) → s.authority t = run.map Prod.fst) ∧
  ∀ (x : Fin 48) (t : Fin 8) (s : State),
    let inService := s.supply.rails.track = true ∧ s.supply.cutoff = false ∧ s.supply.keyOn = false ∧ s.track.config = .operational
    let runsOn := fun t : Fin 8 => s.sec x = .occupied t ∨ s.sec x = .reserved t ∧ x ∈ s.authority t
    (0 < s.sectionDuty x → inService ∧ ∃ t, runsOn t ∧ 0 < (s.trains.get t).speed ∧
      s.sectionDuty x = (s.trains.get t).speed * 1023 / 255) ∧
    (inService → runsOn t → s.sectionDuty x = (s.trains.get t).speed * 1023 / 255) ∧
    (¬(inService ∧ ∃ u, runsOn u) → s.sectionDuty x = 0) ∧
    (s.track.config ≠ .operational ∨ (s.sec x).holder = none → s.polarity x = false) ∧
    ∀ sense, s.track.config = .operational → (s.sec x).holder = some t → ((s.heldOf t).map Prod.fst).Nodup → (x, sense) ∈ s.heldOf t →
      (s.polarity x = true ↔ sense = .aToB)

/-- The ramp (R95, R96): the needed step is up, down or none as the current speed stands to the effective target; it is worked
out again after every change, and a step of another direction than before, or none, starts the ramp timer again at 0. A due step
moves the speed by one in that direction, which is toward the effective target, and starts the timer again; the step that brings
the speed to 0 writes the stop reason and raises TRAIN_STOPPED; a step that is not due is left (log entry 2). An emergency stop
(R99): a placed train without a halt fault that moves is at once at speed 0 with the reason, and TRAIN_STOPPED is raised; one
that stands keeps its reason; every other train is left as it is. -/
def Obligations.RampAndEmergencyStop : Prop :=
  (∀ (t : Fin 8) (s : State), s.work.isClear = true →
     let x := s.trains.get t
     (x.stepDue = false → exec (.trainRampStep t.1) s = .next s) ∧
     (x.stepDue = true → x.dir = .level → exec (.trainRampStep t.1) s = .next (finish s)) ∧
     (x.stepDue = true → x.dir = .up → exec (.trainRampStep t.1) s = .next (finish (resync t
       (s.modTrain t fun x => { x with timer := 0, stepDue := false, speed := x.speed + 1 })))) ∧
     (x.stepDue = true → x.dir = .down → x.speed ≠ 1 → exec (.trainRampStep t.1) s = .next (finish (resync t
       (s.modTrain t fun x => { x with timer := 0, stepDue := false, speed := x.speed - 1 })))) ∧
     (x.stepDue = true → x.dir = .down → x.speed = 1 →
       let reason := if x.requested = 0 then StopReason.request else .authority
       exec (.trainRampStep t.1) s = .next (finish (resync t
         ((s.modTrain t fun x => { x with timer := 0, stepDue := false, speed := 0, stop := reason }).raise (.trainStopped t reason)))))) ∧
  -- The needed step (R95, R96)
  (∀ (t : Fin 8) (s : State),
     let x := s.trains.get t
     let needed := if x.speed < s.effective t then RampDir.up else if s.effective t < x.speed then .down else .level
     (x.dir = needed → resync t s = s) ∧
     (x.dir ≠ needed → resync t s = s.modTrain t fun x => { x with dir := needed, timer := 0, stepDue := false }) ∧
     ((resync t s).trains.get t).dir = needed ∧ (resync t s).effective t = s.effective t ∧
     (s.work.isClear = true → x.stepDue = true → x.dir = needed →
       (x.speed < s.effective t → exec (.trainRampStep t.1) s = .next (finish (resync t
         (s.modTrain t fun x => { x with timer := 0, stepDue := false, speed := x.speed + 1 })))) ∧
       (s.effective t < x.speed → x.speed ≠ 1 → exec (.trainRampStep t.1) s = .next (finish (resync t
         (s.modTrain t fun x => { x with timer := 0, stepDue := false, speed := x.speed - 1 }))))) ∧
     resyncAll s = forEach (indices 8) resync s) ∧
  ∀ (reason : StopReason) (t : Fin 8) (s : State),
    let x := s.trains.get t
    (x.placed = true → x.halt = none → x.speed ≠ 0 → emergencyStopOne reason t s =
      (s.modTrain t fun y => { y with timer := 0, stepDue := false, speed := 0, stop := reason }).raise (.trainStopped t reason)) ∧
    (x.placed = true → x.halt = none → x.speed = 0 →
      emergencyStopOne reason t s = s.modTrain t fun y => { y with timer := 0, stepDue := false }) ∧
    (x.placed = false ∨ x.halt.isSome = true → emergencyStopOne reason t s = s) ∧
    ∀ u, ((emergencyStop reason s).trains.get u).speed = if (s.trains.get u).placed = true ∧ (s.trains.get u).halt = none then 0
      else (s.trains.get u).speed

/-- TRAIN_PLACE (R88) of 1 to 4 sections, check by check: an index, a sense, a train or a count out of range (which index is
named: log entry 32); out of service or a placed train; a section that is not present; one that appears twice; one that is no
possible neighbour through the exit end of the one before, entered at the end its sense names; one that is neither FREE nor
STRAY; each with its list index, the first of several (log entry 57; the details' numbers are log entry 31). Otherwise the train
stands, and rear to front a STRAY section becomes OCCUPIED and a FREE one RESERVED. TRAIN_REMOVE (R89) of a standing train
without route: rear to front an OCCUPIED section becomes STRAY, leaves the held list and raises STRAY_SEEN, and a RESERVED one
is released; then the train is UNPLACED. -/
def Obligations.PlaceAndRemove : Prop :=
  (∀ (tag : Nat) (t : Fin 8) (l : List (Fin 48 × Sense)) (s : State), s.ready = true → 1 ≤ l.length → l.length ≤ 4 →
    let secs := l.map fun e => (e.1.1, e.2.code)
    let r : Request := .trainPlace t.1 secs
    let refused := fun a => exec (.trainPlace tag t.1 secs) s = .next (s.served tag r id a)
    let names := l.map Prod.fst
    let takes := s.track.config = .operational ∧ (s.trains.get t).placed = false
    let present := fun x : Fin 48 => (s.track.defs.get x).present = true
    let joins := fun a b : Fin 48 × Sense =>
      let exit := match a.2 with | .aToB => End.b | .bToA => .a
      let entered : Leg := ⟨b.1, match b.2 with | .aToB => End.a | .bToA => .b⟩
      s.linkAt a.1 exit = .plain entered.sec entered.fin ∨
        ∃ p d, s.linkAt a.1 exit = .point p ∧ s.pointDef p = some d ∧ (d.normal = entered ∨ d.reverse = entered)
    let open_ := fun x : Fin 48 => s.sec x = .free ∨ s.sec x = .stray
    let stand := State.modTrain t fun y =>
      { y with placed := true, held := [], speed := 0, requested := 0, timer := 0, stop := .none, queue := [], claim := .none
               routeEnd := none, halt := none, dir := .level, stepDue := false }
    let place := fun (e : Fin 48 × Sense) (s : State) =>
      if s.sec e.1 = .stray then joinHeld t e.1 e.2 (setSec e.1 (.occupied t) s)
      else dropRequestThrows e.1 (joinHeld t e.1 e.2 (setSec e.1 (.reserved t) s))
    let sound := takes ∧ ∀ x ∈ names, present x
    let apart := sound ∧ names.Nodup
    let joined := apart ∧ ∀ before a b after, l = before ++ a :: b :: after → joins a b
    (¬takes → refused (refuse .wrongState)) ∧
    (∀ before x after, names = before ++ x :: after → takes → (∀ y ∈ before, present y) → ¬present x →
      refused (refuseAt .invalid 3 before.length 0)) ∧
    (∀ before x after, names = before ++ x :: after → sound → before.Nodup → x ∈ before → refused (refuseAt .invalid 4 before.length 0)) ∧
    (∀ before a b after, l = before ++ a :: b :: after → apart → ¬joins a b →
      (∀ front x y back, before ++ [a] = front ++ x :: y :: back → joins x y) → refused (refuseAt .notAdjacent 5 (before.length + 1) 0)) ∧
    (∀ before x after, names = before ++ x :: after → joined → (∀ y ∈ before, open_ y) → ¬open_ x →
      refused (refuseAt .inUse 6 before.length 0)) ∧
    (joined → (∀ x ∈ names, open_ x) →
      exec (.trainPlace tag t.1 secs) s = .next (s.served tag r (fun s => resync t (forEach l place (stand s))) okay))) ∧
  (∀ (tag : Nat) (t : Fin 8) (secs : List (Nat × Nat)) (s : State), s.ready = true →
    (∀ train, 7 < train ∨ secs.length < 1 ∨ 4 < secs.length →
      exec (.trainPlace tag train secs) s = .next (s.served tag (.trainPlace train secs) id (refuseAt .outOfRange 0 0 0))) ∧
    (∀ before e after, secs = before ++ e :: after → secs.length ≤ 4 →
      ((∀ y ∈ before, y.1 ≤ 47) ∧ 47 < e.1 ∨ (∀ y ∈ secs, y.1 ≤ 47) ∧ (∀ y ∈ before, y.2 ≤ 1) ∧ 1 < e.2) →
      exec (.trainPlace tag t.1 secs) s = .next (s.served tag (.trainPlace t.1 secs) id (refuseAt .outOfRange 0 before.length 0)))) ∧
  ∀ (tag : Nat) (t : Fin 8) (x : Fin 48) (s : State),
    (s.ready = true →
      ((s.trains.get t).state = .standing → (s.trains.get t).queue = [] → (s.trains.get t).claim = .none →
        exec (.trainRemove tag t.1) s = .next (s.served tag (.trainRemove t.1) (fun s =>
          (forEach ((s.heldOf t).map Prod.fst) (removeSec t) s).modTrain t fun x =>
            { x with placed := false, held := [], speed := 0, requested := 0, timer := 0, stop := .none, routeEnd := none, dir := .level
                     stepDue := false }) okay)) ∧
      ((s.trains.get t).state ≠ .standing ∨ (s.trains.get t).queue ≠ [] ∨ (s.trains.get t).claim ≠ .none →
        exec (.trainRemove tag t.1) s = .next (s.served tag (.trainRemove t.1) id (refuse .wrongState))) ∧
      ∀ train, 7 < train → exec (.trainRemove tag train) s = .next (s.served tag (.trainRemove train) id (refuse .outOfRange))) ∧
    (s.sec x = .occupied t → removeSec t x s =
      (((setSec x .stray s).modTrain t fun y => { y with held := y.held.filter fun e => e.1 != x }).later (.claim t)).raise (.straySeen x)) ∧
    (s.sec x ≠ .occupied t → removeSec t x s = releaseSec t x s)

/-- TRAIN_ROUTE (R91, R92) over possible neighbours that repeat none and that the train does not hold: the waiting claim is
withdrawn, an open route ends, the queue, the mode and the route's end are written, and the claim is tested; a section that is no
possible neighbour, that repeats an earlier one or that the train holds is refused with its index (the numbers are log entry 31).
The route is traced from the front's exit end: a section that the present section before it may reach is entered at the end
reached, at end A where both are, and left by the other (R61, R91). TRAIN_DIRECTION (R102) reverses the held list and every sense
and clears the requested speed, and is refused for a train whose front is not OCCUPIED. TRAIN_RELEASE (R94) of a placed train: the
queue is cleared, the sections it may give up are released rear to front (log entry 54), and the route ends, with
ROUTE_FAULT(RELEASED) when a grant was in flight and by a route ending otherwise. It gives up every section but the OCCUPIED ones;
a train without one keeps its frontmost section that is not PENDING, and one with PENDING sections alone keeps its first, which
goes back to RESERVED. That TRAIN_RELEASE takes the mark of a grant's pulse away, so that the pulse serves no grant at its end, is
log entry 40. A train, a mode, a count or a section out of range is refused (which index is named: log entry 32). -/
def Obligations.RouteRequests : Prop :=
  (∀ (tag : Nat) (t : Fin 8) (m : ReserveMode) (xs : List (Fin 48)) (s : State), s.ready = true →
     (∀ (y : Fin 48) (sense : Sense) (l : List (Fin 48 × End)), 1 ≤ xs.length → xs.length ≤ 12 →
       ((s.trains.get t).state = .standing ∨ (s.trains.get t).state = .running) → s.frontOf t = some (y, sense) →
       traceRoute s y sense.exitEnd xs 0 = .ok l → xs.Nodup → (∀ x ∈ xs, x ∉ (s.heldOf t).map Prod.fst) →
       exec (.trainRoute tag t.1 m.code (xs.map Fin.val)) s = .next (s.served tag (.trainRoute t.1 m.code (xs.map Fin.val)) (fun s =>
         ((routeEnding t (withdrawClaim t s)).modTrain t fun x => { x with queue := l, mode := m, routeEnd := xs.getLast? }).later (.claim t))
         taken)) ∧
     (∀ (y : Fin 48) (sense : Sense), 1 ≤ xs.length → xs.length ≤ 12 →
       ((s.trains.get t).state = .standing ∨ (s.trains.get t).state = .running) → s.frontOf t = some (y, sense) →
       let refused := fun row i : Nat => exec (.trainRoute tag t.1 m.code (xs.map Fin.val)) s =
         .next (s.served tag (.trainRoute t.1 m.code (xs.map Fin.val)) id (refuseAt .notAdjacent row i 0))
       (∀ i, traceRoute s y sense.exitEnd xs 0 = .error i → refused (if i = 0 then 2 else 3) i) ∧
       ∀ l before x rest, traceRoute s y sense.exitEnd xs 0 = .ok l → xs = before ++ x :: rest → before.Nodup →
         (∀ z ∈ before, z ∉ (s.heldOf t).map Prod.fst) → x ∈ before ∨ x ∈ (s.heldOf t).map Prod.fst → refused 4 before.length) ∧
     (1 ≤ xs.length → xs.length ≤ 12 → ((s.trains.get t).state = .unplaced ∨ (s.trains.get t).state = .halted) →
       exec (.trainRoute tag t.1 m.code (xs.map Fin.val)) s =
         .next (s.served tag (.trainRoute t.1 m.code (xs.map Fin.val)) id (refuse .wrongState))) ∧
     ((s.trains.get t).state = .standing → (s.trains.get t).queue = [] → (s.trains.get t).claim = .none →
       (∃ h rear, s.heldOf t = rear ++ [h] ∧ s.sec h.1 = .occupied t) →
       exec (.trainDirection tag t.1) s = .next (s.served tag (.trainDirection t.1) (fun s =>
         resync t (s.modTrain t fun x => { x with held := (x.held.map fun e => (e.1, e.2.flip)).reverse, requested := 0 })) okay)) ∧
     (∀ h rear, s.heldOf t = rear ++ [h] → s.sec h.1 ≠ .occupied t →
       exec (.trainDirection tag t.1) s = .next (s.served tag (.trainDirection t.1) id (refuse .wrongState))) ∧
     ((s.trains.get t).state ≠ .standing ∨ (s.trains.get t).queue ≠ [] ∨ (s.trains.get t).claim ≠ .none →
       exec (.trainDirection tag t.1) s = .next (s.served tag (.trainDirection t.1) id (refuse .wrongState)))) ∧
  -- The possible neighbours along a route (R61, R91)
  (∀ (z : Fin 48) (e : End) (xs : List (Fin 48)) (i : Nat) (y : Fin 48) (s : State),
    let follows := fun f : End => (s.track.defs.get z).present = true ∧ (s.linkAt z e = .plain y f ∨
      ∃ p d, s.linkAt z e = .point p ∧ s.pointDef p = some d ∧ (d.normal = ⟨y, f⟩ ∨ d.reverse = ⟨y, f⟩))
    let onward := fun f g : End => match traceRoute s y g xs (i + 1) with | .ok l => .ok ((y, f) :: l) | .error j => .error j
    traceRoute s z e [] i = .ok [] ∧ (follows .a → traceRoute s z e (y :: xs) i = onward .a .b) ∧
    (¬follows .a → follows .b → traceRoute s z e (y :: xs) i = onward .b .a) ∧
    (¬follows .a → ¬follows .b → traceRoute s z e (y :: xs) i = .error i)) ∧
  -- What TRAIN_RELEASE gives up (R94)
  (∀ (t : Fin 8) (s : State),
    let l := (s.heldOf t).map Prod.fst
    ((∃ x ∈ l, s.sec x = .occupied t) → releasable s t = l.filter (fun x => s.sec x != .occupied t) ∧ keepIfAllPending t s = s) ∧
    (∀ rear x front, l = rear ++ x :: front → (∀ y ∈ l, s.sec y ≠ .occupied t) → s.sec x ≠ .pending t → (∀ y ∈ front, s.sec y = .pending t) →
      releasable s t = l.filter (fun y => y != x) ∧ keepIfAllPending t s = s) ∧
    (∀ prev rest, l = prev :: rest → (∀ y ∈ l, s.sec y = .pending t) →
      releasable s t = rest ∧ keepIfAllPending t s = resync t (dropGrantThrow prev (setSec prev (.reserved t) s))) ∧
    (∀ p w ms, s.track.unit_ = .pulsing p w ms (some t) → unserve t s = s.setUnit (.pulsing p w ms none)) ∧
    ((∀ p w ms, s.track.unit_ ≠ .pulsing p w ms (some t)) → unserve t s = s)) ∧
  (∀ (tag : Nat) (t : Fin 8) (m : ReserveMode) (secs : List Nat) (s : State), s.ready = true →
    (∀ train mode, 7 < train ∨ 1 < mode ∨ secs.length < 1 ∨ 12 < secs.length →
      exec (.trainRoute tag train mode secs) s = .next (s.served tag (.trainRoute train mode secs) id (refuseAt .outOfRange 0 0 0))) ∧
    (∀ before x after, secs = before ++ x :: after → secs.length ≤ 12 → (∀ y ∈ before, y ≤ 47) → 47 < x →
      exec (.trainRoute tag t.1 m.code secs) s = .next (s.served tag (.trainRoute t.1 m.code secs) id (refuseAt .outOfRange 0 before.length 0))) ∧
    ∀ n, 7 < n → exec (.trainDirection tag n) s = .next (s.served tag (.trainDirection n) id (refuse .outOfRange)) ∧
      exec (.trainRelease tag n) s = .next (s.served tag (.trainRelease n) id (refuse .outOfRange))) ∧
  ∀ (tag : Nat) (t : Fin 8) (s : State), s.ready = true →
    ((s.trains.get t).placed = false → exec (.trainRelease tag t.1) s = .next (s.served tag (.trainRelease t.1) id (refuse .wrongState))) ∧
    ((s.trains.get t).placed = true → (∀ x, (s.trains.get t).claim ≠ .granted x) →
      exec (.trainRelease tag t.1) s = .next (s.served tag (.trainRelease t.1) (fun s =>
        let s1 := withdrawClaim t (s.modTrain t fun x => { x with queue := [] })
        resync t ((routeEnding t (unserve t (forEach (releasable s1 t) (releaseSec t) (keepIfAllPending t s1)))).modTrain t
          fun x => { x with routeEnd := none })) okay)) ∧
    (∀ x, (s.trains.get t).placed = true → (s.trains.get t).claim = .granted x →
      exec (.trainRelease tag t.1) s = .next (s.served tag (.trainRelease t.1) (fun s =>
        let s1 := s.modTrain t fun x => { x with queue := [] }
        resync t (routeFault t .released (unserve t (forEach (releasable s1 t) (releaseSec t) (keepIfAllPending t s1))))) okay))

/-! ## Motion axes -/

/-- AXIS_CONFIG (R106) of an axis that is UNHOMED, IDLE or in FAULT at rest, in service as no gate: the fields are stored,
speeds, accel, creep and tolerance clamped; homing, the fault, the goal, the travel since index, both runs and the armed flag
are as the rule leaves them, and the velocity and the direction as they were; the CLAMPED flag is set by any clamp. It is
refused for an axis, a kind or a field out of range, for gate positions that do not fit, in another state, and, in service, for
a kind other than GATE of a crossing's gate axis, with the crossing (R60; the detail's number is log entry 31). -/
def Obligations.AxisConfig : Prop :=
  ∀ (tag : Nat) (a : Fin 8) (k : AxisKind) (c : RawAxisConfig) (s : State), s.ready = true → c.kind = k.code →
    let x := s.axes.get a
    let r : Request := .axisConfig a.1 c
    let inRange := 2 ≤ c.spr ∧ c.spr ≤ 65535 ∧ c.offset < c.spr ∧ -1000000 ≤ c.low ∧ c.low ≤ 0 ∧ 0 ≤ c.high ∧ c.high ≤ 1000000
    let gates := -1000000 ≤ c.openPos ∧ c.openPos ≤ 1000000 ∧ -1000000 ≤ c.closedPos ∧ c.closedPos ≤ 1000000 ∧ c.openPos ≠ c.closedPos ∧
      min c.openPos c.closedPos ≤ 0 ∧ 0 ≤ max c.openPos c.closedPos
    let still := x.state = .unhomed ∨ x.state = .idle ∨ (x.state = .fault ∧ x.v = 0)
    let same := x.kind = k ∧ x.spr = c.spr ∧ x.offset = c.offset ∧ x.low = c.low ∧ x.high = c.high ∧ x.openPos = c.openPos ∧
      x.closedPos = c.closedPos
    (¬inRange → exec (.axisConfig tag a.1 c) s = .next (s.served tag r id (refuse .outOfRange))) ∧
    (inRange → ¬gates → exec (.axisConfig tag a.1 c) s = .next (s.served tag r id (refuse .invalid))) ∧
    (inRange → gates → ¬still → exec (.axisConfig tag a.1 c) s = .next (s.served tag r id (refuse .wrongState))) ∧
    (∀ (i : Fin 4) (d : CrossingDef), inRange → gates → still → k ≠ .gate → s.track.config = .operational →
      (s.track.crossings.get i).defn = some d → d.axis = a → (∀ j e, j < i → (s.track.crossings.get j).defn = some e → e.axis ≠ a) →
      exec (.axisConfig tag a.1 c) s = .next (s.served tag r id (refuseAt .inUse 5 i.1 0))) ∧
    (∀ axis cfg, 7 < axis ∨ 2 < cfg.kind →
      exec (.axisConfig tag axis cfg) s = .next (s.served tag (.axisConfig axis cfg) id (refuse .outOfRange))) ∧
    (inRange → gates → still → (k = .gate ∨ s.track.config ≠ .operational ∨ s.crossingsOf a = []) →
      exec (.axisConfig tag a.1 c) s = .next (s.served tag r (fun s => syncGate a (s.modAxis a (Axis.reconfigure k c)))
        { code := .ok, clamped := axisConfigClamps c, data := [] })) ∧
    (let y := x.reconfigure k c;
      y.kind = k ∧ y.maxSpeed = max 1 (min 20000 c.maxSpeed) ∧ y.accel = max 1 (min 2000 c.accel) ∧
        y.creep = min y.maxSpeed (max 1 (min 1000 c.creep)) ∧ y.tolerance = min 1000 c.tolerance ∧ y.spr = c.spr ∧ y.offset = c.offset ∧
        y.low = c.low ∧ y.high = c.high ∧ y.openPos = c.openPos ∧ y.closedPos = c.closedPos ∧ y.fault = none ∧ y.goal = .none ∧
        y.travel = 0 ∧ y.indexRun = 0 ∧ y.homeRun = 0 ∧ y.armed = true ∧ y.v = x.v ∧ y.dir = x.dir ∧ y.motion = x.motion ∧ (y.homed = true ↔ x.homed = true ∧ same ∧ x.state ≠ .fault) ∧
        (axisConfigClamps c = true ↔ c.maxSpeed < 1 ∨ 20000 < c.maxSpeed ∨ c.accel < 1 ∨ 2000 < c.accel ∨ c.creep < 1 ∨ 1000 < c.creep ∨
          1000 < c.tolerance ∨ max 1 (min 20000 c.maxSpeed) < max 1 (min 1000 c.creep)) ∧
        (y.state = if y.homed = true then .idle else .unhomed) ∧ (¬(k = .rotary ∧ ¬(0 ≤ x.pos ∧ x.pos < c.spr)) → y.pos = x.pos))

/-- AXIS_SPEED, AXIS_STOP_AT, AXIS_MOVE, AXIS_HOME and AXIS_STOP (R111, R112, R114, R115) with the MOTION rail UP and the axis
not HELD: what the axis takes, and where a request that is already met answers OK and raises AXIS_DONE at once: an AXIS_SPEED of
0 to an axis at rest, or of the running speed and direction to a MOVING one. That an AXIS_SPEED of 0 leaves the record of an
axis at rest, and puts a MOVING axis that meets it in SPEED mode, is log entry 39, and that AXIS_HOME keeps the travel since
index is log entry 18. AXIS_STOP is taken whatever the rail's state; the phase it leaves is log entry 62. The distance to a stop
angle (R112): the steps to it in the direction of travel, less than a revolution, and a revolution more when they are fewer than
the stopping distance. A position taken as target (R110): from rest toward it; in motion straight on when it lies ahead by at
least the stopping distance, else through REVERSING. -/
def Obligations.AxisRequests : Prop :=
  (∀ (tag : Nat) (a : Fin 8) (speed angle : Nat) (d : Dir) (position : Int) (s : State), s.ready = true → s.supply.rails.motion = true →
    let x := s.axes.get a
    let w := min speed x.maxSpeed
    let p := max x.low (min x.high position)
    (x.kind = .rotary → (x.state = .unhomed ∨ x.state = .idle ∨ x.state = .moving) → x.meets w d = false →
      exec (.axisSpeed tag a.1 speed d.code) s = .next (s.served tag (.axisSpeed a.1 speed d.code)
        (State.modAxis a fun x => { x with
          state := .moving, motion := .speed w d, met := false, dir := if x.v = 0 then d else x.dir
          phase := if x.v = 0 ∨ x.dir = d then .cruise else .reversing })
        { code := .accepted, clamped := decide (x.maxSpeed < speed), data := [] })) ∧
    (x.meets w d = true ↔ (x.state = .moving ∧ 0 < w ∧ x.v = w ∧ x.dir = d) ∨ (x.state ≠ .moving ∧ w = 0)) ∧
    (x.kind = .rotary → (x.state = .unhomed ∨ x.state = .idle) → speed = 0 →
      exec (.axisSpeed tag a.1 speed d.code) s = .next (s.served tag (.axisSpeed a.1 speed d.code) (State.raise (.axisDone a)) okay)) ∧
    (x.kind = .rotary → x.state = .moving → 0 < w → x.v = w → x.dir = d →
      exec (.axisSpeed tag a.1 speed d.code) s = .next (s.served tag (.axisSpeed a.1 speed d.code) (fun s =>
        (s.modAxis a fun x => { x with motion := .speed w d, phase := .cruise, met := true }).raise (.axisDone a))
        { code := .ok, clamped := decide (x.maxSpeed < speed), data := [] })) ∧
    (x.kind = .rotary → x.homed = true → (x.state = .idle ∨ x.state = .moving) → angle < x.spr →
      let dir := if x.state = .moving then x.dir else .forward
      let far := stopAtDistance x.spr angle x.pos dir x.stopping
      (far ≠ 0 → exec (.axisStopAt tag a.1 angle) s = .next (s.served tag (.axisStopAt a.1 angle) (State.modAxis a fun x =>
        { x with state := .moving, dir := dir, phase := .cruise, met := false, motion := .stopAt angle far }) taken)) ∧
      (far = 0 → exec (.axisStopAt tag a.1 angle) s = .next (s.served tag (.axisStopAt a.1 angle) (fun s =>
        (s.modAxis a fun x => { x with state := .idle, v := 0, f := 0, dir := dir, phase := .cruise, met := false, motion := .none }).raise
          (.axisDone a)) okay))) ∧
    (x.kind = .positional → x.homed = true → (x.state = .idle ∨ x.state = .moving) →
      (x.state = .idle ∧ x.pos = p → exec (.axisMove tag a.1 position) s = .next (s.served tag (.axisMove a.1 position)
        (State.raise (.axisDone a)) { code := .ok, clamped := decide (p ≠ position), data := [] })) ∧
      (¬(x.state = .idle ∧ x.pos = p) → exec (.axisMove tag a.1 position) s = .next (s.served tag (.axisMove a.1 position)
        (State.modAxis a (Axis.retarget p)) { code := .accepted, clamped := decide (p ≠ position), data := [] }))) ∧
    (x.state ≠ .held → x.state ≠ .homing → exec (.axisHome tag a.1) s = .next (s.served tag (.axisHome a.1) (fun s =>
      syncGate a (s.modAxis a fun x => { x with
        state := .homing, homed := false, fault := none, homeRun := 0, homeTravel := 0, motion := .home, met := false
        dir := if x.v = 0 then x.homeDir else x.dir, phase := if x.v = 0 ∨ x.dir = x.homeDir then .cruise else .reversing })) taken)) ∧
    (x.state = .homing → exec (.axisHome tag a.1) s = .next (s.served tag (.axisHome a.1) id taken)) ∧
    (x.kind ≠ .gate → (x.state = .moving ∨ x.state = .homing) → exec (.axisStop tag a.1) s = .next (s.served tag (.axisStop a.1)
      (State.modAxis a fun x => { x with state := .moving, motion := .stop, phase := .cruise, met := false }) taken)) ∧
    (x.kind ≠ .gate → (x.state = .idle ∨ x.state = .unhomed) →
      exec (.axisStop tag a.1) s = .next (s.served tag (.axisStop a.1) (State.raise (.axisDone a)) okay))) ∧
  (∀ (tag : Nat) (a : Fin 8) (s : State), s.ready = true → (s.axes.get a).kind ≠ .gate →
    ((s.axes.get a).state = .idle ∨ (s.axes.get a).state = .unhomed →
      exec (.axisStop tag a.1) s = .next (s.served tag (.axisStop a.1) (State.raise (.axisDone a)) okay)) ∧
    ((s.axes.get a).state = .moving ∨ (s.axes.get a).state = .homing → exec (.axisStop tag a.1) s = .next (s.served tag (.axisStop a.1)
      (State.modAxis a fun x => { x with state := .moving, motion := .stop, phase := .cruise, met := false }) taken))) ∧
  (∀ (spr angle S : Nat) (pos : Int) (d : Dir), 0 < spr → ∃ base : Nat, base < spr ∧
    (d = .forward → (pos + base - angle) % spr = 0) ∧ (d = .reverse → (pos - base - angle) % spr = 0) ∧
    stopAtDistance spr angle pos d S = if base < S then base + spr else base) ∧
  ∀ (p : Int) (x : Axis),
    let taken := { x with state := .moving, motion := .position p, met := false, phase := .cruise }
    let ahead := x.dir = .forward ∧ x.pos < p ∨ x.dir = .reverse ∧ p < x.pos
    (x.v = 0 → x.retarget p = { taken with
      dir := if x.pos < p then .forward else if p < x.pos then .reverse else x.dir }) ∧
    (0 < x.v → ahead → x.stopping ≤ (p - x.pos).natAbs → x.retarget p = taken) ∧
    (0 < x.v → ¬(ahead ∧ x.stopping ≤ (p - x.pos).natAbs) → x.retarget p = { taken with phase := .reversing })

/-- What turns a motion request away (R116), check by check: an axis the part does not have; a GATE axis; a kind the request is not
for; a HELD axis or the MOTION rail DOWN (but for AXIS_STOP, which asks for no rail); a state or a homed flag that does not take the
request; a direction beyond the two, or an angle at or above spr. An earlier check decides before a later one. -/
def Obligations.AxisRequestsRefused : Prop :=
  ∀ (tag : Nat) (a : Fin 8) (speed angle direction : Nat) (position : Int) (s : State), s.ready = true →
    let x := s.axes.get a
    let up := s.supply.rails.motion = true
    let refusedAll := fun (code : ResultCode) (n : Nat) =>
      exec (.axisSpeed tag n speed direction) s = .next (s.served tag (.axisSpeed n speed direction) id (refuse code)) ∧
      exec (.axisStopAt tag n angle) s = .next (s.served tag (.axisStopAt n angle) id (refuse code)) ∧
      exec (.axisMove tag n position) s = .next (s.served tag (.axisMove n position) id (refuse code))
    let speedRefused := fun code : ResultCode =>
      exec (.axisSpeed tag a.1 speed direction) s = .next (s.served tag (.axisSpeed a.1 speed direction) id (refuse code))
    let stopAtRefused := fun code : ResultCode =>
      exec (.axisStopAt tag a.1 angle) s = .next (s.served tag (.axisStopAt a.1 angle) id (refuse code))
    let moveRefused := fun code : ResultCode =>
      exec (.axisMove tag a.1 position) s = .next (s.served tag (.axisMove a.1 position) id (refuse code))
    (x.kind = .gate → refusedAll .inUse a.1 ∧ exec (.axisStop tag a.1) s = .next (s.served tag (.axisStop a.1) id (refuse .inUse))) ∧
    (x.kind = .positional → speedRefused .wrongState ∧ stopAtRefused .wrongState) ∧
    (x.kind = .rotary → moveRefused .wrongState) ∧
    (x.state = .held ∨ ¬up →
      (x.kind = .rotary → speedRefused .interlocked ∧ stopAtRefused .interlocked) ∧
      (x.kind = .positional → moveRefused .interlocked) ∧
      exec (.axisHome tag a.1) s = .next (s.served tag (.axisHome a.1) id (refuse .interlocked))) ∧
    (x.kind ≠ .gate → x.state = .held → exec (.axisStop tag a.1) s = .next (s.served tag (.axisStop a.1) id (refuse .interlocked))) ∧
    (x.kind ≠ .gate → x.state = .fault → exec (.axisStop tag a.1) s = .next (s.served tag (.axisStop a.1) id (refuse .wrongState))) ∧
    (x.kind ≠ .gate → (x.state = .idle ∨ x.state = .unhomed) → ¬up →
      exec (.axisStop tag a.1) s = .next (s.served tag (.axisStop a.1) (State.raise (.axisDone a)) okay)) ∧
    (x.kind = .rotary → up → (x.state = .homing ∨ x.state = .fault) → speedRefused .wrongState) ∧
    (x.kind = .rotary → up → x.state ≠ .held → (x.homed = false ∨ ¬(x.state = .idle ∨ x.state = .moving)) → stopAtRefused .wrongState) ∧
    (x.kind = .positional → up → x.state ≠ .held → (x.homed = false ∨ ¬(x.state = .idle ∨ x.state = .moving)) → moveRefused .wrongState) ∧
    (x.kind = .rotary → up → (x.state = .unhomed ∨ x.state = .idle ∨ x.state = .moving) → 1 < direction → speedRefused .outOfRange) ∧
    (x.kind = .rotary → up → x.homed = true → (x.state = .idle ∨ x.state = .moving) → x.spr ≤ angle → stopAtRefused .outOfRange) ∧
    ∀ n, 7 < n → refusedAll .outOfRange n ∧ exec (.axisHome tag n) s = .next (s.served tag (.axisHome n) id (refuse .outOfRange)) ∧
      exec (.axisStop tag n) s = .next (s.served tag (.axisStop n) id (refuse .outOfRange))

/-- The axis update as a command (R107 to R114; log entry 2): AXIS_UPDATE reads the inputs and updates every axis still due;
each row that names an outcome is the due update of one axis when its result is that outcome, and changes nothing when it is
not. A due update writes the axis record and the pulses, raises AXIS_INDEX, then AXIS_DONE or AXIS_FAULT, then GATE_STATE at a
change (log entry 36), and for an axis that has nothing to update carries out the goal a WARM reset left (R121). The direction
line is high while the direction is FORWARD (R104; read from the state: log entry 41). That all that follows from one axis comes
before the next is updated is log entry 63. The update itself: the velocity of each motion mode and the stopping distance (R107,
R108, R110); the step count, cut to the target and to the limit, and what its emission moves (R107, R109); the index with its
error and the angle it corrects, and the faults and ends of ROTARY axes (R112, R113); home, its confirmation and its fault
(R114); and the completion by motion mode. That an axis whose home is confirmed while REVERSING keeps its direction is log entry
56. Log entries 17, 18, 19 and 23 read what the rules leave open there, and the modes an axis shows in FAULT are entry 49. -/
def Obligations.AxisRows : Prop :=
  (∀ (levels : Nat) (a : Fin 8) (input : Bool) (s : State), s.work.isClear = true →
    let x := s.axes.get a
    let due := s.sched.axes.getLsbD a.1 && x.updates
    let run := fun high : Bool => finish (updateAxis a (s.modPins fun p =>
      { p with index := if high then p.index ||| (1#8 <<< a.1) else p.index &&& ~~~(1#8 <<< a.1) }))
    let row := fun (c : Instr) (high : Bool) (is : Bool) => exec c s = .next (if due && is then run high else s)
    exec (.axisUpdate levels) s =
      .next (finish (eachSettled s.dueAxes updateAxis (s.modPins fun p => { p with index := BitVec.ofNat 8 levels }))) ∧
    row (.axisArrival a.1 input) input ((x.update input).finish == .arrival) ∧
    row (.speedReached a.1 input) input ((x.update input).finish == .speedReached) ∧
    row (.stopModeRest a.1 input) input ((x.update input).finish == .stopRest) ∧
    row (.indexMissing a.1 input) input ((x.update input).finish == .missing .indexMissing) ∧
    row (.homeMissing a.1 input) input ((x.update input).finish == .missing .homeMissing) ∧
    row (.indexConfirm a.1) true (x.update true).index.isSome ∧
    row (.homeConfirm a.1) true ((x.update true).index.isNone &&
      ((x.update true).finish == .homed || (x.update true).finish == .homedOnward))) ∧
  -- The update of one due axis, with its pulses and its events in their order (R107, R113, R118, R121)
  (∀ (a : Fin 8) (s : State),
    let x := s.axes.get a
    let taken := s.modSched fun d => { d with axes := d.axes &&& ~~~(1#8 <<< a.1) }
    let r := x.update (s.pins.index.getLsbD a.1)
    let wrote := fun (y : Axis) (n : Nat) => (taken.modAxis a fun _ => { y with resume := false }).modOuts fun o =>
      { o with pulses := o.pulses.set a n }
    let found := match r.index with | some (err, slip) => [Event.axisIndex a err slip] | none => []
    (s.directionLine a = true ↔ x.dir = .forward) ∧
    (x.updates = true →
      ((r.finish = .arrival ∨ r.finish = .speedReached ∨ r.finish = .stopRest ∨ r.finish = .homed) →
        updateAxis a s = syncGate a ((wrote r.axis r.pulses).raiseAll (found ++ [.axisDone a]))) ∧
      (∀ code, r.finish = .missing code → updateAxis a s = syncGate a ((wrote r.axis r.pulses).raiseAll (found ++ [.axisFault a code]))) ∧
      ((r.finish = .goesOn ∨ r.finish = .homedOnward) → updateAxis a s = syncGate a ((wrote r.axis r.pulses).raiseAll found))) ∧
    (x.updates = false →
      (x.resume = false ∨ x.goal = .none → updateAxis a s = wrote x 0) ∧
      (x.resume = true → x.goal = .open_ → updateAxis a s = gateCommand a .open_ (wrote x 0)) ∧
      (x.resume = true → x.goal = .closed → updateAxis a s = gateCommand a .close (wrote x 0)))) ∧
  -- Step 1, velocity (R107, R108, R110)
  (∀ (x : Axis) (w R : Nat) (d : Dir) (p : Int),
    let far := (p - x.pos).natAbs
    let slower := { x with v := x.v - x.accel }
    let toWanted := fun (w : Nat) (d : Dir) (y : Axis) =>
      (d = x.dir ∨ x.v = 0 → y = { x with
        v := if x.v < w then min (x.v + x.accel) w else max (x.v - x.accel) w, dir := d, phase := .cruise }) ∧
      (d ≠ x.dir → 0 < x.v → x.v ≤ x.accel → y = { x with v := 0, dir := d, phase := .cruise }) ∧
      (d ≠ x.dir → x.accel < x.v → y = { slower with phase := .reversing })
    (0 < x.accel → x.v * x.v ≤ 2000 * x.accel * x.stopping ∧ 2000 * x.accel * x.stopping < x.v * x.v + 2000 * x.accel) ∧
    (x.state = .fault → x.velocity = slower) ∧
    (x.state ≠ .fault →
      (x.motion = .speed w d → toWanted w d x.velocity) ∧ (x.motion = .home → toWanted x.creep x.homeDir x.velocity) ∧
      (x.motion = .stop → x.velocity = slower) ∧
      (∀ angle, x.motion = .stopAt angle R → x.velocity = { x with
        v := if R ≤ x.stopping then max (x.v - x.accel) x.creep else min (x.v + x.accel) x.maxSpeed }) ∧
      (x.motion = .position p → x.phase = .cruise → x.velocity = { x with
        v := if far ≤ x.stopping then max (x.v - x.accel) x.creep else min (x.v + x.accel) x.maxSpeed }) ∧
      (x.motion = .position p → x.phase = .reversing → x.accel < x.v → x.velocity = slower) ∧
      (x.motion = .position p → x.phase = .reversing → x.v ≤ x.accel → x.velocity = { x with
        v := 0, dir := if x.pos < p then .forward else if p < x.pos then .reverse else x.dir, phase := .cruise }))) ∧
  -- Steps 2 to 6 (R107, R109, R112 to R114)
  (∀ (input : Bool) (x : Axis),
    let y := x.velocity
    let aimed := match y.motion with
      | .position p => if y.phase = .cruise then min ((y.f + y.v) / 1000) (p - y.pos).natAbs else (y.f + y.v) / 1000
      | .stopAt _ r => min ((y.f + y.v) / 1000) r
      | _ => (y.f + y.v) / 1000
    let bounded := x.kind ≠ .rotary ∧ x.homed = true
    let room := if y.dir = .forward then (y.highLimit - y.pos).toNat else (y.pos - y.lowLimit).toNat
    let n := if bounded then min aimed room else aimed
    let moved := y.pos + (if y.dir = .forward then (n : Int) else -n)
    let z : Axis := { y with
      f := (y.f + y.v) % 1000, pos := if x.kind = .rotary then moved % x.spr else moved
      travel := if x.kind = .rotary ∧ y.dir = .forward then min (y.travel + n) (2 * x.spr + 20) else y.travel
      homeTravel := if y.motion = .home then y.homeTravel + n else y.homeTravel
      motion := match y.motion with | .stopAt angle r => .stopAt angle (r - n) | m => m }
    let u := x.update input
    let ends := fun (p : Axis × UpdateEnd) => u.axis = p.1 ∧ u.finish = p.2
    let faulted := fun (code : AxisFaultCode) (k : Axis) =>
      ends ({ k with state := .fault, homed := false, fault := some code, motion := .none, phase := .cruise, goal := .none, met := false,
                     f := if k.v = 0 then 0 else k.f }, .missing code)
    let stands : Axis := { z with
      pos := 0, v := 0, f := 0, homed := true, homeRun := 2, state := .idle, motion := .none, phase := .cruise, met := false }
    let run := if input = true ∧ x.dir = .forward ∧ 0 < x.v then min 2 (x.indexRun + 1) else 0
    let homeRun := if input then min 2 (x.homeRun + 1) else 0
    u.pulses = n ∧
    (x.kind = .rotary → run = 2 ∧ x.armed = true →
      let err := indexError x.spr x.offset z.pos
      let at_ : Axis := { z with
        indexRun := 0, armed := false, travel := 0, pos := x.offset, homed := x.state != .fault
        motion := match z.motion with
          | .stopAt angle _ => .stopAt angle (stopAtDistance x.spr angle x.offset z.dir x.stopping)
          | m => m }
      u.index = some (if x.homed then (err, decide (x.tolerance < err.natAbs)) else (0, false)) ∧
      (x.state ≠ .fault → x.motion = .home → ends ({ at_ with
        state := .idle, v := 0, f := 0, motion := .none, phase := .cruise, met := false }, .homed)) ∧
      (¬(x.state ≠ .fault ∧ x.motion = .home) → ends (at_.conclude false))) ∧
    (x.kind = .rotary → ¬(run = 2 ∧ x.armed = true) →
      let seen : Axis := { z with indexRun := run, armed := x.armed || !input }
      u.index = none ∧ (x.state ≠ .fault → 2 * x.spr < z.travel → faulted .indexMissing seen) ∧
      (¬(x.state ≠ .fault ∧ 2 * x.spr < z.travel) → ends (seen.conclude false))) ∧
    (x.kind ≠ .rotary → u.index = none ∧
      (x.state ≠ .fault → x.motion = .home → homeRun = 2 →
        (x.goal = .none ∨ x.kind ≠ .gate ∨ (x.goal = .open_ ∧ x.openPos = 0) ∨ (x.goal = .closed ∧ x.closedPos = 0) → ends (stands, .homed)) ∧
        (∀ p, x.kind = .gate → x.goalPos = some p → p ≠ 0 → ends ({ stands with
          state := .moving, motion := .position p, dir := if 0 < p then .forward else .reverse }, .homedOnward))) ∧
      (x.state ≠ .fault → x.motion = .home → homeRun ≠ 2 →
        (2 * (x.highLimit - x.lowLimit).toNat + 100 < z.homeTravel → faulted .homeMissing { z with homeRun := homeRun }) ∧
        (z.homeTravel ≤ 2 * (x.highLimit - x.lowLimit).toNat + 100 → ends ({ z with homeRun := homeRun }, .goesOn))) ∧
      (¬(x.state ≠ .fault ∧ x.motion = .home) → ends (z.conclude (decide (bounded ∧ room ≤ aimed)))))) ∧
  -- The error of an index, and the completion by motion mode (R107 to R113)
  (∀ (spr offset : Nat) (angle : Int), 0 < spr →
    let e := indexError spr offset angle
    (angle - offset - e) % spr = 0 ∧ -(spr : Int) < 2 * e ∧ 2 * e ≤ spr) ∧
  ∀ (limited : Bool) (x : Axis) (p : Int) (angle R w : Nat) (d : Dir),
    let rest := { x with
      state := if x.homed then .idle else .unhomed, v := 0, f := 0, motion := .none, phase := .cruise, met := false }
    (x.state = .fault → x.conclude limited = ({ x with f := if x.v = 0 then 0 else x.f }, .goesOn)) ∧
    (x.state ≠ .fault →
      (x.motion = .position p →
        (x.phase = .cruise → x.pos = p → x.conclude limited = (rest, .arrival)) ∧
        (x.phase = .cruise → x.pos ≠ p → x.conclude limited = (x, .goesOn)) ∧
        (x.phase = .reversing → limited = true → x.conclude limited = ({ x with
          v := 0, f := 0, dir := if x.pos < p then .forward else if p < x.pos then .reverse else x.dir, phase := .cruise }, .goesOn)) ∧
        (x.phase = .reversing → limited = false → x.conclude limited = (x, .goesOn))) ∧
      (x.motion = .stopAt angle R → x.conclude limited = if R = 0 then (rest, .arrival) else (x, .goesOn)) ∧
      (x.motion = .speed w d →
        (x.v = w → x.dir = d → x.met = false →
          x.conclude limited = if w = 0 then (rest, .speedReached) else ({ x with met := true }, .speedReached)) ∧
        (¬(x.v = w ∧ x.dir = d ∧ x.met = false) → x.conclude limited = (x, .goesOn))) ∧
      (x.motion = .stop → x.conclude limited = if x.v = 0 ∨ limited = true then (rest, .stopRest) else (x, .goesOn)) ∧
      (x.motion = .none ∨ x.motion = .home → x.conclude limited = (x, .goesOn)))

/-- An update keeps an axis within its bounds (R107, R108, R109): the speed stays within the max speed, a homed positional or gate axis
within its limits, a rotary angle within one revolution; and an axis that arrives at a position stands on it exactly, at rest. -/
def Obligations.AxisStaysInBounds : Prop :=
  ∀ (x : Axis) (input : Bool), x.creep ≤ x.maxSpeed → x.v ≤ x.maxSpeed → 2 ≤ x.spr →
    (∀ w d, x.motion = .speed w d → w ≤ x.maxSpeed) → x.updates = true → x.lowLimit ≤ 0 → 0 ≤ x.highLimit →
    (x.homed = true → x.kind ≠ .rotary → x.lowLimit ≤ x.pos ∧ x.pos ≤ x.highLimit) →
      let y := (x.update input).axis
      y.v ≤ y.maxSpeed ∧ (y.homed = true → x.kind ≠ .rotary → y.lowLimit ≤ y.pos ∧ y.pos ≤ y.highLimit) ∧
        (x.kind = .rotary → x.offset < x.spr → 0 ≤ y.pos ∧ y.pos < x.spr) ∧
        (∀ p, x.kind ≠ .rotary → x.motion = .position p → (x.update input).finish = .arrival →
          y.pos = p ∧ y.v = 0 ∧ y.f = 0 ∧ y.state = y.restState)

/-! ## Cue lists and players -/

/-- LIST_WRITE (R124) to a list no player uses: the steps are stored, and with the end flag the list is READY when its
validation finds nothing and WRITING with the first failure otherwise. LIST_ERASE (R126) empties the list. Both are refused
while a player uses the list, as its current list, in its call stack or as its pending start, with the lowest-numbered such
player, and for a list, an index or a count beyond its range. A step's own checks (R125, rows 1 to 6) in their order, and the
validation: the steps are taken in order with the open REPEAT_BEGIN steps, innermost first; the first step that fails decides; a
REPEAT_END that closes a repeat without end reports its REPEAT_BEGIN; a list whose steps all pass is valid when no repeat is
left open and reports the innermost open one otherwise. How a step is stored is log entry 14, the ranges of row 2 are log entry
15, the numbers of the reasons are log entry 26, the detail's number of IN_USE is log entry 31. -/
def Obligations.ListRequests : Prop :=
  (∀ (tag : Nat) (l : Fin 64) (first : Nat) (steps : List StepRec) (s : State), s.ready = true →
    let fits := first ≤ 31 ∧ steps.length ≤ 17 ∧ first + steps.length ≤ 32
    let written := (s.cue.lists.get l).write first (steps.map StepRec.stored)
    let closed := written.cut (first + steps.length)
    (fits → s.listUser l = none →
      exec (.listWrite tag l.1 first false steps) s = .next (s.served tag (.listWrite l.1 first false steps)
        (State.modList l fun _ => { written with state := .writing }) okay) ∧
      (validateList closed.run = none → exec (.listWrite tag l.1 first true steps) s = .next (s.served tag (.listWrite l.1 first true steps)
        (State.modList l fun _ => { closed with state := .ready }) okay)) ∧
      (∀ f i, validateList closed.run = some (f, i) → exec (.listWrite tag l.1 first true steps) s =
        .next (s.served tag (.listWrite l.1 first true steps)
          (State.modList l fun _ => { closed with state := .writing }) (refuseAt .invalid f.code i 0)))) ∧
    (¬fits → ∀ e, exec (.listWrite tag l.1 first e steps) s =
      .next (s.served tag (.listWrite l.1 first e steps) id (refuse .outOfRange))) ∧
    (∀ p e, fits → s.listUser l = some p → exec (.listWrite tag l.1 first e steps) s =
      .next (s.served tag (.listWrite l.1 first e steps) id (refuseAt .inUse 1 p.1 0))) ∧
    (s.listUser l = none → exec (.listErase tag l.1) s =
      .next (s.served tag (.listErase l.1) (State.modList l fun _ => CueList.initial) okay)) ∧
    (∀ p, s.listUser l = some p → exec (.listErase tag l.1) s =
      .next (s.served tag (.listErase l.1) id (refuseAt .inUse 0 p.1 0))) ∧
    (∀ p, let x := s.cue.players.get p
      (x.uses l = true ↔ (∃ i, x.cur = some (l, i)) ∨ (∃ i, (l, i) ∈ x.calls) ∨ ∃ pol, x.pendingStart = some (l, pol))) ∧
    (∀ p, s.listUser l = some p ↔ (s.cue.players.get p).uses l = true ∧ ∀ q, q < p → (s.cue.players.get q).uses l = false) ∧
    (∀ i : Fin 32, written.steps.get i =
      if h : first ≤ i.1 ∧ i.1 - first < steps.length then (steps[i.1 - first]'h.2).stored else (s.cue.lists.get l).steps.get i) ∧
    (closed.length = first + steps.length ∧
      ∀ i : Fin 32, closed.steps.get i = if i.1 < first + steps.length then written.steps.get i else noneStep) ∧
    ∀ n, 63 < n → (∀ e, exec (.listWrite tag n first e steps) s =
        .next (s.served tag (.listWrite n first e steps) id (refuse .outOfRange))) ∧
      exec (.listErase tag n) s = .next (s.served tag (.listErase n) id (refuse .outOfRange))) ∧
  (∀ (r : StepRec) (depth : Nat),
     let a := r.action
     let known := fun code => eventCodes.contains code = true
     (r.actionValid = true ↔ a ≤ 21 ∧ (1 ≤ a ∧ a ≤ 3 → r.target ≤ 31) ∧ (4 ≤ a ∧ a ≤ 13 → r.target ≤ 7) ∧ (a = 14 ∨ a = 15 → r.target = 0) ∧
       (a = 20 → r.target ≤ 56 ∨ r.target = 0xFF)) ∧
     (r.paramsValid = true ↔ (a = 1 → r.p3 ≤ 1) ∧ (a = 2 → r.p3 ≤ 2) ∧ (a = 3 → r.p1 ≤ 255 ∧ r.p2 ≤ 255) ∧
       (a = 5 → 1 ≤ r.p3 ∧ r.p3 ≤ 4 ∧ ∀ x ∈ r.sections, x ≤ 47) ∧ (a = 8 → r.p3 ≤ 1) ∧ (a = 10 → r.p1 ≤ 65534) ∧ (a = 13 → r.p3 ≤ 1) ∧
       (a = 14 → 1 ≤ r.p2 ∧ r.p2 ≤ 16 ∧ 1 ≤ r.p1 ∧ r.p1 ≤ 4095 ∧ (r.p3 = 1 ∨ r.p3 = 2 ∨ r.p3 = 4 ∨ r.p3 = 8) ∧ r.p2 ≤ r.p1 ∧ r.p1 ≤ 256 * r.p2) ∧
       (a = 15 → r.p1 + 65536 * r.p2 ≤ 86399999) ∧ (a = 16 → r.p1 ≤ 255) ∧ (a = 17 → r.p1 ≤ 63) ∧ (a = 18 → r.p1 ≤ 255)) ∧
     (r.waitValid = true ↔ r.waitKind ≤ 4 ∧ (r.waitKind = 3 → r.w4 + 256 * r.w5 ≤ 1439) ∧ (r.waitKind = 4 → known r.w4) ∧
       (r.timeout ≠ 0 → r.waitKind = 4)) ∧
     (r.flagsValid = true ↔ (r.flags.testBit 0 = true → a = 1 ∨ a = 5 ∨ (8 ≤ a ∧ a ≤ 12) ∨ a = 15) ∧ (r.flags.testBit 1 = true → a = 5)) ∧
     (r.waits = false ↔ r.waitKind = 0 ∨ ((r.waitKind = 1 ∨ r.waitKind = 2) ∧ r.w4 + 256 * r.w5 = 0)) ∧
     let nests := a = 18 → depth < 8 ∧ (r.p3 ≠ 0 → known r.p3)
     let closes := a = 19 → 0 < depth
     (r.actionValid = false → r.failure depth = some .badAction) ∧
     (r.actionValid = true → r.paramsValid = false → r.failure depth = some .badParameter) ∧
     (r.actionValid = true → r.paramsValid = true → r.waitValid = false → r.failure depth = some .badWait) ∧
     (r.actionValid = true → r.paramsValid = true → r.waitValid = true → r.flagsValid = false → r.failure depth = some .badFlags) ∧
     (r.actionValid = true → r.paramsValid = true → r.waitValid = true → r.flagsValid = true →
       r.failure depth = if ¬nests then some .repeatNesting else if ¬closes then some .repeatUnbalanced else none)) ∧
  ∀ (steps : List StepRec) (opened : Nat → List Nat), opened 0 = [] →
    (∀ i r, steps[i]? = some r →
      opened (i + 1) = if r.action = 18 then i :: opened i else if r.action = 19 then (opened i).tail else opened i) →
    let forever := fun b i => ∃ q, steps[b]? = some q ∧ q.p1 = 0 ∧ q.p3 = 0 ∧
      ∀ j r, b ≤ j → j ≤ i → steps[j]? = some r → r.waits = false
    let passes := fun i => ∀ r, steps[i]? = some r →
      r.failure (opened i).length = none ∧ (r.action = 19 → ∀ b outer, opened i = b :: outer → ¬forever b i)
    (∀ i r f, steps[i]? = some r → (∀ j, j < i → passes j) → r.failure (opened i).length = some f → validateList steps = some (f, i)) ∧
    (∀ i r b outer, steps[i]? = some r → (∀ j, j < i → passes j) → r.failure (opened i).length = none → r.action = 19 →
      opened i = b :: outer → forever b i → validateList steps = some (.endlessRepeat, b)) ∧
    ((∀ i, passes i) → validateList steps = match opened steps.length with | [] => none | b :: _ => some (.repeatUnbalanced, b))

/-- PLAYER_START (R139), PLAYER_STOP, PLAYER_PAUSE and PLAYER_RESUME (R140) and PLAYER_PRIORITY (R141): a
player that resumes goes on from what its state was, and a RUNNING one takes the outcome that was recorded, if any; a player above 7, a
list above 63 or an unknown policy is refused. That runs are put in line behind what waits already is log entry 30. -/
def Obligations.PlayerRequests : Prop :=
  (∀ (tag : Nat) (p : Fin 8) (l : Fin 64) (pol : Policy) (priority : Nat) (s : State), s.ready = true →
    let x := s.cue.players.get p
    let ready := (s.cue.lists.get l).state = .ready
    let start := exec (.playerStart tag p.1 l.1 pol.code) s
    let r : Request := .playerStart p.1 l.1 pol.code
    (¬ready → start = .next (s.served tag r id (refuse .wrongState))) ∧
    (ready → (x.state = .idle ∨ x.state = .fault) → start = .next (s.served tag r (startList p l) (okWith [1#8]))) ∧
    (ready → x.state ≠ .idle → x.state ≠ .fault → pol = .skip → start = .next (s.served tag r id (okWith [3#8]))) ∧
    (ready → x.state ≠ .idle → x.state ≠ .fault → pol = .queue → start = .next (s.served tag r
      (State.modPlayer p fun x => { x with pendingStart := some (l, .queue) }) (okWith [4#8]))) ∧
    (ready → x.state ≠ .idle → x.state ≠ .fault → pol = .replace → start = .next (s.served tag r (fun s =>
      startList p l (releaseTargets (s.heldTargets p) (s.modPlayer p fun x =>
        { x with state := .idle, cur := none, calls := [], repeats := [], wait := none, await := none, blocked := none
                 pendingStart := none, prePause := none }))) (okWith [2#8]))) ∧
    (x.state = .idle → exec (.playerStop tag p.1) s = .next (s.served tag (.playerStop p.1) id okay)) ∧
    (x.state ≠ .idle → exec (.playerStop tag p.1) s = .next (s.served tag (.playerStop p.1) (fun s =>
      releaseTargets (s.heldTargets p) (s.modPlayer p fun x =>
        { x with state := .idle, cur := none, calls := [], repeats := [], wait := none, await := none, blocked := none
                 pendingStart := none, fault := none, prePause := none })) okay)) ∧
    ((x.state = .running ∨ x.state = .waiting ∨ x.state = .blocked) → exec (.playerPause tag p.1) s =
      .next (s.served tag (.playerPause p.1) (State.modPlayer p fun y => { y with state := .paused, prePause := some y.state }) okay)) ∧
    ((x.state = .idle ∨ x.state = .paused ∨ x.state = .fault) →
      exec (.playerPause tag p.1) s = .next (s.served tag (.playerPause p.1) id (refuse .wrongState))) ∧
    (x.state = .paused → x.prePause = some .waiting → exec (.playerResume tag p.1) s =
      .next (s.served tag (.playerResume p.1) (State.modPlayer p fun y => { y with prePause := none, state := .waiting }) okay)) ∧
    (let resumed := fun (y : Player) => { y with prePause := none, state := .running };
      (x.state = .paused → x.prePause = some .blocked → exec (.playerResume tag p.1) s = .next (s.served tag (.playerResume p.1) (fun s =>
        (s.modPlayer p fun y => { resumed y with blocked := none }).laterRun p .contend) okay)) ∧
      (x.state = .paused → x.prePause = some .running →
        (x.await.bind AwaitRec.outcome = none → exec (.playerResume tag p.1) s = .next (s.served tag (.playerResume p.1)
          (State.modPlayer p resumed) okay)) ∧
        (x.await.bind AwaitRec.outcome = some .completed → exec (.playerResume tag p.1) s = .next (s.served tag (.playerResume p.1) (fun s =>
          (s.modPlayer p fun y => { resumed y with await := none, blocked := none }).laterRun p .advance) okay)) ∧
        ∀ code detail, x.await.bind AwaitRec.outcome = some (.failed code detail) → exec (.playerResume tag p.1) s =
          .next (s.served tag (.playerResume p.1) (fun s =>
            (s.modPlayer p fun y => { resumed y with await := none, blocked := none }).laterRun p (.fail code detail)) okay))) ∧
    (x.state ≠ .paused → exec (.playerResume tag p.1) s = .next (s.served tag (.playerResume p.1) id (refuse .wrongState))) ∧
    (priority ≤ 15 → x.state = .idle → exec (.playerPriority tag p.1 priority) s =
      .next (s.served tag (.playerPriority p.1 priority) (State.modPlayer p fun y => { y with priority := priority }) okay)) ∧
    (priority ≤ 15 → x.state ≠ .idle → exec (.playerPriority tag p.1 priority) s =
      .next (s.served tag (.playerPriority p.1 priority) id (refuse .wrongState))) ∧
    (15 < priority → exec (.playerPriority tag p.1 priority) s = .next (s.served tag (.playerPriority p.1 priority) id (refuse .outOfRange)))) ∧
  ∀ (tag player list policy priority : Nat) (s : State), s.ready = true →
    let refused := fun (c : Instr) (r : Request) => exec c s = .next (s.served tag r id (refuse .outOfRange))
    (7 < player ∨ 63 < list ∨ 2 < policy → refused (.playerStart tag player list policy) (.playerStart player list policy)) ∧
    (7 < player → refused (.playerStop tag player) (.playerStop player) ∧ refused (.playerPause tag player) (.playerPause player) ∧
      refused (.playerResume tag player) (.playerResume player) ∧
      refused (.playerPriority tag player priority) (.playerPriority player priority))

/-- A player's waits (R130, R138; log entry 2): a countdown that has reached 0 ends the wait, and the player contends for its
step's target; a timeout that has reached 0 faults the player; short of that the rows change nothing. A step with a wait puts
the player WAITING, but for a countdown of 0, which is met at once (R130); a TOWN_AT wait is met by TOWN_MINUTE of its minute
and an EVENT wait by an event its spec matches, that arrive after the wait began; what meets a wait or an await runs its player
on, by descending priority and ascending index (R128), and a PAUSED player's await records its first outcome (R140). Contention
(R131): a train or an axis is held back while the interlock is ENGAGED; a target without a holder is taken; a holder of the same
or a higher priority blocks; a holder of a lower priority is displaced, with PLAYER_DISPLACED. An issued action (R132) that is
refused faults the player, an await keeps it RUNNING, and else it advances. What completes and what faults an await (R133); that
an ending which arrived before the action was issued ends an earlier operation is log entry 11. Released targets (R134): each
goes to the BLOCKED player of the highest priority, ties to the lowest index, that is blocked on it, and the receivers run in
that order once all are assigned; a RELEASE step releases what it names and the player holds. Repeats (R135), CALL (R136), the
return from a list and the end of a run (R137), and a fault (R138), each as the step's advance. That runs are put in line behind
what waits already is log entry 30, and putting the run's own next stage first is log entry 4, and that the detail of
REPEAT_OVERFLOW is 0 is log entry 64. -/
def Obligations.WaitsAndContention : Prop :=
  (∀ (p : Fin 8) (s : State), s.work.isClear = true →
     let x := s.cue.players.get p
     (∀ since, x.state = .waiting → (x.wait = some ⟨.realMs 0, since⟩ ∨ x.wait = some ⟨.townSeconds 0, since⟩) →
       exec (.waitExpiry p.1) s = .next (finish
         ((s.modPlayer p fun y => { y with wait := none, state := .running, blocked := none }).laterRun p .contend))) ∧
     (∀ since n, 0 < n → (x.wait = some ⟨.realMs n, since⟩ ∨ x.wait = some ⟨.townSeconds n, since⟩) →
       exec (.waitExpiry p.1) s = .next s) ∧
     (∀ since spec given, x.state = .waiting → x.wait = some ⟨.event spec (some (given, 0)), since⟩ →
       exec (.waitTimeout p.1) s = .next (finish (faultPlayer p .waitTimeout given s))) ∧
     (∀ since spec given n, 0 < n → x.wait = some ⟨.event spec (some (given, n)), since⟩ → exec (.waitTimeout p.1) s = .next s)) ∧
  -- How a wait starts, and what meets one (R130)
  (∀ (p : Fin 8) (l : Fin 64) (i : Nat) (s : State),
    let x := s.cue.players.get p
    let r := s.stepOf p
    let value := r.w4 + 256 * r.w5
    let waits := fun k : WaitKind => s.modPlayer p fun y => { y with state := .waiting, wait := some { kind := k, since := s.work.arrival } }
    x.cur = some (l, i) → i < (s.cue.lists.get l).length →
      (r.waitKind = 0 ∨ 4 < r.waitKind ∨ ((r.waitKind = 1 ∨ r.waitKind = 2) ∧ value = 0) → beginWait p s = s.later (.run p .contend)) ∧
      (r.waitKind = 1 → 0 < value → beginWait p s = waits (.realMs value)) ∧
      (r.waitKind = 2 → 0 < value → beginWait p s = waits (.townSeconds value)) ∧
      (r.waitKind = 3 → beginWait p s = waits (.townAt value)) ∧
      (r.waitKind = 4 → beginWait p s = waits (.event r.waitSpec (if r.timeout = 0 then none else some (r.timeout, r.timeout))))) ∧
  (∀ (w : WaitRec) (n : Nat) (item : CueItem) (e : Event) (s : State),
    (w.metBy n item = true ↔ w.since ≤ n ∧ ((∃ m, w.kind = .townAt m ∧ item = .event (.townMinute m)) ∨
      ∃ spec left e, w.kind = .event spec left ∧ item = .event e ∧ spec.matches e = true)) ∧
    (s.offerBlocks e).work = { s.work with
      held := s.work.held ++ [(s.work.arrival, .event e)], events := s.work.events ++ [e], arrival := s.work.arrival + 1 }) ∧
  -- An event or an ending at the players (R128, R130, R133, R140)
  (∀ (n : Nat) (item : CueItem) (s : State),
    let t := offerItem n item s
    let before := fun q u : Fin 8 => (s.cue.players.get u).priority < (s.cue.players.get q).priority ∨
      (s.cue.players.get u).priority = (s.cue.players.get q).priority ∧ q < u
    let meets := fun (q : Fin 8) (stage : Stage) =>
      let x := s.cue.players.get q
      (x.state = .waiting ∧ (∃ w, x.wait = some w ∧ w.metBy n item = true) ∧ stage = .contend) ∨
      (x.state = .running ∧ ∃ a, x.await = some a ∧ ((a.verdict n item = some .completed ∧ stage = .advance) ∨
        ∃ code detail, a.verdict n item = some (.failed code detail) ∧ stage = .fail code detail))
    (∀ q, let x := s.cue.players.get q
      ((∃ stage, meets q stage) → t.cue.players.get q = { x with state := .running, wait := none, await := none, blocked := none }) ∧
      (∀ a, x.state = .paused → x.await = some a → t.cue.players.get q =
        { x with await := some { a with outcome := if a.outcome.isSome then a.outcome else a.verdict n item } }) ∧
      ((∀ stage, ¬meets q stage) → x.state ≠ .paused ∨ x.await = none → t.cue.players.get q = x)) ∧
    (∃ order : List (Fin 8 × Stage), (∀ q stage, (q, stage) ∈ order ↔ meets q stage) ∧ (order.map Prod.fst).Pairwise before ∧
      t.work = { s.work with runs := s.work.runs ++ order }) ∧
    t = { s with cue := { s.cue with players := t.cue.players }, work := t.work }) ∧
  (∀ (p : Fin 8) (x : Fin 57) (s : State),
    let held := 32 ≤ x.1 ∧ x.1 < 48 ∧ s.supply.keyOn = true
    let blockedOn := fun b => s.modPlayer p fun y => { y with state := .blocked, blocked := some b }
    (held → contendFor p x s = blockedOn .interlock) ∧
    (¬held → s.cue.holders.get x = none → contendFor p x s = issue p (s.setHolder x (some p))) ∧
    (¬held → s.cue.holders.get x = some p → contendFor p x s = issue p s) ∧
    ∀ q, ¬held → q ≠ p → s.cue.holders.get x = some q →
      ((s.cue.players.get p).priority ≤ (s.cue.players.get q).priority → contendFor p x s = blockedOn (.target x)) ∧
      ((s.cue.players.get q).priority < (s.cue.players.get p).priority →
        contendFor p x s = issue p ((s.setHolder x (some p)).raise (.playerDisplaced q x)))) ∧
  -- Issue and await (R132, R133)
  (∀ (p : Fin 8) (s : State),
    let r := s.stepOf p
    let h := issueAction r s
    let done := h.2.code = .ok ∨ h.2.code = .accepted
    (¬done → issue p s = h.1.later (.run p (.fail .targetRefused h.2.code.code))) ∧
    (done → r.awaits = true → issue p s = h.1.modPlayer p fun x => { x with
      await := some { action := r.action, target := r.target, expect := expectOf r, since := h.1.work.arrival, outcome := none } }) ∧
    (done → r.awaits = false → issue p s = h.1.later (.run p .advance))) ∧
  (∀ (a : AwaitRec) (n : Nat) (item : CueItem) (code : PlayerFaultCode) (detail : Nat),
    let ended := fun e : Ending => item = .ending e ∧ a.since ≤ n
    (a.verdict n item = some .completed ↔
      (∃ g, a.expect = .fade g ∧ (item = .event (.fadeDone g) ∨ ended (.fade g))) ∨
      (∃ t last, a.expect = .route t last ∧ ((∃ x : Fin 48, x.1 = last ∧ item = .event (.routeReady t x)) ∨ ended (.route t))) ∨
      (∃ k, a.expect = .axis k ∧ (item = .event (.axisDone k) ∨ ended (.axis k))) ∨
      (a.expect = .glide ∧ (item = .event .clockLocked ∨ ended .glide))) ∧
    (a.verdict n item = some (.failed code detail) ↔
      (∃ t last reason, a.expect = .route t last ∧ item = .event (.routeFault t reason) ∧ code = .routeFault ∧ detail = reason.code) ∨
      ∃ k c, a.expect = .axis k ∧ item = .event (.axisFault k c) ∧ code = .axisFault ∧ detail = c.code)) ∧
  -- Hand-over (R134)
  (∀ (l : List (Fin 57)) (s : State), l.Nodup →
    let t := releaseTargets l s
    let waitsFor := fun (q : Fin 8) (x : Fin 57) => (s.cue.players.get q).state = .blocked ∧ (s.cue.players.get q).blocked = some (.target x)
    let before := fun q u : Fin 8 => (s.cue.players.get u).priority < (s.cue.players.get q).priority ∨
      (s.cue.players.get u).priority = (s.cue.players.get q).priority ∧ q < u
    let receives := fun q : Fin 8 => ∃ x ∈ l, t.cue.holders.get x = some q
    (∀ x ∈ l, (∀ q, waitsFor q x → (∀ u, waitsFor u x → u ≠ q → before q u) → t.cue.holders.get x = some q) ∧
      ((∀ q, ¬waitsFor q x) → t.cue.holders.get x = none)) ∧
    (∀ x, x ∉ l → t.cue.holders.get x = s.cue.holders.get x) ∧
    (∀ q, (receives q → t.cue.players.get q = { s.cue.players.get q with state := .running, blocked := none }) ∧
      (¬receives q → t.cue.players.get q = s.cue.players.get q)) ∧
    (∃ order : List (Fin 8), (∀ q, q ∈ order ↔ receives q) ∧ order.Pairwise before ∧
      t.work = { s.work with runs := s.work.runs ++ order.map fun q => (q, .contend) }) ∧
    t = { s with cue := { s.cue with players := t.cue.players, holders := t.cue.holders }, work := t.work }) ∧
  -- The advance: marks, CALL, repeats, RELEASE, END (R127, R135 to R138)
  (∀ (p : Fin 8) (s : State),
    let r := s.stepOf p
    let x := s.cue.players.get p
    let step := advanceStep p s
    let goTo := fun (i : Nat) (f : Player → Player) (s : State) =>
      (s.modPlayer p fun y => { f y with cur := y.cur.map fun c => (c.1, i) }).later (.run p .wait)
    let held := (indices 57).filter fun k => s.cue.holders.get k == some p
    (r.action < 16 ∨ 21 < r.action → step = goTo (x.index + 1) id s) ∧
    (r.action = 16 → step = goTo (x.index + 1) id (s.raise (.cueMark r.p1))) ∧
    (r.action = 17 → ∀ m i, x.cur = some (m, i) →
      (4 ≤ x.calls.length → step = faultPlayer p .stackOverflow r.p1 s) ∧
      (x.calls.length < 4 → 63 < r.p1 → step = faultPlayer p .listNotReady r.p1 s) ∧
      ∀ l : Fin 64, x.calls.length < 4 → r.p1 = l.1 →
        ((s.cue.lists.get l).state ≠ .ready → step = faultPlayer p .listNotReady r.p1 s) ∧
        ((s.cue.lists.get l).state = .ready → m = l ∨ (∃ c ∈ x.calls, c.1 = l) → step = faultPlayer p .recursion r.p1 s) ∧
        ((s.cue.lists.get l).state = .ready → m ≠ l → (∀ c ∈ x.calls, c.1 ≠ l) → step = (s.modPlayer p fun y =>
          { y with calls := (m, i + 1) :: y.calls, cur := some (l, 0) }).later (.run p .wait))) ∧
    (r.action = 18 →
      (8 ≤ x.repeats.length → step = faultPlayer p .repeatOverflow 0 s) ∧
      (x.repeats.length < 8 → step = goTo (x.index + 1) (fun y => { y with
        repeats := { begin := x.index, remaining := r.p1, until_ := r.untilSpec, seen := false, depth := x.calls.length } :: y.repeats }) s)) ∧
    (r.action = 19 →
      (x.repeats = [] → step = goTo (x.index + 1) id s) ∧
      ∀ f rest, x.repeats = f :: rest →
        (f.remaining = 1 ∨ f.seen = true → step = goTo (x.index + 1) (fun y => { y with repeats := rest }) s) ∧
        (f.remaining ≠ 1 → f.seen = false → step = goTo (f.begin + 1) (fun y => { y with
          repeats := { f with remaining := f.remaining - 1 } :: rest }) s)) ∧
    (r.action = 20 → step = goTo (x.index + 1) id (releaseTargets (if r.target = 0xFF then held else held.filter fun k => k.1 == r.target) s)) ∧
    (r.action = 21 → step = returnFrom p s) ∧
    (∀ l i, x.cur = some (l, i) → (s.cue.lists.get l).length ≤ i → beginWait p s = returnFrom p s) ∧
    (∀ l i rest, x.calls = (l, i) :: rest → returnFrom p s = (s.modPlayer p fun y => { y with
      repeats := x.repeats.filter fun f => f.depth != x.calls.length, calls := rest, cur := some (l, i) }).later (.run p .wait)) ∧
    let cleared := fun (st : PlayerState) (y : Player) =>
      { y with state := st, cur := none, calls := [], repeats := [], wait := none, await := none, blocked := none }
    let idle := (releaseTargets held (s.modPlayer p (cleared .idle))).raise (.playerEnd p)
    (x.calls = [] → x.pendingStart = none → returnFrom p s = idle) ∧
    (∀ l pol, x.calls = [] → x.pendingStart = some (l, pol) → returnFrom p s = (idle.modPlayer p fun y => { y with
      pendingStart := none, state := .running, cur := some (l, 0), calls := [], repeats := [], wait := none, await := none, blocked := none
      fault := none, prePause := none }).laterRun p .wait) ∧
    ∀ code detail l i, x.cur = some (l, i) → faultPlayer p code detail s = (releaseTargets held (s.modPlayer p fun y =>
      { cleared .fault y with pendingStart := none, prePause := none
                              fault := some { code := code, detail := detail, list := l, step := i } })).raise (.playerFault p code)) ∧
  -- Every event reaches the repeat frames at once (R135)
  ∀ (p : Fin 8) (e : Event) (s : State) (spec : EventSpec) (f : RepeatFrame),
    ((s.offerBlocks e).cue.players.get p).repeats = (s.cue.players.get p).repeats.map (markFrame e) ∧
    (f.until_ = none → markFrame e f = f) ∧
    (f.until_ = some spec → markFrame e f = { f with seen := f.seen || spec.matches e }) ∧
    (spec.matches e = true ↔ spec.code = e.code ∧ ∀ y z, spec.subject = some y → e.subject = some z → y = z)

/-! ## Inputs, counters, aux outputs and triggers -/

/-- INPUT_CONFIG (R145), COUNTER_CONFIG (R147), AUX_SET (R149), TRIGGER_ENABLE (R150), TRIGGER_CLEAR_COUNTS (R153), and
TRIGGER_SET (R150) with a source whose parameters are in range (R151, source by source; ANY is 0xFF): the fields are stored, and
an index beyond the part's is refused with OUT_OF_RANGE. That AUX_SET's value is ON 0 and OFF 1, and the numbers of the sources'
words, are log entry 6. -/
def Obligations.TriggerUnitRequests : Prop :=
  ∀ (tag : Nat) (i : Fin 8) (k : Fin 32) (debounce reload : Nat) (m : CounterMode) (e : Edge) (on flag : Bool) (s : State), s.ready = true →
    exec (.inputConfig tag i.1 debounce) s = .next (s.served tag (.inputConfig i.1 debounce)
      (State.modInput i fun c => { c with debounce := max 1 (min 255 debounce) })
      { code := .ok, clamped := decide (debounce < 1) || decide (255 < debounce), data := [] }) ∧
    (reload ≤ 65535 → exec (.counterConfig tag i.1 m.code e.code reload) s =
      .next (s.served tag (.counterConfig i.1 m.code e.code reload)
        (State.modCounter i fun _ => { mode := m, edge := e, reload := reload, count := reload }) okay)) ∧
    exec (.auxSet tag i.1 (if on then 0 else 1)) s = .next (s.served tag (.auxSet i.1 (if on then 0 else 1))
      (State.modTrig fun t => { t with aux := t.aux.set i on }) okay) ∧
    exec (.triggerEnable tag k.1 flag) s = .next (s.served tag (.triggerEnable k.1 flag) (State.modTrigger k fun x => { x with enabled := flag }) okay) ∧
    exec (.triggerClearCounts tag k.1) s = .next (s.served tag (.triggerClearCounts k.1)
      (State.modTrigger k fun x => { x with fires := 0, suppressed := 0, last := .none }) okay) ∧
    (∀ (n a b : Nat) (src : Source), readSource n a b = some src ↔
      (n = 0 ∧ a + 256 * b ≤ 1439 ∧ src = .townAt (a + 256 * b)) ∨ (n = 1 ∧ src = .townDay) ∨
      (n = 2 ∧ ∃ j : Fin 8, a = j.1 ∧ (b = 0 ∧ src = .inputEdge j .rising ∨ b = 1 ∧ src = .inputEdge j .falling)) ∨
      (n = 3 ∧ ∃ j : Fin 8, a = j.1 ∧ src = .inputCount j) ∨
      (n = 4 ∧ ∃ x : Fin 48, a = x.1 ∧ (b = 0xFF ∧ src = .sectionEnter x none ∨ ∃ t : Fin 8, b = t.1 ∧ src = .sectionEnter x (some t))) ∨
      (n = 5 ∧ ∃ j : Fin 8, a = j.1 ∧ src = .axisIndex j) ∨ (n = 6 ∧ a ≤ 255 ∧ src = .cueMark a) ∨ (n = 7 ∧ src = .dressingEnd) ∨
      (n = 8 ∧ (a = 0 ∧ src = .railDone .raise ∨ a = 1 ∧ src = .railDone .lower))) ∧
    (∀ (r : RawTrigger) (src : Source) (p : Fin 8) (l : Fin 64) (pol : Policy), readSource r.source r.par1 r.par2 = some src →
      r.player = p.1 → r.list = l.1 → r.policy = pol.code →
      exec (.triggerSet tag k.1 r) s = .next (s.served tag (.triggerSet k.1 r)
        (State.modTrigger k fun _ => { enabled := r.enabled, source := src, player := p, list := l, policy := pol, fires := 0, suppressed := 0
                                       last := .none, applied := false }) okay)) ∧
    (∀ (r : RawTrigger) (n : Nat), 31 < n ∨ readSource r.source r.par1 r.par2 = none ∨ 7 < r.player ∨ 63 < r.list ∨ 2 < r.policy →
      exec (.triggerSet tag n r) s = .next (s.served tag (.triggerSet n r) id (refuse .outOfRange))) ∧
    (∀ n v, 7 < n ∨ 1 < v → exec (.auxSet tag n v) s = .next (s.served tag (.auxSet n v) id (refuse .outOfRange))) ∧
    (∀ n, 31 < n → exec (.triggerEnable tag n flag) s = .next (s.served tag (.triggerEnable n flag) id (refuse .outOfRange)) ∧
      exec (.triggerClearCounts tag n) s = .next (s.served tag (.triggerClearCounts n) id (refuse .outOfRange))) ∧
    (∀ n, 7 < n → exec (.inputConfig tag n debounce) s = .next (s.served tag (.inputConfig n debounce) id (refuse .outOfRange))) ∧
    (∀ n w v x, 7 < n ∨ 2 < w ∨ 1 < v ∨ 65535 < x →
      exec (.counterConfig tag n w v x) s = .next (s.served tag (.counterConfig n w v x) id (refuse .outOfRange)))

/-- The conditioner and the counter (R144, R146): the first sample is taken as it is; a differing sample that reaches the
debounce confirms its edge; a counted edge counts down, and at 0 it underflows, reloading in RELOAD and turning the counter OFF
in ONE_SHOT. The rows (R144; log entry 2): INPUT_SAMPLE samples every input still due, each through its conditioner, and takes
the edge it confirms; INPUT_EDGE is the due sample of one input at the other level that confirms an edge, which is raised before
the counter takes it; that row is decided by the conditioner's own sample. That all that follows from one input comes before the
next is sampled is log entry 63. -/
def Obligations.InputsAndCounters : Prop :=
  (∀ (c : Conditioner) (k : Counter) (level : Bool) (e : Edge),
     (c.initialized = false → c.sample level = ({ c with high := level, run := 0, initialized := true }, none)) ∧
     (c.initialized = true → c.sample c.high = ({ c with run := 0 }, none)) ∧
     (c.initialized = true → c.run + 1 < c.debounce → c.sample (!c.high) = ({ c with run := c.run + 1 }, none)) ∧
     (c.initialized = true → c.debounce ≤ c.run + 1 →
       c.sample (!c.high) = ({ c with high := !c.high, run := 0 }, some (if c.high then .falling else .rising))) ∧
     (k.mode = .off ∨ k.edge ≠ e → k.count_ e = (k, false)) ∧
     (k.mode ≠ .off → k.edge = e → 0 < k.count → k.count_ e = ({ k with count := k.count - 1 }, false)) ∧
     (k.mode = .reload → k.edge = e → k.count = 0 → k.count_ e = ({ k with count := k.reload }, true)) ∧
     (k.mode = .oneShot → k.edge = e → k.count = 0 → k.count_ e = ({ k with mode := .off }, true))) ∧
  ∀ (levels : Nat) (i : Fin 8) (s : State), s.work.isClear = true →
    let high := (s.trig.inputs.get i).high
    let other := s.modPins fun p => { p with window := if high then p.window &&& ~~~(1#8 <<< i.1) else p.window ||| (1#8 <<< i.1) }
    exec (.inputSample levels) s =
      .next (finish (eachSettled s.dueInputs sampleInput (s.modPins fun p => { p with window := BitVec.ofNat 8 levels }))) ∧
    exec (.inputEdge i.1) s = .next (if s.sched.inputs.getLsbD i.1 && (other.wouldEdge i).isSome then finish (sampleInput i other) else s) ∧
    (let r := (s.trig.inputs.get i).sample (s.pins.window.getLsbD i.1)
     let kept := (s.modSched fun d => { d with inputs := d.inputs &&& ~~~(1#8 <<< i.1) }).modInput i fun _ => r.1
     s.wouldEdge i = r.2 ∧ (r.2 = none → sampleInput i s = kept) ∧ ∀ e, r.2 = some e → sampleInput i s = confirmEdge i e kept) ∧
    ∀ e : Edge, confirmEdge i e s =
      let counted := (s.raise (.inputEdge i e)).modCounter i fun k => (k.count_ e).1
      if ((s.trig.counters.get i).count_ e).2 then counted.raise (.inputCount i) else counted

/-- A trigger applied (R152): one already applied in this real millisecond is suppressed and counted; otherwise its player is
started as PLAYER_START would, the fire count rises and the outcome is recorded. The triggers an event matches are those enabled
whose source it matches, in ascending index. Which events match each source (R151). The order of a handling's work (R128, R152;
log entry 4, the model's choice where these leave it open): first the blocks' own work, what a piece of it puts off before the
work that waited; then the players' runs in line, a stage of which only a RUNNING player has; then each event and ending, in the
order they arrived, offered to the players; then the triggers an event matched, one at a time; then the next event for the
triggers; without work nothing. -/
def Obligations.TriggerApplied : Prop :=
  (∀ (k : Fin 32) (e : Event) (s : State),
    let r := s.trig.triggers.get k
    let h := startPlayer r.player r.list r.policy s
    (r.applied = true → applyTrigger k s = s.modTrigger k fun x => { x with suppressed := min 65535 (x.suppressed + 1) }) ∧
    (r.applied = false → applyTrigger k s =
      h.1.modTrigger k fun x => { x with applied := true, fires := min 65535 (x.fires + 1), last := h.2 }) ∧
    (∀ j, j ∈ s.matching e ↔ (s.trig.triggers.get j).enabled = true ∧ (s.trig.triggers.get j).source.matches_ e = true) ∧
    (s.matching e).Pairwise (· < ·)) ∧
  -- The order of the work (R128, R152)
  (∀ s : State,
    let w := s.work
    let rest := fun w : Work => { s with work := w }
    (∀ t more, w.stack = t :: more →
      let done := doTask t (rest { w with stack := [] })
      settleOne s = some { done with work := { done.work with stack := done.work.stack ++ more } }) ∧
    (∀ p stage more, w.stack = [] → w.runs = (p, stage) :: more → settleOne s = some (runStage p stage (rest { w with runs := more }))) ∧
    (∀ n item more, w.stack = [] → w.runs = [] → w.held = (n, item) :: more →
      settleOne s = some (offerItem n item (rest { w with held := more }))) ∧
    (∀ k more, w.stack = [] → w.runs = [] → w.held = [] → w.matched = k :: more →
      settleOne s = some (applyTrigger k (rest { w with matched := more }))) ∧
    (∀ e more, w.stack = [] → w.runs = [] → w.held = [] → w.matched = [] → w.events = e :: more →
      settleOne s = some (rest { w with events := more, matched := s.matching e })) ∧
    (w.isClear = true ↔ settleOne s = none) ∧
    settle s = settleN Config.settleFuel s ∧ settleN 0 s = s ∧
    ∀ n, (settleOne s = none → settleN (n + 1) s = s) ∧ ∀ u, settleOne s = some u → settleN (n + 1) s = settleN n u) ∧
  (∀ (t p : Fin 8) (x : Fin 48) (c : Fin 4) (st : GateState) (stage : Stage) (s : State),
    doTask (.claim t) s = testClaim t s ∧ doTask (.complete t) s = completeGrant t s ∧ doTask .examine s = examineHead s ∧
    doTask (.expire x) s = expireSec x s ∧ doTask (.gateSeen c st) s = gateSeen c st s ∧ doTask (.run p stage) s = runStage p stage s ∧
    ((s.cue.players.get p).state ≠ .running → runStage p stage s = s) ∧
    ((s.cue.players.get p).state = .running → runStage p .wait s = beginWait p s ∧ runStage p .contend s = contend p s ∧
      runStage p .advance s = advanceStep p (s.modPlayer p fun y => { y with await := none }) ∧
      ∀ code detail, runStage p (.fail code detail) s = faultPlayer p code detail s)) ∧
  ∀ (x : Source) (e : Event), x.matches_ e = true ↔
    match x with
    | .townAt m => e = .townMinute m
    | .townDay => ∃ day, e = .townDay day
    | .inputEdge i edge => e = .inputEdge i edge
    | .inputCount i => e = .inputCount i
    | .sectionEnter y none => ∃ t, e = .sectionEnter y t
    | .sectionEnter y (some t) => e = .sectionEnter y t
    | .axisIndex a => ∃ error slip, e = .axisIndex a error slip
    | .cueMark v => e = .cueMark v
    | .dressingEnd => e = .dressing false
    | .railDone q => e = .railDone q

/-! ## Supply rails, overload and the dressing interlock -/

/-- RAIL_PROGRAM (R155), RAIL_RAISE and RAIL_LOWER (R156), RAIL_SET (R158): a program is replaced whole while the sequencer is
IDLE; a program is started at step 0 with its delay of 2^e, also over the other one, and goes on when it runs already; a pattern
is set at once while the sequencer is IDLE. The first step whose e lies above 15 is named (log entry 57). A program step (R157):
a step whose delay has reached 0 sets the rails to its pattern; the next step is loaded with its own delay, and after step 7 the
sequencer is IDLE and RAIL_DONE is raised. A pattern equal to the rails raises nothing (R154). A pattern's changes are reported
in the order TRACK, MOTION, LIGHTS, AUX, each with the blocks' reaction, and each enable pin is high while its rail is UP, which
is log entry 41. The axes at the MOTION rail (R119): at DOWN every axis stands UNHOMED at once, but for a HELD one, and each
that was under way ends; at UP a GATE axis with a goal homes. The phase then is log entry 49. That RAIL_PROGRAM_STEP leaves the
state when no step is due is log entry 2, and the blocks' reactions right after each rail's event are log entry 33. That an axis
that is no gate reports UNKNOWN is log entry 22. -/
def Obligations.RailsAndPrograms : Prop :=
  (∀ (tag : Nat) (q : Program) (steps : List (Nat × Nat)) (pattern : Nat) (s : State), s.ready = true → steps.length = 8 →
     let r : Request := .railProgram q.code steps
     let start := fun q : Program => State.modSupply fun k => { k with seq := .active q 0 (2 ^ ((k.program q).get 0).1) }
     (∀ t : Table (Nat × Rails) 8, (∀ x ∈ steps, x.1 ≤ 15) → s.supply.seq = .idle → t.items = steps.map (fun x => (x.1, railsOf x.2)) →
       exec (.railProgram tag q.code steps) s = .next (s.served tag r
         (State.modSupply fun k => match q with | .raise => { k with raise := t } | .lower => { k with lower := t }) okay)) ∧
     ((∀ x ∈ steps, x.1 ≤ 15) → s.supply.seq ≠ .idle →
       exec (.railProgram tag q.code steps) s = .next (s.served tag r id (refuse .wrongState))) ∧
     (∀ before x after, steps = before ++ x :: after → (∀ y ∈ before, y.1 ≤ 15) → 15 < x.1 →
       exec (.railProgram tag q.code steps) s = .next (s.served tag r id (refuseAt .outOfRange 1 before.length 0))) ∧
     (∀ program, 1 < program → exec (.railProgram tag program steps) s =
       .next (s.served tag (.railProgram program steps) id (refuse .outOfRange))) ∧
     (s.supply.seq.runs .raise = false → exec (.railRaise tag) s = .next (s.served tag .railRaise (start .raise) taken)) ∧
     (s.supply.seq.runs .raise = true → exec (.railRaise tag) s = .next (s.served tag .railRaise id okay)) ∧
     (s.supply.seq.runs .lower = false → exec (.railLower tag) s = .next (s.served tag .railLower (start .lower) taken)) ∧
     (s.supply.seq.runs .lower = true → exec (.railLower tag) s = .next (s.served tag .railLower id okay)) ∧
     (s.supply.seq = .idle → exec (.railSet tag pattern) s = .next (s.served tag (.railSet pattern) (setRails (railsOf pattern)) okay)) ∧
     (s.supply.seq ≠ .idle → exec (.railSet tag pattern) s = .next (s.served tag (.railSet pattern) id (refuse .wrongState)))) ∧
  (∀ (q : Program) (i : Fin 8) (s : State),
    let applied := setRails ((s.supply.program q).get i).2 s
    (s.work.isClear = true → s.supply.seq = .active q i 0 → ∀ h : i.1 + 1 < 8, exec .railProgramStep s = .next (finish
      (applied.modSupply fun k => { k with seq := .active q ⟨i.1 + 1, h⟩ (2 ^ ((k.program q).get ⟨i.1 + 1, h⟩).1) }))) ∧
    (s.work.isClear = true → s.supply.seq = .active q 7 0 → i = 7 → exec .railProgramStep s = .next (finish
      ((applied.modSupply fun k => { k with seq := .idle }).raise (.railDone q)))) ∧
    (s.work.isClear = true → (∀ q i, s.supply.seq ≠ .active q i 0) → exec .railProgramStep s = .next s) ∧
    setRails s.supply.rails s = s ∧ ∀ pattern, (setRails pattern s).supply = { s.supply with rails := pattern }) ∧
  (∀ (pattern : Rails) (up : Bool) (r : Rail) (s : State),
    let change := fun (r : Rail) (s' : State) =>
      if s.supply.rails.up r = pattern.up r then s' else railReaction r (pattern.up r) (s'.raise (.railChange r (pattern.up r)))
    setRails pattern s = change .aux (change .lights (change .motion (change .track (s.modSupply fun k => { k with rails := pattern })))) ∧
    railReaction .track false s = emergencyStop .rail s ∧ railReaction .track true s = resyncAll s ∧
    railReaction .motion false s = motionDown s ∧ railReaction .motion true s = motionUp s ∧
    railReaction .lights false s = sodiumRailDown s ∧ railReaction .lights true s = s ∧ railReaction .aux up s = s ∧
    s.enablePin r = (match r with
      | .track => s.supply.rails.track | .motion => s.supply.rails.motion | .lights => s.supply.rails.lights | .aux => s.supply.rails.aux)) ∧
  ∀ (a : Fin 8) (s : State),
    let x := s.axes.get a
    let homing := { x with
      state := .homing, homed := false, fault := none, homeRun := 0, homeTravel := 0, motion := .home, met := false, reported := .unknown
      dir := if x.v = 0 then .reverse else x.dir, phase := if x.v = 0 ∨ x.dir = .reverse then .cruise else .reversing }
    (motionDown s).axes.get a = { x with
      v := 0, f := 0, motion := .none, phase := .cruise, met := false, homed := false, fault := none
      state := if x.state = .held then .held else .unhomed, travel := 0, indexRun := 0, homeRun := 0, armed := true, reported := .unknown } ∧
    (x.state = .moving ∨ x.state = .homing → ∃ n, (n, .ending (.axis a)) ∈ (motionDown s).work.held) ∧
    (x.kind = .gate → x.state = .unhomed → x.goal ≠ .none → (motionUp s).axes.get a = homing) ∧
    (¬(x.kind = .gate ∧ x.state = .unhomed ∧ x.goal ≠ .none) → (motionUp s).axes.get a = { x with reported := x.gateState })

/-- The overload input (R159, R160; log entry 2): a sample equal to the confirmed state sets the run to 0, the first that differs
raises it to 1, and the second confirms the change, by the plain sample command as by its own row; the onset's effect on the
cut-off, the lockout of a third onset, the end timer, and the two expiries. The lockout (R160) puts the TRACK rail DOWN, ends a
RAISE program in progress, clears the onset count and raises OVERLOAD(LOCKOUT). -/
def Obligations.Overload : Prop :=
  ∀ (active : Bool) (s : State), s.work.isClear = true →
    let k := s.supply
    let read := s.modPins fun p => { p with overload := active }
    let confirmed := fun level : Bool => (((s.modPins fun p => { p with overload := level }).modSched fun d => { d with overload := false }).modSupply
      fun k => { k with overload := level, overloadRun := 0 })
    exec (.overloadSample active) s = .next (if s.sched.overload then finish (sampleOverload read) else read) ∧
    (s.sched.overload = true → k.overload = false → k.overloadRun = 1 → k.onsets < 2 → exec .overloadOnset s =
      .next (finish (onsetCutoff ((confirmed true).modSupply fun k => { k with quiet := none, onsets := k.onsets + 1 })))) ∧
    (s.sched.overload = true → k.overload = false → k.overloadRun = 1 → k.onsets = 2 → exec .overloadOnset s =
      .next (finish (lockout (onsetCutoff ((confirmed true).modSupply fun k => { k with quiet := none, onsets := 2 }))))) ∧
    (s.sched.overload = true → k.overload = true → k.overloadRun = 1 → k.cutoff = true → k.endTimer = none → exec .overloadClear s =
      .next (finish ((confirmed false).modSupply fun k => { k with endTimer := some 2000 }))) ∧
    (let sampled := fun f : Supply → Supply => (s.modSched fun d => { d with overload := false }).modSupply f
     (s.pins.overload = k.overload → sampleOverload s = sampled fun k => { k with overloadRun := 0 }) ∧
     (s.pins.overload ≠ k.overload → k.overloadRun ≠ 1 → sampleOverload s = sampled fun k => { k with overloadRun := 1 })) ∧
    (s.sched.overload = true → k.overloadRun = 1 → active ≠ k.overload →
      exec (.overloadSample active) s = if active then exec .overloadOnset s else exec .overloadClear s) ∧
    (s.sched.overload = true → k.overload = true → k.overloadRun = 1 → (k.cutoff = false ∨ k.endTimer ≠ none) →
      exec .overloadClear s = .next (finish (confirmed false))) ∧
    (s.sched.overload = false ∨ k.overloadRun ≠ 1 → exec .overloadOnset s = .next s ∧ exec .overloadClear s = .next s) ∧
    (k.cutoff = true → onsetCutoff s = s.modSupply fun k => { k with endTimer := none }) ∧
    (k.cutoff = false → onsetCutoff s =
      emergencyStop .overload ((s.modSupply fun k => { k with cutoff := true, endTimer := none }).raise (.overload .begin))) ∧
    (k.endTimer = some 0 → exec .overloadEnd s = .next (finish (resyncAll
      ((s.modSupply fun k => { k with endTimer := none, cutoff := false, quiet := some 60000 }).raise (.overload .finish))))) ∧
    (k.endTimer ≠ some 0 → exec .overloadEnd s = .next s) ∧
    (k.quiet = some 0 → exec .quietTimerExpiry s = .next (finish (s.modSupply fun k => { k with quiet := none, onsets := 0 }))) ∧
    (k.quiet ≠ some 0 → exec .quietTimerExpiry s = .next s) ∧
    let down := setRails { s.supply.rails with track := false } s
    lockout s = (down.modSupply fun k => { k with
      seq := (match k.seq with | .active .raise _ _ => .idle | q => q), onsets := 0 }).raise (.overload .lockout)

/-- The dressing key (R161; log entry 2): a due sample that differs from the confirmed state counts, the fiftieth confirms it,
by the plain sample command as by its own row, and the interlock follows: at ON the trains stop, the axes are held and the
crossings suspend; at OFF they are released. The order of the blocks at ON and at OFF is log entry 33, and that of the crossings
and of the axes among themselves is log entry 58. The axes (R120): at ON each stands HELD at once, without goal, and each that
was under way ends; at OFF a HELD one goes to FAULT with its code, or to rest, and a GATE axis with a goal carries it out while
its rail is UP. The phase of a HELD axis is log entry 49, and that one re-entering FAULT drops its goal is log entry 28. -/
def Obligations.DressingKey : Prop :=
  ∀ (on : Bool) (s : State), s.work.isClear = true →
    let k := s.supply
    let read := s.modPins fun p => { p with key := on }
    let sampled := read.modSched fun d => { d with key := false }
    let turned := ((s.modPins fun p => { p with key := !k.keyOn }).modSched fun d => { d with key := false }).modSupply
      fun k => { k with keyOn := !k.keyOn, keyRun := 0 }
    (s.sched.key = false → exec (.dressingKeySample on) s = .next read) ∧
    (s.sched.key = true → on = k.keyOn →
      exec (.dressingKeySample on) s = .next (finish (sampled.modSupply fun k => { k with keyRun := 0 }))) ∧
    (s.sched.key = true → on ≠ k.keyOn → k.keyRun + 1 < 50 →
      exec (.dressingKeySample on) s = .next (finish (sampled.modSupply fun k => { k with keyRun := k.keyRun + 1 }))) ∧
    (s.sched.key = true → 50 ≤ k.keyRun + 1 → k.keyOn = false → exec .dressing s = .next (finish (
      forEach (indices 4) suspendCrossing (holdAxes (emergencyStop .dressing (turned.raise (.dressing true))))))) ∧
    (s.sched.key = true → 50 ≤ k.keyRun + 1 → k.keyOn = true → exec .dressing s = .next (finish (
      unblockInterlock ((resyncAll (releaseAxes (forEach (indices 4) recommandCrossing (turned.raise (.dressing false))))).later .examine)))) ∧
    (s.sched.key = true → on ≠ k.keyOn → 50 ≤ k.keyRun + 1 → exec (.dressingKeySample on) s = exec .dressing s) ∧
    (s.sched.key = false ∨ k.keyRun + 1 < 50 → exec .dressing s = .next s) ∧
    (∀ a, ((holdAxes s).axes.get a).state = .held ∧ ((holdAxes s).axes.get a).v = 0 ∧ ((holdAxes s).axes.get a).goal = .none) ∧
    ∀ a, let x := s.axes.get a
      let heldNow := { x with v := 0, f := 0, motion := .none, phase := .cruise, met := false, goal := .none, state := .held }
      let free := if x.state = .held then
          if x.fault.isSome then { x with state := .fault, goal := .none } else { x with state := if x.homed then .idle else .unhomed }
        else x
      let carries := s.supply.rails.motion = true ∧ x.kind = .gate ∧ x.state = .held ∧ x.fault = none
      let shown := fun y : Axis => { y with reported := y.gateState }
      (holdAxes s).axes.get a = shown heldNow ∧
      (x.state = .moving ∨ x.state = .homing → ∃ n, (n, .ending (.axis a)) ∈ (holdAxes s).work.held) ∧
      (carries → x.goal = .open_ → (releaseAxes s).axes.get a = shown ((shown free).command true .open_)) ∧
      (carries → x.goal = .closed → (releaseAxes s).axes.get a = shown ((shown free).command true .close)) ∧
      (¬(carries ∧ x.goal ≠ .none) → (releaseAxes s).axes.get a = shown free)

/-! ## Queries -/

/-- The queries (R17, R27, R37, R64, R84, R103, R122, R126, R141, R148, R153, R162, and R149 and R171 alike): a query of an item
the part has changes nothing but the Show Link's own records, and its reply is OK with the data named here, read at the moment
it is taken; LIST_QUERY for every first index and count in range, LAYOUT_QUERY for every index of each class; any other index,
class or range is refused with OUT_OF_RANGE. The data's layout is log entry 6, absent two-byte values are log entry 42, a target
and a gate timeout are entry 43, a binding is entry 44, the effective target of an UNPLACED train is entry 50, the levels of
AUX_QUERY are entry 51, the end of SECTION_QUERY and CROSSING_QUERY out of service is entry 29, and the gate state of an axis
that is no gate is entry 22. NONE in the fields an undefined point or crossing lacks is entry 37 (DEDUCED), the level of
INPUT_QUERY, that last presented, is entry 10, the detail of REPEAT_OVERFLOW is entry 64, and the four bytes of an angle are
entry 65. -/
def Obligations.Queries : Prop :=
  ∀ (tag : Nat) (g : Fin 32) (t4 c4 : Fin 4) (c : Fin 512) (x : Fin 48) (p : Fin 24) (i : Fin 8) (k : Fin 32) (l : Fin 64) (s : State),
    s.ready = true →
    let asked := fun (q : Instr) (r : Request) (data : List Byte) =>
      exec q s = .next (s.served tag r id { code := .ok, clamped := false, data := data })
    let refused := fun (q : Instr) (r : Request) => exec q s = .next (s.served tag r id (refuse .outOfRange))
    -- The Show Link and the Town Clock (R17, R171)
    asked (.identify tag) .identify (dat 2 0x7260 ++ dat 1 1 ++ dat 1 48 ++ dat 1 24 ++ dat 1 4 ++ dat 1 8 ++ dat 1 16 ++ dat 1 12
      ++ dat 1 8 ++ dat 1 32 ++ dat 2 512 ++ dat 1 4 ++ dat 1 16 ++ dat 1 4 ++ dat 1 128 ++ dat 1 16 ++ dat 1 64 ++ dat 1 32 ++ dat 1 8
      ++ dat 1 57 ++ dat 1 32 ++ dat 1 8 ++ dat 1 8 ++ dat 1 4 ++ dat 1 32) ∧
    asked (.status tag) .status (dat 1 s.track.config.code ++ datRails s.supply.rails ++ dat 1 s.supply.seq.code
      ++ dat 1 (if s.supply.cutoff then 0 else 1) ++ dat 1 (if s.supply.keyOn then 0 else 1) ++ dat 1 s.clock.state.code
      ++ (indices 8).flatMap (fun p => dat 1 (s.cue.players.get p).state.code) ++ dat 1 s.link.notices.length ++ dat 1 s.link.lost) ∧
    (let c := s.clock;
      asked (.clockQuery tag) .clockQuery
        (dat 1 c.state.code ++ dat 4 c.town ++ dat 2 c.day ++ dat 1 c.p ++ dat 2 c.m ++ dat 1 c.q ++ dat 1 c.acc ++ dat 2 c.glideRate
          ++ (match c.target with | some t => dat 1 1 ++ dat 4 t | none => dat 1 0 ++ dat 4 0) ++ dat 2 c.rem ++ dat 4 c.rt.toNat)) ∧
    -- The Light Engine (R27, R37)
    asked (.gammaQuery tag t4.1) (.gammaQuery t4.1)
      ((s.light.gammas.get t4).flatMap fun n => [BitVec.ofNat 8 n, BitVec.ofNat 8 (n / 256)]) ∧
    (let r := s.light.groups.get g;
      asked (.groupQuery tag g.1) (.groupQuery g.1) (dat 1 r.mode.code ++ datL r.curve (fun y => dat 2 y.1 ++ dat 2 y.2) ++ dat 2 r.levelNow
        ++ datR r.fade 9 (fun f => dat 2 f.fromLevel ++ dat 2 f.toLevel ++ dat 2 f.duration ++ dat 2 f.elapsed ++ dat 1 f.base.code)
        ++ dat 1 r.rounding.code ++ dat 1 r.gamma.1
        ++ datR r.blink 5 (fun b => dat 1 b.onFrames ++ dat 1 b.offFrames ++ dat 1 (if b.phaseOn then 0 else 1) ++ dat 1 b.counter ++ dat 1 b.burst))) ∧
    (let r := s.light.channels.get c;
      asked (.channelQuery tag c.1) (.channelQuery c.1) (dat 1 r.group.1 ++ dat 1 r.kind.code ++ datS 2 r.trim ++ datBinding r.kind
        ++ dat 2 r.warmFrames ++ dat 2 r.restrikeFrames ++ datSodium r.sodium ++ datPlace (s.light.placeOf c.1) ++ dat 2 r.lastV
        ++ dat 2 r.lastW ++ dat 2 r.lastD)) ∧
    -- The Track Controller (R64, R84)
    (let d := s.track.defs.get x;
      asked (.layoutQuery tag 0 x.1) (.layoutQuery 0 x.1) (dat 1 s.track.config.code ++ datF d.present ++ datLink d.linkA ++ datLink d.linkB
        ++ dat 2 d.clearance ++ dat 2 d.filter ++ datO 1 (d.crossing.map Fin.val))) ∧
    (let r := s.track.points.get p;
      asked (.layoutQuery tag 1 p.1) (.layoutQuery 1 p.1) (dat 1 s.track.config.code ++ datF r.defn.isSome
        ++ datO 1 (r.defn.map fun d => d.sec.1) ++ datO 1 ((r.defn.bind fun d => toeEnd s p d).map End.code)
        ++ datLeg (r.defn.map PointDef.normal) ++ datLeg (r.defn.map PointDef.reverse) ++ dat 1 r.position.code ++ dat 2 r.pulse)) ∧
    (let r := s.track.crossings.get c4;
      asked (.layoutQuery tag 2 c4.1) (.layoutQuery 2 c4.1) (dat 1 s.track.config.code ++ datF r.defn.isSome
        ++ datO 1 (r.defn.map fun d => d.axis.1) ++ datL ((r.defn.map CrossingDef.members).getD []) (fun y => dat 1 y.1)
        ++ dat 2 r.openDelay ++ dat 2 r.gateTimeout)) ∧
    (let d := s.track.detectors.get x;
      let inService := s.track.config = .operational ∧ (s.track.defs.get x).present = true;
      (inService → asked (.sectionQuery tag x.1) (.sectionQuery x.1) (datF d.occupied ++ dat 2 d.progress ++ dat 1 (s.sec x).code
        ++ datO 1 ((s.sec x).holder.map Fin.val) ++ datO 1 ((s.senseOf x).map Sense.code)
        ++ datL (s.track.runs.get x).waiting (fun t => dat 1 t.1) ++ datO 2 (s.sec x).clearingLeft)) ∧
      (¬inService → asked (.sectionQuery tag x.1) (.sectionQuery x.1) (datF d.occupied ++ dat 2 d.progress ++ dat 1 0xFF))) ∧
    (∀ d k, s.track.config = .operational → (s.track.crossings.get c4).defn = some d → s.track.couplings.get c4 = some k →
      asked (.crossingQuery tag c4.1) (.crossingQuery c4.1) (dat 1 k.demand.code ++ datO 1 (k.last.map GateWish.code)
        ++ dat 1 (s.axes.get d.axis).reported.code ++ datO 2 k.openDelay ++ datGateTimer k.timeout)) ∧
    (s.track.config ≠ .operational ∨ (s.track.crossings.get c4).defn = none ∨ s.track.couplings.get c4 = none →
      asked (.crossingQuery tag c4.1) (.crossingQuery c4.1) (dat 1 0xFF)) ∧
    asked (.throwQuery tag) .throwQuery (datUnit s.track.unit_ ++ dat 2 s.track.recharge
      ++ datL s.track.queue (fun e => dat 1 e.point.1 ++ dat 1 e.position.code ++ datOrigin e.origin)) ∧
    -- Trains and axes (R103, R122)
    (let r := s.trains.get i;
      asked (.trainQuery tag i.1) (.trainQuery i.1) (dat 1 r.state.code ++ dat 1 r.requested ++ dat 1 r.speed ++ dat 1 (s.effective i)
        ++ dat 1 r.maxSpeed ++ dat 1 r.accel ++ dat 1 r.decel ++ dat 1 r.timer ++ dat 1 r.mode.code
        ++ datL r.held (fun e => dat 1 e.1.1 ++ dat 1 e.2.code ++ dat 1 (s.sec e.1).code) ++ datO 1 (s.headIndex i)
        ++ dat 1 (s.authority i).length ++ datL r.queue (fun e => dat 1 e.1.1 ++ dat 1 e.2.code) ++ datClaim r.claim
        ++ datO 1 (r.routeEnd.map Fin.val) ++ dat 1 r.stop.code ++ datO 1 (r.halt.map HaltFault.code))) ∧
    (let r := s.axes.get i;
      asked (.axisQuery tag i.1) (.axisQuery i.1) (dat 1 r.kind.code ++ dat 2 r.maxSpeed ++ dat 2 r.accel ++ dat 2 r.creep ++ dat 2 r.spr
        ++ dat 2 r.offset ++ dat 2 r.tolerance ++ datS 4 r.low ++ datS 4 r.high ++ datS 4 r.openPos ++ datS 4 r.closedPos
        ++ dat 1 r.state.code ++ datF r.homed ++ dat 2 r.v ++ dat 1 r.dir.code ++ datS 4 r.pos ++ dat 2 r.f ++ dat 1 r.motion.code
        ++ datWanted r.motion ++ datTarget r ++ dat 1 r.phase.code ++ dat 1 r.goal.code ++ dat 1 r.gateState.code ++ dat 1 r.indexRun
        ++ datF r.armed ++ dat 4 r.travel ++ dat 1 r.homeRun ++ dat 4 r.homeTravel ++ datO 1 (r.fault.map AxisFaultCode.code))) ∧
    -- The Cue Engine (R126, R141)
    (∀ first count : Nat,
      (first ≤ 31 → count ≤ 17 → first + count ≤ 32 →
        let y := s.cue.lists.get l;
        asked (.listQuery tag l.1 first count) (.listQuery l.1 first count) (dat 1 y.state.code ++ dat 1 y.length
          ++ datF (s.listUser l).isSome
          ++ datL ((y.steps.items.drop first).take count) (fun r => (bStep r).map (BitVec.ofNat 8)))) ∧
      (¬(first ≤ 31 ∧ count ≤ 17 ∧ first + count ≤ 32) → ∀ n, refused (.listQuery tag n first count) (.listQuery n first count)) ∧
      ∀ n, 63 < n → refused (.listQuery tag n first count) (.listQuery n first count)) ∧
    (let r := s.cue.players.get i;
      asked (.playerQuery tag i.1) (.playerQuery i.1) (dat 1 r.priority ++ dat 1 r.state.code
        ++ datR r.cur 2 (fun y => dat 1 y.1.1 ++ dat 1 y.2) ++ datL r.calls (fun y => dat 1 y.1.1 ++ dat 1 y.2)
        ++ datL r.repeats datFrame ++ datR r.wait 6 datWait ++ datR r.await 8 datAwait ++ dat 1 (blockedCode r.blocked)
        ++ datL ((indices 57).filter fun y => s.cue.holders.get y == some i) (fun y => dat 1 y.1)
        ++ datR r.pendingStart 2 (fun y => dat 1 y.1.1 ++ dat 1 y.2.code)
        ++ datR r.fault 5 (fun f => dat 1 f.code.code ++ dat 2 f.detail ++ dat 1 f.list.1 ++ dat 1 f.step)
        ++ datO 1 (r.prePause.map PlayerState.code))) ∧
    -- The Trigger Unit and the Supply Sequencer (R148, R149, R153, R162)
    (let n := s.trig.counters.get i;
      let f := s.trig.inputs.get i;
      asked (.inputQuery tag i.1) (.inputQuery i.1)
        (datF (s.pins.window.getLsbD i.1) ++ datF f.high ++ dat 1 f.run ++ dat 2 f.debounce ++ dat 1 n.mode.code ++ dat 1 n.edge.code
          ++ dat 2 n.reload ++ dat 2 n.count)) ∧
    asked (.auxQuery tag) .auxQuery
      ((indices 8).flatMap (fun y => dat 1 (if s.trig.aux.get y then 0 else 1) ++ datF (s.trig.aux.get y && s.supply.rails.aux))
        ++ datF s.supply.rails.aux) ∧
    (let r := s.trig.triggers.get k;
      asked (.triggerQuery tag k.1) (.triggerQuery k.1) (datF r.enabled ++ dat 1 r.source.code ++ dat 2 r.source.params ++ dat 1 r.player.1
        ++ dat 1 r.list.1 ++ dat 1 r.policy.code ++ dat 2 r.fires ++ dat 2 r.suppressed ++ datLast r.last)) ∧
    (let r := s.supply;
      asked (.supplyQuery tag) .supplyQuery (datRails r.rails ++ datSequencer r.seq ++ datProgram r.raise ++ datProgram r.lower
        ++ dat 1 (if r.overload then 0 else 1) ++ dat 1 (if r.cutoff then 0 else 1) ++ datO 2 r.endTimer ++ dat 1 r.onsets
        ++ datO 2 r.quiet ++ dat 1 (if r.keyOn then 0 else 1) ++ dat 1 r.keyRun ++ dat 1 (if r.keyOn then 0 else 1))) ∧
    -- Items the part does not have
    ∀ n cls : Nat,
      (3 < n → refused (.gammaQuery tag n) (.gammaQuery n) ∧ refused (.crossingQuery tag n) (.crossingQuery n)) ∧
      (7 < n → refused (.trainQuery tag n) (.trainQuery n) ∧ refused (.axisQuery tag n) (.axisQuery n) ∧
        refused (.playerQuery tag n) (.playerQuery n) ∧ refused (.inputQuery tag n) (.inputQuery n)) ∧
      (31 < n → refused (.groupQuery tag n) (.groupQuery n) ∧ refused (.triggerQuery tag n) (.triggerQuery n)) ∧
      (47 < n → refused (.sectionQuery tag n) (.sectionQuery n)) ∧ (511 < n → refused (.channelQuery tag n) (.channelQuery n)) ∧
      ((2 < cls ∨ (cls = 0 ∧ 47 < n) ∨ (cls = 1 ∧ 23 < n) ∨ (cls = 2 ∧ 3 < n)) →
        refused (.layoutQuery tag cls n) (.layoutQuery cls n))

/-! ## Invariants and reset -/

/-- Every step keeps the clock record within its ranges (R2, R3): town time within the day, legal settings, the accumulator below
P × Q, the second remainder below 1000, and the glide record present in GLIDE and absent in RUN. -/
def Obligations.ClockInvariant : Prop :=
  ∀ s t : State, s.clock.wf = true → step s = .next t → t.clock.wf = true

/-- Every step keeps the Show Link's records within their ranges (R165, R169): at most four slots, at most 32 notices, a lost count of at
most 255 that is above 0 only while the queue is full, and at most four BUSY replies. -/
def Obligations.LinkInvariant : Prop :=
  ∀ s t : State, s.link.wf = true → step s = .next t → t.link.wf = true

/-- Every step keeps the trains, the axes, the players with the holder table, and the held lists with the sections' holders within
their rules, each whatever the others are. Trains (R90, R96, R98, R100): no speed above the max speed, an UNPLACED or HALTED train
at 0, and every train at 0 while the TRACK rail is DOWN, the cut-off ACTIVE or the interlock ENGAGED. Axes (R106, R109, R119): no
speed above the max speed, a homed POSITIONAL or GATE axis within its limits, and every axis standing while the MOTION rail is
DOWN. The interlock (R79, R120): while it is ENGAGED every axis is HELD with v 0, no axis is HELD otherwise, and no gate timeout
runs. Players (R131, R136): at most 4 calls and 8 repeats, and no target held by a player in IDLE or FAULT. Sections (R68, R85): a
train's held list names, once each, exactly the sections that name it as their holder, an UNPLACED train holds and claims nothing,
and no train is placed out of service. -/
def Obligations.RecordInvariants : Prop :=
  ∀ s t : State, step s = .next t →
    ((∀ k, (s.trains.get k).wf = true) → ∀ k, (t.trains.get k).wf = true) ∧ (s.axesWf = true → t.axesWf = true) ∧
      (s.cue.wf = true → t.cue.wf = true) ∧ (s.heldWf = true → t.heldWf = true) ∧
      (s.trainsWf = true → t.trainsWf = true) ∧ (s.interlockWf = true → t.interlockWf = true)

/-- After reset every invariant holds, and the blocks' records stand at the values the spec gives (R1, R2, R19, R51, R54, R57,
R68, R75, R85, R104, R129, R154, R161, R168). The empty notice queue, with STARTED picked already, is log entry 7, and the empty
queue of commands is log entry 12: both are the model's. -/
def Obligations.ResetState : Prop :=
  let s := State.reset
  s.clock.wf = true ∧ s.link.wf = true ∧ (∀ k, (s.trains.get k).wf = true) ∧ s.axesWf = true ∧ s.cue.wf = true ∧ s.heldWf = true ∧
    s.trainsWf = true ∧ s.interlockWf = true ∧
    s.pending = [] ∧ s.clock.rt = 0 ∧ s.clock.town = 43200000 ∧ s.clock.day = 0 ∧
    s.clock.state = .run ∧ s.clock.p = 1 ∧ s.clock.m = 1 ∧ s.clock.q = 1 ∧ s.clock.acc = 0 ∧ s.clock.glideRate = 1200 ∧
    s.clock.target = none ∧ s.clock.rem = 0 ∧
    (∀ g, s.light.groups.get g = { mode := .fixed, curve := [], level := 0, fade := none, rounding := .nearestEven, gamma := 0, blink := none }) ∧
    s.track.config = .unconfigured ∧ (∀ x, (s.track.defs.get x).present = false ∧ s.sec x = .none) ∧
    (∀ p, (s.track.points.get p).position = .unknown) ∧ s.track.unit_ = .ready ∧ s.track.queue = [] ∧
    (∀ t, (s.trains.get t).placed = false ∧ (s.trains.get t).speed = 0) ∧
    (∀ a, (s.axes.get a).kind = .rotary ∧ (s.axes.get a).state = .unhomed ∧ (s.axes.get a).homed = false) ∧
    (∀ p, (s.cue.players.get p).state = .idle) ∧ (∀ x, s.cue.holders.get x = none) ∧ (∀ k, (s.trig.triggers.get k).enabled = false) ∧
    (∀ i, s.trig.aux.get i = false) ∧ s.supply.rails = { track := false, motion := false, lights := false, aux := false } ∧
    s.supply.seq = .idle ∧ s.supply.cutoff = false ∧ s.supply.keyOn = false ∧ s.link.mask = 0x1FE#9 ∧ s.link.slots = [] ∧
    s.link.replies = [] ∧ s.link.notices = []
end

