-- ==== Sys2Proof/Laws/State.lean ====
section
/-! SUPPORT. One lemma for each field of the state under each named update, so that no later proof unfolds a record update. -/

namespace Sys2Proof.Machine

variable (s : State)

/-! ## State.modClock -/

@[simp] theorem State.modClock_clock (f : Clock → Clock) : (s.modClock f).clock = f s.clock := rfl
@[simp] theorem State.modClock_light (f : Clock → Clock) : (s.modClock f).light = s.light := rfl
@[simp] theorem State.modClock_track (f : Clock → Clock) : (s.modClock f).track = s.track := rfl
@[simp] theorem State.modClock_trains (f : Clock → Clock) : (s.modClock f).trains = s.trains := rfl
@[simp] theorem State.modClock_axes (f : Clock → Clock) : (s.modClock f).axes = s.axes := rfl
@[simp] theorem State.modClock_cue (f : Clock → Clock) : (s.modClock f).cue = s.cue := rfl
@[simp] theorem State.modClock_trig (f : Clock → Clock) : (s.modClock f).trig = s.trig := rfl
@[simp] theorem State.modClock_supply (f : Clock → Clock) : (s.modClock f).supply = s.supply := rfl
@[simp] theorem State.modClock_link (f : Clock → Clock) : (s.modClock f).link = s.link := rfl
@[simp] theorem State.modClock_pins (f : Clock → Clock) : (s.modClock f).pins = s.pins := rfl
@[simp] theorem State.modClock_outs (f : Clock → Clock) : (s.modClock f).outs = s.outs := rfl
@[simp] theorem State.modClock_sched (f : Clock → Clock) : (s.modClock f).sched = s.sched := rfl
@[simp] theorem State.modClock_work (f : Clock → Clock) : (s.modClock f).work = s.work := rfl
@[simp] theorem State.modClock_pending (f : Clock → Clock) : (s.modClock f).pending = s.pending := rfl

/-! ## State.modGroup -/

@[simp] theorem State.modGroup_clock (g : Fin 32) (f : Group → Group) : (s.modGroup g f).clock = s.clock := rfl
@[simp] theorem State.modGroup_light (g : Fin 32) (f : Group → Group) : (s.modGroup g f).light = { s.light with groups := s.light.groups.modify g f } := rfl
@[simp] theorem State.modGroup_track (g : Fin 32) (f : Group → Group) : (s.modGroup g f).track = s.track := rfl
@[simp] theorem State.modGroup_trains (g : Fin 32) (f : Group → Group) : (s.modGroup g f).trains = s.trains := rfl
@[simp] theorem State.modGroup_axes (g : Fin 32) (f : Group → Group) : (s.modGroup g f).axes = s.axes := rfl
@[simp] theorem State.modGroup_cue (g : Fin 32) (f : Group → Group) : (s.modGroup g f).cue = s.cue := rfl
@[simp] theorem State.modGroup_trig (g : Fin 32) (f : Group → Group) : (s.modGroup g f).trig = s.trig := rfl
@[simp] theorem State.modGroup_supply (g : Fin 32) (f : Group → Group) : (s.modGroup g f).supply = s.supply := rfl
@[simp] theorem State.modGroup_link (g : Fin 32) (f : Group → Group) : (s.modGroup g f).link = s.link := rfl
@[simp] theorem State.modGroup_pins (g : Fin 32) (f : Group → Group) : (s.modGroup g f).pins = s.pins := rfl
@[simp] theorem State.modGroup_outs (g : Fin 32) (f : Group → Group) : (s.modGroup g f).outs = s.outs := rfl
@[simp] theorem State.modGroup_sched (g : Fin 32) (f : Group → Group) : (s.modGroup g f).sched = s.sched := rfl
@[simp] theorem State.modGroup_work (g : Fin 32) (f : Group → Group) : (s.modGroup g f).work = s.work := rfl
@[simp] theorem State.modGroup_pending (g : Fin 32) (f : Group → Group) : (s.modGroup g f).pending = s.pending := rfl

/-! ## State.modChannel -/

@[simp] theorem State.modChannel_clock (c : Fin 512) (f : Channel → Channel) : (s.modChannel c f).clock = s.clock := rfl
@[simp] theorem State.modChannel_light (c : Fin 512) (f : Channel → Channel) : (s.modChannel c f).light = { s.light with channels := s.light.channels.modify c f } := rfl
@[simp] theorem State.modChannel_track (c : Fin 512) (f : Channel → Channel) : (s.modChannel c f).track = s.track := rfl
@[simp] theorem State.modChannel_trains (c : Fin 512) (f : Channel → Channel) : (s.modChannel c f).trains = s.trains := rfl
@[simp] theorem State.modChannel_axes (c : Fin 512) (f : Channel → Channel) : (s.modChannel c f).axes = s.axes := rfl
@[simp] theorem State.modChannel_cue (c : Fin 512) (f : Channel → Channel) : (s.modChannel c f).cue = s.cue := rfl
@[simp] theorem State.modChannel_trig (c : Fin 512) (f : Channel → Channel) : (s.modChannel c f).trig = s.trig := rfl
@[simp] theorem State.modChannel_supply (c : Fin 512) (f : Channel → Channel) : (s.modChannel c f).supply = s.supply := rfl
@[simp] theorem State.modChannel_link (c : Fin 512) (f : Channel → Channel) : (s.modChannel c f).link = s.link := rfl
@[simp] theorem State.modChannel_pins (c : Fin 512) (f : Channel → Channel) : (s.modChannel c f).pins = s.pins := rfl
@[simp] theorem State.modChannel_outs (c : Fin 512) (f : Channel → Channel) : (s.modChannel c f).outs = s.outs := rfl
@[simp] theorem State.modChannel_sched (c : Fin 512) (f : Channel → Channel) : (s.modChannel c f).sched = s.sched := rfl
@[simp] theorem State.modChannel_work (c : Fin 512) (f : Channel → Channel) : (s.modChannel c f).work = s.work := rfl
@[simp] theorem State.modChannel_pending (c : Fin 512) (f : Channel → Channel) : (s.modChannel c f).pending = s.pending := rfl

/-! ## State.modLight -/

@[simp] theorem State.modLight_clock (f : Light → Light) : (s.modLight f).clock = s.clock := rfl
@[simp] theorem State.modLight_light (f : Light → Light) : (s.modLight f).light = f s.light := rfl
@[simp] theorem State.modLight_track (f : Light → Light) : (s.modLight f).track = s.track := rfl
@[simp] theorem State.modLight_trains (f : Light → Light) : (s.modLight f).trains = s.trains := rfl
@[simp] theorem State.modLight_axes (f : Light → Light) : (s.modLight f).axes = s.axes := rfl
@[simp] theorem State.modLight_cue (f : Light → Light) : (s.modLight f).cue = s.cue := rfl
@[simp] theorem State.modLight_trig (f : Light → Light) : (s.modLight f).trig = s.trig := rfl
@[simp] theorem State.modLight_supply (f : Light → Light) : (s.modLight f).supply = s.supply := rfl
@[simp] theorem State.modLight_link (f : Light → Light) : (s.modLight f).link = s.link := rfl
@[simp] theorem State.modLight_pins (f : Light → Light) : (s.modLight f).pins = s.pins := rfl
@[simp] theorem State.modLight_outs (f : Light → Light) : (s.modLight f).outs = s.outs := rfl
@[simp] theorem State.modLight_sched (f : Light → Light) : (s.modLight f).sched = s.sched := rfl
@[simp] theorem State.modLight_work (f : Light → Light) : (s.modLight f).work = s.work := rfl
@[simp] theorem State.modLight_pending (f : Light → Light) : (s.modLight f).pending = s.pending := rfl

/-! ## State.modTrack -/

@[simp] theorem State.modTrack_clock (f : Track → Track) : (s.modTrack f).clock = s.clock := rfl
@[simp] theorem State.modTrack_light (f : Track → Track) : (s.modTrack f).light = s.light := rfl
@[simp] theorem State.modTrack_track (f : Track → Track) : (s.modTrack f).track = f s.track := rfl
@[simp] theorem State.modTrack_trains (f : Track → Track) : (s.modTrack f).trains = s.trains := rfl
@[simp] theorem State.modTrack_axes (f : Track → Track) : (s.modTrack f).axes = s.axes := rfl
@[simp] theorem State.modTrack_cue (f : Track → Track) : (s.modTrack f).cue = s.cue := rfl
@[simp] theorem State.modTrack_trig (f : Track → Track) : (s.modTrack f).trig = s.trig := rfl
@[simp] theorem State.modTrack_supply (f : Track → Track) : (s.modTrack f).supply = s.supply := rfl
@[simp] theorem State.modTrack_link (f : Track → Track) : (s.modTrack f).link = s.link := rfl
@[simp] theorem State.modTrack_pins (f : Track → Track) : (s.modTrack f).pins = s.pins := rfl
@[simp] theorem State.modTrack_outs (f : Track → Track) : (s.modTrack f).outs = s.outs := rfl
@[simp] theorem State.modTrack_sched (f : Track → Track) : (s.modTrack f).sched = s.sched := rfl
@[simp] theorem State.modTrack_work (f : Track → Track) : (s.modTrack f).work = s.work := rfl
@[simp] theorem State.modTrack_pending (f : Track → Track) : (s.modTrack f).pending = s.pending := rfl

/-! ## State.modRun -/

@[simp] theorem State.modRun_clock (x : Fin 48) (f : SectionRun → SectionRun) : (s.modRun x f).clock = s.clock := rfl
@[simp] theorem State.modRun_light (x : Fin 48) (f : SectionRun → SectionRun) : (s.modRun x f).light = s.light := rfl
@[simp] theorem State.modRun_track (x : Fin 48) (f : SectionRun → SectionRun) : (s.modRun x f).track = { s.track with runs := s.track.runs.modify x f } := rfl
@[simp] theorem State.modRun_trains (x : Fin 48) (f : SectionRun → SectionRun) : (s.modRun x f).trains = s.trains := rfl
@[simp] theorem State.modRun_axes (x : Fin 48) (f : SectionRun → SectionRun) : (s.modRun x f).axes = s.axes := rfl
@[simp] theorem State.modRun_cue (x : Fin 48) (f : SectionRun → SectionRun) : (s.modRun x f).cue = s.cue := rfl
@[simp] theorem State.modRun_trig (x : Fin 48) (f : SectionRun → SectionRun) : (s.modRun x f).trig = s.trig := rfl
@[simp] theorem State.modRun_supply (x : Fin 48) (f : SectionRun → SectionRun) : (s.modRun x f).supply = s.supply := rfl
@[simp] theorem State.modRun_link (x : Fin 48) (f : SectionRun → SectionRun) : (s.modRun x f).link = s.link := rfl
@[simp] theorem State.modRun_pins (x : Fin 48) (f : SectionRun → SectionRun) : (s.modRun x f).pins = s.pins := rfl
@[simp] theorem State.modRun_outs (x : Fin 48) (f : SectionRun → SectionRun) : (s.modRun x f).outs = s.outs := rfl
@[simp] theorem State.modRun_sched (x : Fin 48) (f : SectionRun → SectionRun) : (s.modRun x f).sched = s.sched := rfl
@[simp] theorem State.modRun_work (x : Fin 48) (f : SectionRun → SectionRun) : (s.modRun x f).work = s.work := rfl
@[simp] theorem State.modRun_pending (x : Fin 48) (f : SectionRun → SectionRun) : (s.modRun x f).pending = s.pending := rfl

/-! ## State.modPoint -/

@[simp] theorem State.modPoint_clock (p : Fin 24) (f : Point → Point) : (s.modPoint p f).clock = s.clock := rfl
@[simp] theorem State.modPoint_light (p : Fin 24) (f : Point → Point) : (s.modPoint p f).light = s.light := rfl
@[simp] theorem State.modPoint_track (p : Fin 24) (f : Point → Point) : (s.modPoint p f).track = { s.track with points := s.track.points.modify p f } := rfl
@[simp] theorem State.modPoint_trains (p : Fin 24) (f : Point → Point) : (s.modPoint p f).trains = s.trains := rfl
@[simp] theorem State.modPoint_axes (p : Fin 24) (f : Point → Point) : (s.modPoint p f).axes = s.axes := rfl
@[simp] theorem State.modPoint_cue (p : Fin 24) (f : Point → Point) : (s.modPoint p f).cue = s.cue := rfl
@[simp] theorem State.modPoint_trig (p : Fin 24) (f : Point → Point) : (s.modPoint p f).trig = s.trig := rfl
@[simp] theorem State.modPoint_supply (p : Fin 24) (f : Point → Point) : (s.modPoint p f).supply = s.supply := rfl
@[simp] theorem State.modPoint_link (p : Fin 24) (f : Point → Point) : (s.modPoint p f).link = s.link := rfl
@[simp] theorem State.modPoint_pins (p : Fin 24) (f : Point → Point) : (s.modPoint p f).pins = s.pins := rfl
@[simp] theorem State.modPoint_outs (p : Fin 24) (f : Point → Point) : (s.modPoint p f).outs = s.outs := rfl
@[simp] theorem State.modPoint_sched (p : Fin 24) (f : Point → Point) : (s.modPoint p f).sched = s.sched := rfl
@[simp] theorem State.modPoint_work (p : Fin 24) (f : Point → Point) : (s.modPoint p f).work = s.work := rfl
@[simp] theorem State.modPoint_pending (p : Fin 24) (f : Point → Point) : (s.modPoint p f).pending = s.pending := rfl

/-! ## State.setCoupling -/

@[simp] theorem State.setCoupling_clock (c : Fin 4) (k : Option Coupling) : (s.setCoupling c k).clock = s.clock := rfl
@[simp] theorem State.setCoupling_light (c : Fin 4) (k : Option Coupling) : (s.setCoupling c k).light = s.light := rfl
@[simp] theorem State.setCoupling_track (c : Fin 4) (k : Option Coupling) : (s.setCoupling c k).track = { s.track with couplings := s.track.couplings.set c k } := rfl
@[simp] theorem State.setCoupling_trains (c : Fin 4) (k : Option Coupling) : (s.setCoupling c k).trains = s.trains := rfl
@[simp] theorem State.setCoupling_axes (c : Fin 4) (k : Option Coupling) : (s.setCoupling c k).axes = s.axes := rfl
@[simp] theorem State.setCoupling_cue (c : Fin 4) (k : Option Coupling) : (s.setCoupling c k).cue = s.cue := rfl
@[simp] theorem State.setCoupling_trig (c : Fin 4) (k : Option Coupling) : (s.setCoupling c k).trig = s.trig := rfl
@[simp] theorem State.setCoupling_supply (c : Fin 4) (k : Option Coupling) : (s.setCoupling c k).supply = s.supply := rfl
@[simp] theorem State.setCoupling_link (c : Fin 4) (k : Option Coupling) : (s.setCoupling c k).link = s.link := rfl
@[simp] theorem State.setCoupling_pins (c : Fin 4) (k : Option Coupling) : (s.setCoupling c k).pins = s.pins := rfl
@[simp] theorem State.setCoupling_outs (c : Fin 4) (k : Option Coupling) : (s.setCoupling c k).outs = s.outs := rfl
@[simp] theorem State.setCoupling_sched (c : Fin 4) (k : Option Coupling) : (s.setCoupling c k).sched = s.sched := rfl
@[simp] theorem State.setCoupling_work (c : Fin 4) (k : Option Coupling) : (s.setCoupling c k).work = s.work := rfl
@[simp] theorem State.setCoupling_pending (c : Fin 4) (k : Option Coupling) : (s.setCoupling c k).pending = s.pending := rfl

/-! ## State.setQueue -/

@[simp] theorem State.setQueue_clock (q : List ThrowEntry) : (s.setQueue q).clock = s.clock := rfl
@[simp] theorem State.setQueue_light (q : List ThrowEntry) : (s.setQueue q).light = s.light := rfl
@[simp] theorem State.setQueue_track (q : List ThrowEntry) : (s.setQueue q).track = { s.track with queue := q } := rfl
@[simp] theorem State.setQueue_trains (q : List ThrowEntry) : (s.setQueue q).trains = s.trains := rfl
@[simp] theorem State.setQueue_axes (q : List ThrowEntry) : (s.setQueue q).axes = s.axes := rfl
@[simp] theorem State.setQueue_cue (q : List ThrowEntry) : (s.setQueue q).cue = s.cue := rfl
@[simp] theorem State.setQueue_trig (q : List ThrowEntry) : (s.setQueue q).trig = s.trig := rfl
@[simp] theorem State.setQueue_supply (q : List ThrowEntry) : (s.setQueue q).supply = s.supply := rfl
@[simp] theorem State.setQueue_link (q : List ThrowEntry) : (s.setQueue q).link = s.link := rfl
@[simp] theorem State.setQueue_pins (q : List ThrowEntry) : (s.setQueue q).pins = s.pins := rfl
@[simp] theorem State.setQueue_outs (q : List ThrowEntry) : (s.setQueue q).outs = s.outs := rfl
@[simp] theorem State.setQueue_sched (q : List ThrowEntry) : (s.setQueue q).sched = s.sched := rfl
@[simp] theorem State.setQueue_work (q : List ThrowEntry) : (s.setQueue q).work = s.work := rfl
@[simp] theorem State.setQueue_pending (q : List ThrowEntry) : (s.setQueue q).pending = s.pending := rfl

/-! ## State.setUnit -/

@[simp] theorem State.setUnit_clock (u : ThrowUnit) : (s.setUnit u).clock = s.clock := rfl
@[simp] theorem State.setUnit_light (u : ThrowUnit) : (s.setUnit u).light = s.light := rfl
@[simp] theorem State.setUnit_track (u : ThrowUnit) : (s.setUnit u).track = { s.track with unit_ := u } := rfl
@[simp] theorem State.setUnit_trains (u : ThrowUnit) : (s.setUnit u).trains = s.trains := rfl
@[simp] theorem State.setUnit_axes (u : ThrowUnit) : (s.setUnit u).axes = s.axes := rfl
@[simp] theorem State.setUnit_cue (u : ThrowUnit) : (s.setUnit u).cue = s.cue := rfl
@[simp] theorem State.setUnit_trig (u : ThrowUnit) : (s.setUnit u).trig = s.trig := rfl
@[simp] theorem State.setUnit_supply (u : ThrowUnit) : (s.setUnit u).supply = s.supply := rfl
@[simp] theorem State.setUnit_link (u : ThrowUnit) : (s.setUnit u).link = s.link := rfl
@[simp] theorem State.setUnit_pins (u : ThrowUnit) : (s.setUnit u).pins = s.pins := rfl
@[simp] theorem State.setUnit_outs (u : ThrowUnit) : (s.setUnit u).outs = s.outs := rfl
@[simp] theorem State.setUnit_sched (u : ThrowUnit) : (s.setUnit u).sched = s.sched := rfl
@[simp] theorem State.setUnit_work (u : ThrowUnit) : (s.setUnit u).work = s.work := rfl
@[simp] theorem State.setUnit_pending (u : ThrowUnit) : (s.setUnit u).pending = s.pending := rfl

/-! ## State.modTrain -/

@[simp] theorem State.modTrain_clock (t : Fin 8) (f : Train → Train) : (s.modTrain t f).clock = s.clock := rfl
@[simp] theorem State.modTrain_light (t : Fin 8) (f : Train → Train) : (s.modTrain t f).light = s.light := rfl
@[simp] theorem State.modTrain_track (t : Fin 8) (f : Train → Train) : (s.modTrain t f).track = s.track := rfl
@[simp] theorem State.modTrain_trains (t : Fin 8) (f : Train → Train) : (s.modTrain t f).trains = s.trains.modify t f := rfl
@[simp] theorem State.modTrain_axes (t : Fin 8) (f : Train → Train) : (s.modTrain t f).axes = s.axes := rfl
@[simp] theorem State.modTrain_cue (t : Fin 8) (f : Train → Train) : (s.modTrain t f).cue = s.cue := rfl
@[simp] theorem State.modTrain_trig (t : Fin 8) (f : Train → Train) : (s.modTrain t f).trig = s.trig := rfl
@[simp] theorem State.modTrain_supply (t : Fin 8) (f : Train → Train) : (s.modTrain t f).supply = s.supply := rfl
@[simp] theorem State.modTrain_link (t : Fin 8) (f : Train → Train) : (s.modTrain t f).link = s.link := rfl
@[simp] theorem State.modTrain_pins (t : Fin 8) (f : Train → Train) : (s.modTrain t f).pins = s.pins := rfl
@[simp] theorem State.modTrain_outs (t : Fin 8) (f : Train → Train) : (s.modTrain t f).outs = s.outs := rfl
@[simp] theorem State.modTrain_sched (t : Fin 8) (f : Train → Train) : (s.modTrain t f).sched = s.sched := rfl
@[simp] theorem State.modTrain_work (t : Fin 8) (f : Train → Train) : (s.modTrain t f).work = s.work := rfl
@[simp] theorem State.modTrain_pending (t : Fin 8) (f : Train → Train) : (s.modTrain t f).pending = s.pending := rfl

/-! ## State.modAxis -/

@[simp] theorem State.modAxis_clock (a : Fin 8) (f : Axis → Axis) : (s.modAxis a f).clock = s.clock := rfl
@[simp] theorem State.modAxis_light (a : Fin 8) (f : Axis → Axis) : (s.modAxis a f).light = s.light := rfl
@[simp] theorem State.modAxis_track (a : Fin 8) (f : Axis → Axis) : (s.modAxis a f).track = s.track := rfl
@[simp] theorem State.modAxis_trains (a : Fin 8) (f : Axis → Axis) : (s.modAxis a f).trains = s.trains := rfl
@[simp] theorem State.modAxis_axes (a : Fin 8) (f : Axis → Axis) : (s.modAxis a f).axes = s.axes.modify a f := rfl
@[simp] theorem State.modAxis_cue (a : Fin 8) (f : Axis → Axis) : (s.modAxis a f).cue = s.cue := rfl
@[simp] theorem State.modAxis_trig (a : Fin 8) (f : Axis → Axis) : (s.modAxis a f).trig = s.trig := rfl
@[simp] theorem State.modAxis_supply (a : Fin 8) (f : Axis → Axis) : (s.modAxis a f).supply = s.supply := rfl
@[simp] theorem State.modAxis_link (a : Fin 8) (f : Axis → Axis) : (s.modAxis a f).link = s.link := rfl
@[simp] theorem State.modAxis_pins (a : Fin 8) (f : Axis → Axis) : (s.modAxis a f).pins = s.pins := rfl
@[simp] theorem State.modAxis_outs (a : Fin 8) (f : Axis → Axis) : (s.modAxis a f).outs = s.outs := rfl
@[simp] theorem State.modAxis_sched (a : Fin 8) (f : Axis → Axis) : (s.modAxis a f).sched = s.sched := rfl
@[simp] theorem State.modAxis_work (a : Fin 8) (f : Axis → Axis) : (s.modAxis a f).work = s.work := rfl
@[simp] theorem State.modAxis_pending (a : Fin 8) (f : Axis → Axis) : (s.modAxis a f).pending = s.pending := rfl

/-! ## State.modTrains -/

@[simp] theorem State.modTrains_clock (f : Train → Train) : (s.modTrains f).clock = s.clock := rfl
@[simp] theorem State.modTrains_light (f : Train → Train) : (s.modTrains f).light = s.light := rfl
@[simp] theorem State.modTrains_track (f : Train → Train) : (s.modTrains f).track = s.track := rfl
@[simp] theorem State.modTrains_trains (f : Train → Train) : (s.modTrains f).trains = s.trains.map f := rfl
@[simp] theorem State.modTrains_axes (f : Train → Train) : (s.modTrains f).axes = s.axes := rfl
@[simp] theorem State.modTrains_cue (f : Train → Train) : (s.modTrains f).cue = s.cue := rfl
@[simp] theorem State.modTrains_trig (f : Train → Train) : (s.modTrains f).trig = s.trig := rfl
@[simp] theorem State.modTrains_supply (f : Train → Train) : (s.modTrains f).supply = s.supply := rfl
@[simp] theorem State.modTrains_link (f : Train → Train) : (s.modTrains f).link = s.link := rfl
@[simp] theorem State.modTrains_pins (f : Train → Train) : (s.modTrains f).pins = s.pins := rfl
@[simp] theorem State.modTrains_outs (f : Train → Train) : (s.modTrains f).outs = s.outs := rfl
@[simp] theorem State.modTrains_sched (f : Train → Train) : (s.modTrains f).sched = s.sched := rfl
@[simp] theorem State.modTrains_work (f : Train → Train) : (s.modTrains f).work = s.work := rfl
@[simp] theorem State.modTrains_pending (f : Train → Train) : (s.modTrains f).pending = s.pending := rfl

/-! ## State.modAxes -/

@[simp] theorem State.modAxes_clock (f : Axis → Axis) : (s.modAxes f).clock = s.clock := rfl
@[simp] theorem State.modAxes_light (f : Axis → Axis) : (s.modAxes f).light = s.light := rfl
@[simp] theorem State.modAxes_track (f : Axis → Axis) : (s.modAxes f).track = s.track := rfl
@[simp] theorem State.modAxes_trains (f : Axis → Axis) : (s.modAxes f).trains = s.trains := rfl
@[simp] theorem State.modAxes_axes (f : Axis → Axis) : (s.modAxes f).axes = s.axes.map f := rfl
@[simp] theorem State.modAxes_cue (f : Axis → Axis) : (s.modAxes f).cue = s.cue := rfl
@[simp] theorem State.modAxes_trig (f : Axis → Axis) : (s.modAxes f).trig = s.trig := rfl
@[simp] theorem State.modAxes_supply (f : Axis → Axis) : (s.modAxes f).supply = s.supply := rfl
@[simp] theorem State.modAxes_link (f : Axis → Axis) : (s.modAxes f).link = s.link := rfl
@[simp] theorem State.modAxes_pins (f : Axis → Axis) : (s.modAxes f).pins = s.pins := rfl
@[simp] theorem State.modAxes_outs (f : Axis → Axis) : (s.modAxes f).outs = s.outs := rfl
@[simp] theorem State.modAxes_sched (f : Axis → Axis) : (s.modAxes f).sched = s.sched := rfl
@[simp] theorem State.modAxes_work (f : Axis → Axis) : (s.modAxes f).work = s.work := rfl
@[simp] theorem State.modAxes_pending (f : Axis → Axis) : (s.modAxes f).pending = s.pending := rfl

/-! ## State.modCue -/

@[simp] theorem State.modCue_clock (f : Cue → Cue) : (s.modCue f).clock = s.clock := rfl
@[simp] theorem State.modCue_light (f : Cue → Cue) : (s.modCue f).light = s.light := rfl
@[simp] theorem State.modCue_track (f : Cue → Cue) : (s.modCue f).track = s.track := rfl
@[simp] theorem State.modCue_trains (f : Cue → Cue) : (s.modCue f).trains = s.trains := rfl
@[simp] theorem State.modCue_axes (f : Cue → Cue) : (s.modCue f).axes = s.axes := rfl
@[simp] theorem State.modCue_cue (f : Cue → Cue) : (s.modCue f).cue = f s.cue := rfl
@[simp] theorem State.modCue_trig (f : Cue → Cue) : (s.modCue f).trig = s.trig := rfl
@[simp] theorem State.modCue_supply (f : Cue → Cue) : (s.modCue f).supply = s.supply := rfl
@[simp] theorem State.modCue_link (f : Cue → Cue) : (s.modCue f).link = s.link := rfl
@[simp] theorem State.modCue_pins (f : Cue → Cue) : (s.modCue f).pins = s.pins := rfl
@[simp] theorem State.modCue_outs (f : Cue → Cue) : (s.modCue f).outs = s.outs := rfl
@[simp] theorem State.modCue_sched (f : Cue → Cue) : (s.modCue f).sched = s.sched := rfl
@[simp] theorem State.modCue_work (f : Cue → Cue) : (s.modCue f).work = s.work := rfl
@[simp] theorem State.modCue_pending (f : Cue → Cue) : (s.modCue f).pending = s.pending := rfl

/-! ## State.modPlayer -/

@[simp] theorem State.modPlayer_clock (p : Fin 8) (f : Player → Player) : (s.modPlayer p f).clock = s.clock := rfl
@[simp] theorem State.modPlayer_light (p : Fin 8) (f : Player → Player) : (s.modPlayer p f).light = s.light := rfl
@[simp] theorem State.modPlayer_track (p : Fin 8) (f : Player → Player) : (s.modPlayer p f).track = s.track := rfl
@[simp] theorem State.modPlayer_trains (p : Fin 8) (f : Player → Player) : (s.modPlayer p f).trains = s.trains := rfl
@[simp] theorem State.modPlayer_axes (p : Fin 8) (f : Player → Player) : (s.modPlayer p f).axes = s.axes := rfl
@[simp] theorem State.modPlayer_cue (p : Fin 8) (f : Player → Player) : (s.modPlayer p f).cue = { s.cue with players := s.cue.players.modify p f } := rfl
@[simp] theorem State.modPlayer_trig (p : Fin 8) (f : Player → Player) : (s.modPlayer p f).trig = s.trig := rfl
@[simp] theorem State.modPlayer_supply (p : Fin 8) (f : Player → Player) : (s.modPlayer p f).supply = s.supply := rfl
@[simp] theorem State.modPlayer_link (p : Fin 8) (f : Player → Player) : (s.modPlayer p f).link = s.link := rfl
@[simp] theorem State.modPlayer_pins (p : Fin 8) (f : Player → Player) : (s.modPlayer p f).pins = s.pins := rfl
@[simp] theorem State.modPlayer_outs (p : Fin 8) (f : Player → Player) : (s.modPlayer p f).outs = s.outs := rfl
@[simp] theorem State.modPlayer_sched (p : Fin 8) (f : Player → Player) : (s.modPlayer p f).sched = s.sched := rfl
@[simp] theorem State.modPlayer_work (p : Fin 8) (f : Player → Player) : (s.modPlayer p f).work = s.work := rfl
@[simp] theorem State.modPlayer_pending (p : Fin 8) (f : Player → Player) : (s.modPlayer p f).pending = s.pending := rfl

/-! ## State.modList -/

@[simp] theorem State.modList_clock (l : Fin 64) (f : CueList → CueList) : (s.modList l f).clock = s.clock := rfl
@[simp] theorem State.modList_light (l : Fin 64) (f : CueList → CueList) : (s.modList l f).light = s.light := rfl
@[simp] theorem State.modList_track (l : Fin 64) (f : CueList → CueList) : (s.modList l f).track = s.track := rfl
@[simp] theorem State.modList_trains (l : Fin 64) (f : CueList → CueList) : (s.modList l f).trains = s.trains := rfl
@[simp] theorem State.modList_axes (l : Fin 64) (f : CueList → CueList) : (s.modList l f).axes = s.axes := rfl
@[simp] theorem State.modList_cue (l : Fin 64) (f : CueList → CueList) : (s.modList l f).cue = { s.cue with lists := s.cue.lists.modify l f } := rfl
@[simp] theorem State.modList_trig (l : Fin 64) (f : CueList → CueList) : (s.modList l f).trig = s.trig := rfl
@[simp] theorem State.modList_supply (l : Fin 64) (f : CueList → CueList) : (s.modList l f).supply = s.supply := rfl
@[simp] theorem State.modList_link (l : Fin 64) (f : CueList → CueList) : (s.modList l f).link = s.link := rfl
@[simp] theorem State.modList_pins (l : Fin 64) (f : CueList → CueList) : (s.modList l f).pins = s.pins := rfl
@[simp] theorem State.modList_outs (l : Fin 64) (f : CueList → CueList) : (s.modList l f).outs = s.outs := rfl
@[simp] theorem State.modList_sched (l : Fin 64) (f : CueList → CueList) : (s.modList l f).sched = s.sched := rfl
@[simp] theorem State.modList_work (l : Fin 64) (f : CueList → CueList) : (s.modList l f).work = s.work := rfl
@[simp] theorem State.modList_pending (l : Fin 64) (f : CueList → CueList) : (s.modList l f).pending = s.pending := rfl

/-! ## State.setHolder -/

@[simp] theorem State.setHolder_clock (x : Fin 57) (p : Option (Fin 8)) : (s.setHolder x p).clock = s.clock := rfl
@[simp] theorem State.setHolder_light (x : Fin 57) (p : Option (Fin 8)) : (s.setHolder x p).light = s.light := rfl
@[simp] theorem State.setHolder_track (x : Fin 57) (p : Option (Fin 8)) : (s.setHolder x p).track = s.track := rfl
@[simp] theorem State.setHolder_trains (x : Fin 57) (p : Option (Fin 8)) : (s.setHolder x p).trains = s.trains := rfl
@[simp] theorem State.setHolder_axes (x : Fin 57) (p : Option (Fin 8)) : (s.setHolder x p).axes = s.axes := rfl
@[simp] theorem State.setHolder_cue (x : Fin 57) (p : Option (Fin 8)) : (s.setHolder x p).cue = { s.cue with holders := s.cue.holders.set x p } := rfl
@[simp] theorem State.setHolder_trig (x : Fin 57) (p : Option (Fin 8)) : (s.setHolder x p).trig = s.trig := rfl
@[simp] theorem State.setHolder_supply (x : Fin 57) (p : Option (Fin 8)) : (s.setHolder x p).supply = s.supply := rfl
@[simp] theorem State.setHolder_link (x : Fin 57) (p : Option (Fin 8)) : (s.setHolder x p).link = s.link := rfl
@[simp] theorem State.setHolder_pins (x : Fin 57) (p : Option (Fin 8)) : (s.setHolder x p).pins = s.pins := rfl
@[simp] theorem State.setHolder_outs (x : Fin 57) (p : Option (Fin 8)) : (s.setHolder x p).outs = s.outs := rfl
@[simp] theorem State.setHolder_sched (x : Fin 57) (p : Option (Fin 8)) : (s.setHolder x p).sched = s.sched := rfl
@[simp] theorem State.setHolder_work (x : Fin 57) (p : Option (Fin 8)) : (s.setHolder x p).work = s.work := rfl
@[simp] theorem State.setHolder_pending (x : Fin 57) (p : Option (Fin 8)) : (s.setHolder x p).pending = s.pending := rfl

/-! ## State.modTrig -/

@[simp] theorem State.modTrig_clock (f : Trig → Trig) : (s.modTrig f).clock = s.clock := rfl
@[simp] theorem State.modTrig_light (f : Trig → Trig) : (s.modTrig f).light = s.light := rfl
@[simp] theorem State.modTrig_track (f : Trig → Trig) : (s.modTrig f).track = s.track := rfl
@[simp] theorem State.modTrig_trains (f : Trig → Trig) : (s.modTrig f).trains = s.trains := rfl
@[simp] theorem State.modTrig_axes (f : Trig → Trig) : (s.modTrig f).axes = s.axes := rfl
@[simp] theorem State.modTrig_cue (f : Trig → Trig) : (s.modTrig f).cue = s.cue := rfl
@[simp] theorem State.modTrig_trig (f : Trig → Trig) : (s.modTrig f).trig = f s.trig := rfl
@[simp] theorem State.modTrig_supply (f : Trig → Trig) : (s.modTrig f).supply = s.supply := rfl
@[simp] theorem State.modTrig_link (f : Trig → Trig) : (s.modTrig f).link = s.link := rfl
@[simp] theorem State.modTrig_pins (f : Trig → Trig) : (s.modTrig f).pins = s.pins := rfl
@[simp] theorem State.modTrig_outs (f : Trig → Trig) : (s.modTrig f).outs = s.outs := rfl
@[simp] theorem State.modTrig_sched (f : Trig → Trig) : (s.modTrig f).sched = s.sched := rfl
@[simp] theorem State.modTrig_work (f : Trig → Trig) : (s.modTrig f).work = s.work := rfl
@[simp] theorem State.modTrig_pending (f : Trig → Trig) : (s.modTrig f).pending = s.pending := rfl

/-! ## State.modInput -/

@[simp] theorem State.modInput_clock (i : Fin 8) (f : Conditioner → Conditioner) : (s.modInput i f).clock = s.clock := rfl
@[simp] theorem State.modInput_light (i : Fin 8) (f : Conditioner → Conditioner) : (s.modInput i f).light = s.light := rfl
@[simp] theorem State.modInput_track (i : Fin 8) (f : Conditioner → Conditioner) : (s.modInput i f).track = s.track := rfl
@[simp] theorem State.modInput_trains (i : Fin 8) (f : Conditioner → Conditioner) : (s.modInput i f).trains = s.trains := rfl
@[simp] theorem State.modInput_axes (i : Fin 8) (f : Conditioner → Conditioner) : (s.modInput i f).axes = s.axes := rfl
@[simp] theorem State.modInput_cue (i : Fin 8) (f : Conditioner → Conditioner) : (s.modInput i f).cue = s.cue := rfl
@[simp] theorem State.modInput_trig (i : Fin 8) (f : Conditioner → Conditioner) : (s.modInput i f).trig = { s.trig with inputs := s.trig.inputs.modify i f } := rfl
@[simp] theorem State.modInput_supply (i : Fin 8) (f : Conditioner → Conditioner) : (s.modInput i f).supply = s.supply := rfl
@[simp] theorem State.modInput_link (i : Fin 8) (f : Conditioner → Conditioner) : (s.modInput i f).link = s.link := rfl
@[simp] theorem State.modInput_pins (i : Fin 8) (f : Conditioner → Conditioner) : (s.modInput i f).pins = s.pins := rfl
@[simp] theorem State.modInput_outs (i : Fin 8) (f : Conditioner → Conditioner) : (s.modInput i f).outs = s.outs := rfl
@[simp] theorem State.modInput_sched (i : Fin 8) (f : Conditioner → Conditioner) : (s.modInput i f).sched = s.sched := rfl
@[simp] theorem State.modInput_work (i : Fin 8) (f : Conditioner → Conditioner) : (s.modInput i f).work = s.work := rfl
@[simp] theorem State.modInput_pending (i : Fin 8) (f : Conditioner → Conditioner) : (s.modInput i f).pending = s.pending := rfl

/-! ## State.modCounter -/

@[simp] theorem State.modCounter_clock (i : Fin 8) (f : Counter → Counter) : (s.modCounter i f).clock = s.clock := rfl
@[simp] theorem State.modCounter_light (i : Fin 8) (f : Counter → Counter) : (s.modCounter i f).light = s.light := rfl
@[simp] theorem State.modCounter_track (i : Fin 8) (f : Counter → Counter) : (s.modCounter i f).track = s.track := rfl
@[simp] theorem State.modCounter_trains (i : Fin 8) (f : Counter → Counter) : (s.modCounter i f).trains = s.trains := rfl
@[simp] theorem State.modCounter_axes (i : Fin 8) (f : Counter → Counter) : (s.modCounter i f).axes = s.axes := rfl
@[simp] theorem State.modCounter_cue (i : Fin 8) (f : Counter → Counter) : (s.modCounter i f).cue = s.cue := rfl
@[simp] theorem State.modCounter_trig (i : Fin 8) (f : Counter → Counter) : (s.modCounter i f).trig = { s.trig with counters := s.trig.counters.modify i f } := rfl
@[simp] theorem State.modCounter_supply (i : Fin 8) (f : Counter → Counter) : (s.modCounter i f).supply = s.supply := rfl
@[simp] theorem State.modCounter_link (i : Fin 8) (f : Counter → Counter) : (s.modCounter i f).link = s.link := rfl
@[simp] theorem State.modCounter_pins (i : Fin 8) (f : Counter → Counter) : (s.modCounter i f).pins = s.pins := rfl
@[simp] theorem State.modCounter_outs (i : Fin 8) (f : Counter → Counter) : (s.modCounter i f).outs = s.outs := rfl
@[simp] theorem State.modCounter_sched (i : Fin 8) (f : Counter → Counter) : (s.modCounter i f).sched = s.sched := rfl
@[simp] theorem State.modCounter_work (i : Fin 8) (f : Counter → Counter) : (s.modCounter i f).work = s.work := rfl
@[simp] theorem State.modCounter_pending (i : Fin 8) (f : Counter → Counter) : (s.modCounter i f).pending = s.pending := rfl

/-! ## State.modTrigger -/

@[simp] theorem State.modTrigger_clock (i : Fin 32) (f : Trigger → Trigger) : (s.modTrigger i f).clock = s.clock := rfl
@[simp] theorem State.modTrigger_light (i : Fin 32) (f : Trigger → Trigger) : (s.modTrigger i f).light = s.light := rfl
@[simp] theorem State.modTrigger_track (i : Fin 32) (f : Trigger → Trigger) : (s.modTrigger i f).track = s.track := rfl
@[simp] theorem State.modTrigger_trains (i : Fin 32) (f : Trigger → Trigger) : (s.modTrigger i f).trains = s.trains := rfl
@[simp] theorem State.modTrigger_axes (i : Fin 32) (f : Trigger → Trigger) : (s.modTrigger i f).axes = s.axes := rfl
@[simp] theorem State.modTrigger_cue (i : Fin 32) (f : Trigger → Trigger) : (s.modTrigger i f).cue = s.cue := rfl
@[simp] theorem State.modTrigger_trig (i : Fin 32) (f : Trigger → Trigger) : (s.modTrigger i f).trig = { s.trig with triggers := s.trig.triggers.modify i f } := rfl
@[simp] theorem State.modTrigger_supply (i : Fin 32) (f : Trigger → Trigger) : (s.modTrigger i f).supply = s.supply := rfl
@[simp] theorem State.modTrigger_link (i : Fin 32) (f : Trigger → Trigger) : (s.modTrigger i f).link = s.link := rfl
@[simp] theorem State.modTrigger_pins (i : Fin 32) (f : Trigger → Trigger) : (s.modTrigger i f).pins = s.pins := rfl
@[simp] theorem State.modTrigger_outs (i : Fin 32) (f : Trigger → Trigger) : (s.modTrigger i f).outs = s.outs := rfl
@[simp] theorem State.modTrigger_sched (i : Fin 32) (f : Trigger → Trigger) : (s.modTrigger i f).sched = s.sched := rfl
@[simp] theorem State.modTrigger_work (i : Fin 32) (f : Trigger → Trigger) : (s.modTrigger i f).work = s.work := rfl
@[simp] theorem State.modTrigger_pending (i : Fin 32) (f : Trigger → Trigger) : (s.modTrigger i f).pending = s.pending := rfl

/-! ## State.modSupply -/

@[simp] theorem State.modSupply_clock (f : Supply → Supply) : (s.modSupply f).clock = s.clock := rfl
@[simp] theorem State.modSupply_light (f : Supply → Supply) : (s.modSupply f).light = s.light := rfl
@[simp] theorem State.modSupply_track (f : Supply → Supply) : (s.modSupply f).track = s.track := rfl
@[simp] theorem State.modSupply_trains (f : Supply → Supply) : (s.modSupply f).trains = s.trains := rfl
@[simp] theorem State.modSupply_axes (f : Supply → Supply) : (s.modSupply f).axes = s.axes := rfl
@[simp] theorem State.modSupply_cue (f : Supply → Supply) : (s.modSupply f).cue = s.cue := rfl
@[simp] theorem State.modSupply_trig (f : Supply → Supply) : (s.modSupply f).trig = s.trig := rfl
@[simp] theorem State.modSupply_supply (f : Supply → Supply) : (s.modSupply f).supply = f s.supply := rfl
@[simp] theorem State.modSupply_link (f : Supply → Supply) : (s.modSupply f).link = s.link := rfl
@[simp] theorem State.modSupply_pins (f : Supply → Supply) : (s.modSupply f).pins = s.pins := rfl
@[simp] theorem State.modSupply_outs (f : Supply → Supply) : (s.modSupply f).outs = s.outs := rfl
@[simp] theorem State.modSupply_sched (f : Supply → Supply) : (s.modSupply f).sched = s.sched := rfl
@[simp] theorem State.modSupply_work (f : Supply → Supply) : (s.modSupply f).work = s.work := rfl
@[simp] theorem State.modSupply_pending (f : Supply → Supply) : (s.modSupply f).pending = s.pending := rfl

/-! ## State.modLink -/

@[simp] theorem State.modLink_clock (f : ShowLink → ShowLink) : (s.modLink f).clock = s.clock := rfl
@[simp] theorem State.modLink_light (f : ShowLink → ShowLink) : (s.modLink f).light = s.light := rfl
@[simp] theorem State.modLink_track (f : ShowLink → ShowLink) : (s.modLink f).track = s.track := rfl
@[simp] theorem State.modLink_trains (f : ShowLink → ShowLink) : (s.modLink f).trains = s.trains := rfl
@[simp] theorem State.modLink_axes (f : ShowLink → ShowLink) : (s.modLink f).axes = s.axes := rfl
@[simp] theorem State.modLink_cue (f : ShowLink → ShowLink) : (s.modLink f).cue = s.cue := rfl
@[simp] theorem State.modLink_trig (f : ShowLink → ShowLink) : (s.modLink f).trig = s.trig := rfl
@[simp] theorem State.modLink_supply (f : ShowLink → ShowLink) : (s.modLink f).supply = s.supply := rfl
@[simp] theorem State.modLink_link (f : ShowLink → ShowLink) : (s.modLink f).link = f s.link := rfl
@[simp] theorem State.modLink_pins (f : ShowLink → ShowLink) : (s.modLink f).pins = s.pins := rfl
@[simp] theorem State.modLink_outs (f : ShowLink → ShowLink) : (s.modLink f).outs = s.outs := rfl
@[simp] theorem State.modLink_sched (f : ShowLink → ShowLink) : (s.modLink f).sched = s.sched := rfl
@[simp] theorem State.modLink_work (f : ShowLink → ShowLink) : (s.modLink f).work = s.work := rfl
@[simp] theorem State.modLink_pending (f : ShowLink → ShowLink) : (s.modLink f).pending = s.pending := rfl

/-! ## State.modPins -/

@[simp] theorem State.modPins_clock (f : Pins → Pins) : (s.modPins f).clock = s.clock := rfl
@[simp] theorem State.modPins_light (f : Pins → Pins) : (s.modPins f).light = s.light := rfl
@[simp] theorem State.modPins_track (f : Pins → Pins) : (s.modPins f).track = s.track := rfl
@[simp] theorem State.modPins_trains (f : Pins → Pins) : (s.modPins f).trains = s.trains := rfl
@[simp] theorem State.modPins_axes (f : Pins → Pins) : (s.modPins f).axes = s.axes := rfl
@[simp] theorem State.modPins_cue (f : Pins → Pins) : (s.modPins f).cue = s.cue := rfl
@[simp] theorem State.modPins_trig (f : Pins → Pins) : (s.modPins f).trig = s.trig := rfl
@[simp] theorem State.modPins_supply (f : Pins → Pins) : (s.modPins f).supply = s.supply := rfl
@[simp] theorem State.modPins_link (f : Pins → Pins) : (s.modPins f).link = s.link := rfl
@[simp] theorem State.modPins_pins (f : Pins → Pins) : (s.modPins f).pins = f s.pins := rfl
@[simp] theorem State.modPins_outs (f : Pins → Pins) : (s.modPins f).outs = s.outs := rfl
@[simp] theorem State.modPins_sched (f : Pins → Pins) : (s.modPins f).sched = s.sched := rfl
@[simp] theorem State.modPins_work (f : Pins → Pins) : (s.modPins f).work = s.work := rfl
@[simp] theorem State.modPins_pending (f : Pins → Pins) : (s.modPins f).pending = s.pending := rfl

/-! ## State.modSched -/

@[simp] theorem State.modSched_clock (f : Sched → Sched) : (s.modSched f).clock = s.clock := rfl
@[simp] theorem State.modSched_light (f : Sched → Sched) : (s.modSched f).light = s.light := rfl
@[simp] theorem State.modSched_track (f : Sched → Sched) : (s.modSched f).track = s.track := rfl
@[simp] theorem State.modSched_trains (f : Sched → Sched) : (s.modSched f).trains = s.trains := rfl
@[simp] theorem State.modSched_axes (f : Sched → Sched) : (s.modSched f).axes = s.axes := rfl
@[simp] theorem State.modSched_cue (f : Sched → Sched) : (s.modSched f).cue = s.cue := rfl
@[simp] theorem State.modSched_trig (f : Sched → Sched) : (s.modSched f).trig = s.trig := rfl
@[simp] theorem State.modSched_supply (f : Sched → Sched) : (s.modSched f).supply = s.supply := rfl
@[simp] theorem State.modSched_link (f : Sched → Sched) : (s.modSched f).link = s.link := rfl
@[simp] theorem State.modSched_pins (f : Sched → Sched) : (s.modSched f).pins = s.pins := rfl
@[simp] theorem State.modSched_outs (f : Sched → Sched) : (s.modSched f).outs = s.outs := rfl
@[simp] theorem State.modSched_sched (f : Sched → Sched) : (s.modSched f).sched = f s.sched := rfl
@[simp] theorem State.modSched_work (f : Sched → Sched) : (s.modSched f).work = s.work := rfl
@[simp] theorem State.modSched_pending (f : Sched → Sched) : (s.modSched f).pending = s.pending := rfl

/-! ## State.modOuts -/

@[simp] theorem State.modOuts_clock (f : Outs → Outs) : (s.modOuts f).clock = s.clock := rfl
@[simp] theorem State.modOuts_light (f : Outs → Outs) : (s.modOuts f).light = s.light := rfl
@[simp] theorem State.modOuts_track (f : Outs → Outs) : (s.modOuts f).track = s.track := rfl
@[simp] theorem State.modOuts_trains (f : Outs → Outs) : (s.modOuts f).trains = s.trains := rfl
@[simp] theorem State.modOuts_axes (f : Outs → Outs) : (s.modOuts f).axes = s.axes := rfl
@[simp] theorem State.modOuts_cue (f : Outs → Outs) : (s.modOuts f).cue = s.cue := rfl
@[simp] theorem State.modOuts_trig (f : Outs → Outs) : (s.modOuts f).trig = s.trig := rfl
@[simp] theorem State.modOuts_supply (f : Outs → Outs) : (s.modOuts f).supply = s.supply := rfl
@[simp] theorem State.modOuts_link (f : Outs → Outs) : (s.modOuts f).link = s.link := rfl
@[simp] theorem State.modOuts_pins (f : Outs → Outs) : (s.modOuts f).pins = s.pins := rfl
@[simp] theorem State.modOuts_outs (f : Outs → Outs) : (s.modOuts f).outs = f s.outs := rfl
@[simp] theorem State.modOuts_sched (f : Outs → Outs) : (s.modOuts f).sched = s.sched := rfl
@[simp] theorem State.modOuts_work (f : Outs → Outs) : (s.modOuts f).work = s.work := rfl
@[simp] theorem State.modOuts_pending (f : Outs → Outs) : (s.modOuts f).pending = s.pending := rfl

/-! ## State.modWork -/

@[simp] theorem State.modWork_clock (f : Work → Work) : (s.modWork f).clock = s.clock := rfl
@[simp] theorem State.modWork_light (f : Work → Work) : (s.modWork f).light = s.light := rfl
@[simp] theorem State.modWork_track (f : Work → Work) : (s.modWork f).track = s.track := rfl
@[simp] theorem State.modWork_trains (f : Work → Work) : (s.modWork f).trains = s.trains := rfl
@[simp] theorem State.modWork_axes (f : Work → Work) : (s.modWork f).axes = s.axes := rfl
@[simp] theorem State.modWork_cue (f : Work → Work) : (s.modWork f).cue = s.cue := rfl
@[simp] theorem State.modWork_trig (f : Work → Work) : (s.modWork f).trig = s.trig := rfl
@[simp] theorem State.modWork_supply (f : Work → Work) : (s.modWork f).supply = s.supply := rfl
@[simp] theorem State.modWork_link (f : Work → Work) : (s.modWork f).link = s.link := rfl
@[simp] theorem State.modWork_pins (f : Work → Work) : (s.modWork f).pins = s.pins := rfl
@[simp] theorem State.modWork_outs (f : Work → Work) : (s.modWork f).outs = s.outs := rfl
@[simp] theorem State.modWork_sched (f : Work → Work) : (s.modWork f).sched = s.sched := rfl
@[simp] theorem State.modWork_work (f : Work → Work) : (s.modWork f).work = f s.work := rfl
@[simp] theorem State.modWork_pending (f : Work → Work) : (s.modWork f).pending = s.pending := rfl

/-! ## State.offerBlocks -/

@[simp] theorem State.offerBlocks_clock (e : Event) : (s.offerBlocks e).clock = s.clock := rfl
@[simp] theorem State.offerBlocks_light (e : Event) : (s.offerBlocks e).light = s.light := rfl
@[simp] theorem State.offerBlocks_track (e : Event) : (s.offerBlocks e).track = s.track := rfl
@[simp] theorem State.offerBlocks_trains (e : Event) : (s.offerBlocks e).trains = s.trains := rfl
@[simp] theorem State.offerBlocks_axes (e : Event) : (s.offerBlocks e).axes = s.axes := rfl
@[simp] theorem State.offerBlocks_cue (e : Event) : (s.offerBlocks e).cue = { s.cue with players := s.cue.players.map (markSeen e) } := rfl
@[simp] theorem State.offerBlocks_trig (e : Event) : (s.offerBlocks e).trig = s.trig := rfl
@[simp] theorem State.offerBlocks_supply (e : Event) : (s.offerBlocks e).supply = s.supply := rfl
@[simp] theorem State.offerBlocks_link (e : Event) : (s.offerBlocks e).link = s.link := rfl
@[simp] theorem State.offerBlocks_pins (e : Event) : (s.offerBlocks e).pins = s.pins := rfl
@[simp] theorem State.offerBlocks_outs (e : Event) : (s.offerBlocks e).outs = s.outs := rfl
@[simp] theorem State.offerBlocks_sched (e : Event) : (s.offerBlocks e).sched = s.sched := rfl
@[simp] theorem State.offerBlocks_work (e : Event) : (s.offerBlocks e).work = s.work.addEvent e := rfl
@[simp] theorem State.offerBlocks_pending (e : Event) : (s.offerBlocks e).pending = s.pending := rfl

/-! ## State.handEnding -/

@[simp] theorem State.handEnding_clock (x : Ending) : (s.handEnding x).clock = s.clock := rfl
@[simp] theorem State.handEnding_light (x : Ending) : (s.handEnding x).light = s.light := rfl
@[simp] theorem State.handEnding_track (x : Ending) : (s.handEnding x).track = s.track := rfl
@[simp] theorem State.handEnding_trains (x : Ending) : (s.handEnding x).trains = s.trains := rfl
@[simp] theorem State.handEnding_axes (x : Ending) : (s.handEnding x).axes = s.axes := rfl
@[simp] theorem State.handEnding_cue (x : Ending) : (s.handEnding x).cue = s.cue := rfl
@[simp] theorem State.handEnding_trig (x : Ending) : (s.handEnding x).trig = s.trig := rfl
@[simp] theorem State.handEnding_supply (x : Ending) : (s.handEnding x).supply = s.supply := rfl
@[simp] theorem State.handEnding_link (x : Ending) : (s.handEnding x).link = s.link := rfl
@[simp] theorem State.handEnding_pins (x : Ending) : (s.handEnding x).pins = s.pins := rfl
@[simp] theorem State.handEnding_outs (x : Ending) : (s.handEnding x).outs = s.outs := rfl
@[simp] theorem State.handEnding_sched (x : Ending) : (s.handEnding x).sched = s.sched := rfl
@[simp] theorem State.handEnding_work (x : Ending) : (s.handEnding x).work = s.work.addEnding x := rfl
@[simp] theorem State.handEnding_pending (x : Ending) : (s.handEnding x).pending = s.pending := rfl

/-! ## State.later -/

@[simp] theorem State.later_clock (t : Task) : (s.later t).clock = s.clock := rfl
@[simp] theorem State.later_light (t : Task) : (s.later t).light = s.light := rfl
@[simp] theorem State.later_track (t : Task) : (s.later t).track = s.track := rfl
@[simp] theorem State.later_trains (t : Task) : (s.later t).trains = s.trains := rfl
@[simp] theorem State.later_axes (t : Task) : (s.later t).axes = s.axes := rfl
@[simp] theorem State.later_cue (t : Task) : (s.later t).cue = s.cue := rfl
@[simp] theorem State.later_trig (t : Task) : (s.later t).trig = s.trig := rfl
@[simp] theorem State.later_supply (t : Task) : (s.later t).supply = s.supply := rfl
@[simp] theorem State.later_link (t : Task) : (s.later t).link = s.link := rfl
@[simp] theorem State.later_pins (t : Task) : (s.later t).pins = s.pins := rfl
@[simp] theorem State.later_outs (t : Task) : (s.later t).outs = s.outs := rfl
@[simp] theorem State.later_sched (t : Task) : (s.later t).sched = s.sched := rfl
@[simp] theorem State.later_work (t : Task) : (s.later t).work = { s.work with stack := s.work.stack ++ [t] } := rfl
@[simp] theorem State.later_pending (t : Task) : (s.later t).pending = s.pending := rfl

/-! ## State.laterRun -/

@[simp] theorem State.laterRun_clock (p : Fin 8) (stage : Stage) : (s.laterRun p stage).clock = s.clock := rfl
@[simp] theorem State.laterRun_light (p : Fin 8) (stage : Stage) : (s.laterRun p stage).light = s.light := rfl
@[simp] theorem State.laterRun_track (p : Fin 8) (stage : Stage) : (s.laterRun p stage).track = s.track := rfl
@[simp] theorem State.laterRun_trains (p : Fin 8) (stage : Stage) : (s.laterRun p stage).trains = s.trains := rfl
@[simp] theorem State.laterRun_axes (p : Fin 8) (stage : Stage) : (s.laterRun p stage).axes = s.axes := rfl
@[simp] theorem State.laterRun_cue (p : Fin 8) (stage : Stage) : (s.laterRun p stage).cue = s.cue := rfl
@[simp] theorem State.laterRun_trig (p : Fin 8) (stage : Stage) : (s.laterRun p stage).trig = s.trig := rfl
@[simp] theorem State.laterRun_supply (p : Fin 8) (stage : Stage) : (s.laterRun p stage).supply = s.supply := rfl
@[simp] theorem State.laterRun_link (p : Fin 8) (stage : Stage) : (s.laterRun p stage).link = s.link := rfl
@[simp] theorem State.laterRun_pins (p : Fin 8) (stage : Stage) : (s.laterRun p stage).pins = s.pins := rfl
@[simp] theorem State.laterRun_outs (p : Fin 8) (stage : Stage) : (s.laterRun p stage).outs = s.outs := rfl
@[simp] theorem State.laterRun_sched (p : Fin 8) (stage : Stage) : (s.laterRun p stage).sched = s.sched := rfl
@[simp] theorem State.laterRun_work (p : Fin 8) (stage : Stage) : (s.laterRun p stage).work = { s.work with runs := s.work.runs ++ [(p, stage)] } := rfl
@[simp] theorem State.laterRun_pending (p : Fin 8) (stage : Stage) : (s.laterRun p stage).pending = s.pending := rfl

/-! ## State.announce: what making the notice of an event changes (R168, R169) -/

@[simp] theorem State.announce_clock (e : Event) : (s.announce e).clock = s.clock := by
  unfold State.announce; split <;> (try split) <;> rfl

@[simp] theorem State.announce_light (e : Event) : (s.announce e).light = s.light := by
  unfold State.announce; split <;> (try split) <;> rfl

@[simp] theorem State.announce_track (e : Event) : (s.announce e).track = s.track := by
  unfold State.announce; split <;> (try split) <;> rfl

@[simp] theorem State.announce_trains (e : Event) : (s.announce e).trains = s.trains := by
  unfold State.announce; split <;> (try split) <;> rfl

@[simp] theorem State.announce_axes (e : Event) : (s.announce e).axes = s.axes := by
  unfold State.announce; split <;> (try split) <;> rfl

@[simp] theorem State.announce_trig (e : Event) : (s.announce e).trig = s.trig := by
  unfold State.announce; split <;> (try split) <;> rfl

@[simp] theorem State.announce_supply (e : Event) : (s.announce e).supply = s.supply := by
  unfold State.announce; split <;> (try split) <;> rfl

@[simp] theorem State.announce_pins (e : Event) : (s.announce e).pins = s.pins := by
  unfold State.announce; split <;> (try split) <;> rfl

@[simp] theorem State.announce_outs (e : Event) : (s.announce e).outs = s.outs := by
  unfold State.announce; split <;> (try split) <;> rfl

@[simp] theorem State.announce_sched (e : Event) : (s.announce e).sched = s.sched := by
  unfold State.announce; split <;> (try split) <;> rfl

@[simp] theorem State.announce_pending (e : Event) : (s.announce e).pending = s.pending := by
  unfold State.announce; split <;> (try split) <;> rfl

/-- The notice of an event changes of the Show Link only the notice queue and the lost count (R168, R169). -/
theorem State.announce_link (e : Event) : (s.announce e).link =
    if s.link.wants e then s.link.offer (s.noticeOf (.noticesLost s.link.lost)) (s.noticeOf e) else s.link := by
  unfold State.announce
  split
  · split <;> rfl
  · rfl

/-- What an offer leaves alone of the Show Link (R169). -/
theorem ShowLink.offer_rest (report n : Notice) (l : ShowLink) :
    (l.offer report n).rx = l.rx ∧ (l.offer report n).slots = l.slots ∧ (l.offer report n).replies = l.replies ∧
      (l.offer report n).mask = l.mask ∧ (l.offer report n).tx = l.tx ∧ (l.offer report n).resetWaiting = l.resetWaiting := by
  unfold ShowLink.offer
  split
  · split
    · exact ⟨rfl, rfl, rfl, rfl, rfl, rfl⟩
    · split <;> exact ⟨rfl, rfl, rfl, rfl, rfl, rfl⟩
  · exact ⟨rfl, rfl, rfl, rfl, rfl, rfl⟩

/-- What the notice of an event leaves alone of the Show Link (R168). -/
theorem State.announce_rest (e : Event) :
    (s.announce e).link.rx = s.link.rx ∧ (s.announce e).link.slots = s.link.slots ∧ (s.announce e).link.replies = s.link.replies ∧
      (s.announce e).link.mask = s.link.mask ∧ (s.announce e).link.tx = s.link.tx ∧
      (s.announce e).link.resetWaiting = s.link.resetWaiting := by
  rw [State.announce_link]
  split
  · exact ShowLink.offer_rest _ _ _
  · exact ⟨rfl, rfl, rfl, rfl, rfl, rfl⟩

/-- Whether the transmitter picks at once does not change with a notice. -/
@[simp] theorem State.announce_idles (e : Event) : (s.announce e).link.idles = s.link.idles := by
  obtain ⟨-, h2, h3, -, h5, -⟩ := State.announce_rest s e
  simp only [ShowLink.idles, h2, h3, h5]

/-! ## The pick (R167) -/

@[simp] theorem pick_clock : (pick s).clock = s.clock := by
  unfold pick reportLost; repeat' split
  all_goals rfl

@[simp] theorem pick_light : (pick s).light = s.light := by
  unfold pick reportLost; repeat' split
  all_goals rfl

@[simp] theorem pick_track : (pick s).track = s.track := by
  unfold pick reportLost; repeat' split
  all_goals rfl

@[simp] theorem pick_trains : (pick s).trains = s.trains := by
  unfold pick reportLost; repeat' split
  all_goals rfl

@[simp] theorem pick_axes : (pick s).axes = s.axes := by
  unfold pick reportLost; repeat' split
  all_goals rfl

@[simp] theorem pick_trig : (pick s).trig = s.trig := by
  unfold pick reportLost; repeat' split
  all_goals rfl

@[simp] theorem pick_supply : (pick s).supply = s.supply := by
  unfold pick reportLost; repeat' split
  all_goals rfl

@[simp] theorem pick_pins : (pick s).pins = s.pins := by
  unfold pick reportLost; repeat' split
  all_goals rfl

@[simp] theorem pick_outs : (pick s).outs = s.outs := by
  unfold pick reportLost; repeat' split
  all_goals rfl

@[simp] theorem pick_sched : (pick s).sched = s.sched := by
  unfold pick reportLost; repeat' split
  all_goals rfl

@[simp] theorem pick_pending : (pick s).pending = s.pending := by
  unfold pick reportLost; repeat' split
  all_goals rfl

/-- What a pick leaves alone of the Show Link, and the one reply it takes (R167). -/
theorem pick_rest : (pick s).link.rx = s.link.rx ∧ (pick s).link.slots = s.link.slots ∧ (pick s).link.replies = s.link.replies.tail ∧
    (pick s).link.mask = s.link.mask ∧ (pick s).link.resetWaiting = s.link.resetWaiting := by
  unfold pick
  split
  · next h => simp [h]
  · next h =>
    split
    · unfold reportLost; split <;> simp [h, State.offerBlocks]
    · simp [h]

/-! ## State.raise: what an event changes (R167, R168, R169) -/

/-- All an event can do: its notice is made, and an IDLE transmitter picks. -/
theorem State.raise_cases (e : Event) :
    s.link.idles = false ∧ s.raise e = s.announce e ∨ s.link.idles = true ∧ s.raise e = pick (s.announce e) := by
  unfold State.raise
  cases h : s.link.idles <;> simp [h]

@[simp] theorem State.raise_clock (e : Event) : (s.raise e).clock = s.clock := by
  rcases State.raise_cases s e with ⟨-, h⟩ | ⟨-, h⟩ <;> simp [h]

@[simp] theorem State.raise_light (e : Event) : (s.raise e).light = s.light := by
  rcases State.raise_cases s e with ⟨-, h⟩ | ⟨-, h⟩ <;> simp [h]

@[simp] theorem State.raise_track (e : Event) : (s.raise e).track = s.track := by
  rcases State.raise_cases s e with ⟨-, h⟩ | ⟨-, h⟩ <;> simp [h]

@[simp] theorem State.raise_trains (e : Event) : (s.raise e).trains = s.trains := by
  rcases State.raise_cases s e with ⟨-, h⟩ | ⟨-, h⟩ <;> simp [h]

@[simp] theorem State.raise_axes (e : Event) : (s.raise e).axes = s.axes := by
  rcases State.raise_cases s e with ⟨-, h⟩ | ⟨-, h⟩ <;> simp [h]

@[simp] theorem State.raise_trig (e : Event) : (s.raise e).trig = s.trig := by
  rcases State.raise_cases s e with ⟨-, h⟩ | ⟨-, h⟩ <;> simp [h]

@[simp] theorem State.raise_supply (e : Event) : (s.raise e).supply = s.supply := by
  rcases State.raise_cases s e with ⟨-, h⟩ | ⟨-, h⟩ <;> simp [h]

@[simp] theorem State.raise_pins (e : Event) : (s.raise e).pins = s.pins := by
  rcases State.raise_cases s e with ⟨-, h⟩ | ⟨-, h⟩ <;> simp [h]

@[simp] theorem State.raise_outs (e : Event) : (s.raise e).outs = s.outs := by
  rcases State.raise_cases s e with ⟨-, h⟩ | ⟨-, h⟩ <;> simp [h]

@[simp] theorem State.raise_sched (e : Event) : (s.raise e).sched = s.sched := by
  rcases State.raise_cases s e with ⟨-, h⟩ | ⟨-, h⟩ <;> simp [h]

@[simp] theorem State.raise_pending (e : Event) : (s.raise e).pending = s.pending := by
  rcases State.raise_cases s e with ⟨-, h⟩ | ⟨-, h⟩ <;> simp [h]

/-- What an event leaves alone of the Show Link (R167, R168). -/
theorem State.raise_rest (e : Event) :
    (s.raise e).link.rx = s.link.rx ∧ (s.raise e).link.slots = s.link.slots ∧ (s.raise e).link.replies = s.link.replies ∧
      (s.raise e).link.mask = s.link.mask ∧ (s.raise e).link.resetWaiting = s.link.resetWaiting := by
  obtain ⟨h1, h2, h3, h4, -, h6⟩ := State.announce_rest s e
  rcases State.raise_cases s e with ⟨-, h⟩ | ⟨hi, h⟩
  · rw [h]; exact ⟨h1, h2, h3, h4, h6⟩
  · obtain ⟨p1, p2, p3, p4, p5⟩ := pick_rest (s.announce e)
    have hr : s.link.replies = [] := by
      simp only [ShowLink.idles, Bool.and_eq_true, List.isEmpty_iff] at hi
      exact hi.1.2
    rw [h, p1, p2, p3, p4, p5, h1, h2, h3, h4, h6, hr]
    exact ⟨rfl, rfl, rfl, rfl, rfl⟩

@[simp] theorem State.raise_link_rx (e : Event) : (s.raise e).link.rx = s.link.rx := (State.raise_rest s e).1
@[simp] theorem State.raise_link_slots (e : Event) : (s.raise e).link.slots = s.link.slots := (State.raise_rest s e).2.1
@[simp] theorem State.raise_link_replies (e : Event) : (s.raise e).link.replies = s.link.replies := (State.raise_rest s e).2.2.1
@[simp] theorem State.raise_link_mask (e : Event) : (s.raise e).link.mask = s.link.mask := (State.raise_rest s e).2.2.2.1
@[simp] theorem State.raise_link_resetWaiting (e : Event) : (s.raise e).link.resetWaiting = s.link.resetWaiting :=
  (State.raise_rest s e).2.2.2.2

/-- While something is sent, a reply waits or a taken request is unanswered, an event does not move the transmitter (R166, R167). -/
theorem State.raise_link_tx (e : Event) (h : s.link.idles = false) : (s.raise e).link.tx = s.link.tx := by
  rcases State.raise_cases s e with ⟨-, h'⟩ | ⟨h', -⟩
  · rw [h']; exact (State.announce_rest s e).2.2.2.2.1
  · rw [h] at h'; cases h'

end Sys2Proof.Machine
end

