-- ==== Sys2Proof/Laws/Stable.lean ====
section
/-! SUPPORT. What every operation of the blocks keeps: a property that the named updates, an event and the requests to the clock
keep is kept by every operation up to the end of a handling. Frames and invariants are drawn from it. -/

namespace Sys2Proof.Machine

set_option linter.unusedTactic false
set_option linter.unusedVariables false
set_option linter.unnecessarySeqFocus false
set_option linter.unreachableTactic false

/-- A property of the state that no update of a block outside the Show Link breaks, no event breaks, and none of the changes a
request makes to the clock breaks. -/
structure Stable (P : State → Prop) : Prop where
  light : ∀ {s} f, P s → P (s.modLight f)
  track : ∀ {s} f, P s → P (s.modTrack f)
  trains : ∀ {s : State} x, P s → P { s with trains := x }
  axes : ∀ {s : State} x, P s → P { s with axes := x }
  cue : ∀ {s} f, P s → P (s.modCue f)
  trig : ∀ {s} f, P s → P (s.modTrig f)
  supply : ∀ {s} f, P s → P (s.modSupply f)
  sched : ∀ {s} f, P s → P (s.modSched f)
  outs : ∀ {s} f, P s → P (s.modOuts f)
  work : ∀ {s} f, P s → P (s.modWork f)
  raise : ∀ {s} e, P s → P (s.raise e)
  setRate : ∀ {s} p m q g, rateFailure p m q g = none → P s → P (s.modClock (Clock.setRate p m q g))
  hold : ∀ {s}, P s → P (s.modClock fun c => { c with state := .held })
  resume : ∀ {s}, P s → P (s.modClock Clock.resume)
  jump : ∀ {s} target, target < Config.dayMs → P s → P (s.modClock (Clock.jump target))
  lock : ∀ {s}, P s → P (s.modClock fun c => { c with target := none, state := .run })
  glide : ∀ {s} target, target < Config.dayMs → P s → P (s.modClock fun c => { c with target := some target, state := .glide })

variable {P : State → Prop} {s : State}

/-! ## The named updates -/

theorem Stable.modGroup (h : Stable P) (g : Fin 32) (f : Group → Group) (hs : P s) : P (s.modGroup g f) :=
  h.light (fun l => { l with groups := l.groups.modify g f }) hs

theorem Stable.modChannel (h : Stable P) (c : Fin 512) (f : Channel → Channel) (hs : P s) : P (s.modChannel c f) :=
  h.light (fun l => { l with channels := l.channels.modify c f }) hs

theorem Stable.modRun (h : Stable P) (x : Fin 48) (f : SectionRun → SectionRun) (hs : P s) : P (s.modRun x f) :=
  h.track (fun k => { k with runs := k.runs.modify x f }) hs

theorem Stable.modPoint (h : Stable P) (p : Fin 24) (f : Point → Point) (hs : P s) : P (s.modPoint p f) :=
  h.track (fun k => { k with points := k.points.modify p f }) hs

theorem Stable.setCoupling (h : Stable P) (c : Fin 4) (k : Option Coupling) (hs : P s) : P (s.setCoupling c k) :=
  h.track (fun t => { t with couplings := t.couplings.set c k }) hs

theorem Stable.setQueue (h : Stable P) (q : List ThrowEntry) (hs : P s) : P (s.setQueue q) := h.track (fun k => { k with queue := q }) hs

theorem Stable.setUnit (h : Stable P) (u : ThrowUnit) (hs : P s) : P (s.setUnit u) := h.track (fun k => { k with unit_ := u }) hs

theorem Stable.modTrain (h : Stable P) (t : Fin 8) (f : Train → Train) (hs : P s) : P (s.modTrain t f) := h.trains _ hs

theorem Stable.modAxis (h : Stable P) (a : Fin 8) (f : Axis → Axis) (hs : P s) : P (s.modAxis a f) := h.axes _ hs

theorem Stable.modTrains (h : Stable P) (f : Train → Train) (hs : P s) : P (s.modTrains f) := h.trains _ hs

theorem Stable.modAxes (h : Stable P) (f : Axis → Axis) (hs : P s) : P (s.modAxes f) := h.axes _ hs

theorem Stable.modPlayer (h : Stable P) (p : Fin 8) (f : Player → Player) (hs : P s) : P (s.modPlayer p f) :=
  h.cue (fun c => { c with players := c.players.modify p f }) hs

theorem Stable.modList (h : Stable P) (l : Fin 64) (f : CueList → CueList) (hs : P s) : P (s.modList l f) :=
  h.cue (fun c => { c with lists := c.lists.modify l f }) hs

theorem Stable.setHolder (h : Stable P) (x : Fin 57) (p : Option (Fin 8)) (hs : P s) : P (s.setHolder x p) :=
  h.cue (fun c => { c with holders := c.holders.set x p }) hs

theorem Stable.modInput (h : Stable P) (i : Fin 8) (f : Conditioner → Conditioner) (hs : P s) : P (s.modInput i f) :=
  h.trig (fun t => { t with inputs := t.inputs.modify i f }) hs

theorem Stable.modCounter (h : Stable P) (i : Fin 8) (f : Counter → Counter) (hs : P s) : P (s.modCounter i f) :=
  h.trig (fun t => { t with counters := t.counters.modify i f }) hs

theorem Stable.modTrigger (h : Stable P) (k : Fin 32) (f : Trigger → Trigger) (hs : P s) : P (s.modTrigger k f) :=
  h.trig (fun t => { t with triggers := t.triggers.modify k f }) hs

theorem Stable.handEnding (h : Stable P) (x : Ending) (hs : P s) : P (s.handEnding x) := h.work _ hs

theorem Stable.later (h : Stable P) (t : Task) (hs : P s) : P (s.later t) := h.work _ hs

theorem Stable.laterRun (h : Stable P) (p : Fin 8) (stage : Stage) (hs : P s) : P (s.laterRun p stage) := h.work _ hs

/-- A loop keeps what each of its rounds keeps. -/
theorem keeps_forEach {α : Type} {f : α → State → State} (hf : ∀ a s, P s → P (f a s)) (l : List α) (hs : P s) : P (forEach l f s) := by
  induction l generalizing s with
  | nil => exact hs
  | cons a l ih => exact ih (hf a s hs)

theorem Stable.forEach (_ : Stable P) {α : Type} {f : α → State → State} (l : List α) (hf : ∀ a s, P s → P (f a s)) (hs : P s) :
    P (Machine.forEach l f s) := keeps_forEach hf l hs

theorem Stable.raiseAll (h : Stable P) (es : List Event) (hs : P s) : P (s.raiseAll es) := by
  induction es generalizing s with
  | nil => exact hs
  | cons e es ih => exact ih (h.raise e hs)

/-! ## Light Engine -/

theorem Stable.advanceFade (hP : Stable P) (base : FadeBase) (n : Nat) (g : Fin 32) (hs : P s) : P (Machine.advanceFade base n g s) := by
  unfold Machine.advanceFade; (try dsimp only); (repeat' split) <;> (try dsimp only) <;> repeat (first | with_reducible assumption | with_reducible apply hP.modGroup | with_reducible apply hP.raise | intro)

theorem Stable.advanceFades (hP : Stable P) (base : FadeBase) (n : Nat) (hs : P s) : P (Machine.advanceFades base n s) := by
  unfold Machine.advanceFades; (try dsimp only); (repeat' split) <;> (try dsimp only) <;> repeat (first | with_reducible assumption | with_reducible apply hP.forEach | with_reducible apply hP.advanceFade | intro)

theorem Stable.doGroupSetMode (hP : Stable P) (group mode : Nat) (hs : P s) : P (Machine.doGroupSetMode group mode s).1 := by
  unfold Machine.doGroupSetMode; (try dsimp only); (repeat' split) <;> (try dsimp only) <;> repeat (first | with_reducible assumption | with_reducible apply hP.modGroup | intro)

theorem Stable.doGroupSetCurve (hP : Stable P) (group : Nat) (points : List (Nat × Nat)) (hs : P s) : P (Machine.doGroupSetCurve group points s).1 := by
  unfold Machine.doGroupSetCurve; (try dsimp only); (repeat' split) <;> (try dsimp only) <;> repeat (first | with_reducible assumption | with_reducible apply hP.modGroup | intro)

theorem Stable.doGroupConfig (hP : Stable P) (group rounding gamma : Nat) (hs : P s) : P (Machine.doGroupConfig group rounding gamma s).1 := by
  unfold Machine.doGroupConfig; (try dsimp only); (repeat' split) <;> (try dsimp only) <;> repeat (first | with_reducible assumption | with_reducible apply hP.modGroup | intro)

theorem Stable.doGroupSetLevel (hP : Stable P) (group level duration base : Nat) (hs : P s) : P (Machine.doGroupSetLevel group level duration base s).1 := by
  unfold Machine.doGroupSetLevel; (try dsimp only); (repeat' split) <;> (try dsimp only) <;> repeat (first | with_reducible assumption | with_reducible apply hP.modGroup | with_reducible apply hP.raise | with_reducible apply hP.handEnding | intro)

theorem Stable.doGroupSetBlink (hP : Stable P) (group form on off burst : Nat) (hs : P s) : P (Machine.doGroupSetBlink group form on off burst s).1 := by
  unfold Machine.doGroupSetBlink; (try dsimp only); (repeat' split) <;> (try dsimp only) <;> repeat (first | with_reducible assumption | with_reducible apply hP.modGroup | intro)

theorem Stable.advanceBlink (hP : Stable P) (g : Fin 32) (hs : P s) : P (Machine.advanceBlink g s) := by
  unfold Machine.advanceBlink; (try dsimp only); (repeat' split) <;> (try dsimp only) <;> repeat (first | with_reducible assumption | with_reducible apply hP.modGroup | with_reducible apply hP.raise | intro)

theorem Stable.advanceBlinks (hP : Stable P) (hs : P s) : P (Machine.advanceBlinks s) := by
  unfold Machine.advanceBlinks; (try dsimp only); (repeat' split) <;> (try dsimp only) <;> repeat (first | with_reducible assumption | with_reducible apply hP.forEach | with_reducible apply hP.advanceBlink | intro)

theorem Stable.doGammaWrite (hP : Stable P) (table : Nat) (entries : List Nat) (hs : P s) : P (Machine.doGammaWrite table entries s).1 := by
  unfold Machine.doGammaWrite; (try dsimp only); (repeat' split) <;> (try dsimp only) <;> repeat (first | with_reducible assumption | with_reducible apply hP.light | intro)

theorem Stable.doGammaQuery (hP : Stable P) (table : Nat) (hs : P s) : P (Machine.doGammaQuery table s).1 := by
  unfold Machine.doGammaQuery; (try dsimp only); (repeat' split) <;> (try dsimp only) <;> repeat (first | with_reducible assumption | intro)

theorem Stable.doChannelConfig (hP : Stable P) (channel group kind : Nat) (trim : Int) (binding : RawBinding) (warm restrike : Nat) (hs : P s) : P (Machine.doChannelConfig channel group kind trim binding warm restrike s).1 := by
  unfold Machine.doChannelConfig; (try dsimp only); (repeat' split) <;> (try dsimp only) <;> repeat (first | with_reducible assumption | with_reducible apply hP.modChannel | intro)

theorem Stable.doPwmMap (hP : Stable P) (output : Nat) (channel : Option Nat) (hs : P s) : P (Machine.doPwmMap output channel s).1 := by
  unfold Machine.doPwmMap; (try dsimp only); (repeat' split) <;> (try dsimp only) <;> repeat (first | with_reducible assumption | with_reducible apply hP.light | intro)

theorem Stable.doChainLength (hP : Stable P) (chain length : Nat) (hs : P s) : P (Machine.doChainLength chain length s).1 := by
  unfold Machine.doChainLength; (try dsimp only); (repeat' split) <;> (try dsimp only) <;> repeat (first | with_reducible assumption | with_reducible apply hP.light | intro)

theorem Stable.doSegmentSet (hP : Stable P) (segment chain first count channel : Nat) (hs : P s) : P (Machine.doSegmentSet segment chain first count channel s).1 := by
  unfold Machine.doSegmentSet; (try dsimp only); (repeat' split) <;> (try dsimp only) <;> repeat (first | with_reducible assumption | with_reducible apply hP.light | intro)

theorem Stable.doSegmentClear (hP : Stable P) (segment : Nat) (hs : P s) : P (Machine.doSegmentClear segment s).1 := by
  unfold Machine.doSegmentClear; (try dsimp only); (repeat' split) <;> (try dsimp only) <;> repeat (first | with_reducible assumption | with_reducible apply hP.light | intro)

theorem Stable.doGroupQuery (hP : Stable P) (group : Nat) (hs : P s) : P (Machine.doGroupQuery group s).1 := by
  unfold Machine.doGroupQuery; (try dsimp only); (repeat' split) <;> (try dsimp only) <;> repeat (first | with_reducible assumption | intro)

theorem Stable.doChannelQuery (hP : Stable P) (channel : Nat) (hs : P s) : P (Machine.doChannelQuery channel s).1 := by
  unfold Machine.doChannelQuery; (try dsimp only); (repeat' split) <;> (try dsimp only) <;> repeat (first | with_reducible assumption | intro)

theorem Stable.warmLight (hP : Stable P) (hs : P s) : P (Machine.warmLight s) := by
  unfold Machine.warmLight; (try dsimp only); (repeat' split) <;> (try dsimp only) <;> repeat (first | with_reducible assumption | with_reducible apply hP.light | intro)

theorem Stable.sodiumRailDown (hP : Stable P) (hs : P s) : P (Machine.sodiumRailDown s) := by
  unfold Machine.sodiumRailDown; (try dsimp only); (repeat' split) <;> (try dsimp only) <;> repeat (first | with_reducible assumption | with_reducible apply hP.light | intro)

/-! ## Motion Controller -/

theorem Stable.syncGate (hP : Stable P) (a : Fin 8) (hs : P s) : P (Machine.syncGate a s) := by
  unfold Machine.syncGate; (try dsimp only); (repeat' split) <;> (try dsimp only) <;> repeat (first | with_reducible assumption | with_reducible apply hP.modAxis | with_reducible apply hP.raise | with_reducible apply hP.later | with_reducible apply hP.forEach | intro)

theorem Stable.faultAxis (hP : Stable P) (a : Fin 8) (code : AxisFaultCode) (hs : P s) : P (Machine.faultAxis a code s) := by
  unfold Machine.faultAxis; (try dsimp only); (repeat' split) <;> (try dsimp only) <;> repeat (first | with_reducible assumption | with_reducible apply hP.modAxis | with_reducible apply hP.raise | with_reducible apply hP.syncGate | intro)

theorem Stable.doAxisConfig (hP : Stable P) (axis : Nat) (c : RawAxisConfig) (hs : P s) : P (Machine.doAxisConfig axis c s).1 := by
  unfold Machine.doAxisConfig; (try dsimp only); (repeat' split) <;> (try dsimp only) <;> repeat (first | with_reducible assumption | with_reducible apply hP.modAxis | with_reducible apply hP.syncGate | intro)

theorem Stable.doAxisSpeed (hP : Stable P) (axis speed direction : Nat) (hs : P s) : P (Machine.doAxisSpeed axis speed direction s).1 := by
  unfold Machine.doAxisSpeed; (try dsimp only); (repeat' split) <;> (try dsimp only) <;> repeat (first | with_reducible assumption | with_reducible apply hP.modAxis | with_reducible apply hP.raise | intro)

theorem Stable.doAxisStopAt (hP : Stable P) (axis angle : Nat) (hs : P s) : P (Machine.doAxisStopAt axis angle s).1 := by
  unfold Machine.doAxisStopAt; (try dsimp only); (repeat' split) <;> (try dsimp only) <;> repeat (first | with_reducible assumption | with_reducible apply hP.modAxis | with_reducible apply hP.raise | intro)

theorem Stable.doAxisMove (hP : Stable P) (axis : Nat) (position : Int) (hs : P s) : P (Machine.doAxisMove axis position s).1 := by
  unfold Machine.doAxisMove; (try dsimp only); (repeat' split) <;> (try dsimp only) <;> repeat (first | with_reducible assumption | with_reducible apply hP.modAxis | with_reducible apply hP.raise | intro)

theorem Stable.doAxisHome (hP : Stable P) (axis : Nat) (hs : P s) : P (Machine.doAxisHome axis s).1 := by
  unfold Machine.doAxisHome; (try dsimp only); (repeat' split) <;> (try dsimp only) <;> repeat (first | with_reducible assumption | with_reducible apply hP.modAxis | with_reducible apply hP.syncGate | intro)

theorem Stable.doAxisStop (hP : Stable P) (axis : Nat) (hs : P s) : P (Machine.doAxisStop axis s).1 := by
  unfold Machine.doAxisStop; (try dsimp only); (repeat' split) <;> (try dsimp only) <;> repeat (first | with_reducible assumption | with_reducible apply hP.modAxis | with_reducible apply hP.raise | intro)

theorem Stable.doAxisQuery (hP : Stable P) (axis : Nat) (hs : P s) : P (Machine.doAxisQuery axis s).1 := by
  unfold Machine.doAxisQuery; (try dsimp only); (repeat' split) <;> (try dsimp only) <;> repeat (first | with_reducible assumption | intro)

theorem Stable.gateCommand (hP : Stable P) (a : Fin 8) (w : GateWish) (hs : P s) : P (Machine.gateCommand a w s) := by
  unfold Machine.gateCommand; (try dsimp only); (repeat' split) <;> (try dsimp only) <;> repeat (first | with_reducible assumption | with_reducible apply hP.modAxis | with_reducible apply hP.syncGate | intro)

theorem Stable.carryGoal (hP : Stable P) (a : Fin 8) (hs : P s) : P (Machine.carryGoal a s) := by
  unfold Machine.carryGoal; (try dsimp only); (repeat' split) <;> (try dsimp only) <;> repeat (first | with_reducible assumption | with_reducible apply hP.gateCommand | intro)

theorem Stable.retryGate (hP : Stable P) (a : Fin 8) (hs : P s) : P (Machine.retryGate a s) := by
  unfold Machine.retryGate; (try dsimp only); (repeat' split) <;> (try dsimp only) <;> repeat (first | with_reducible assumption | with_reducible apply hP.modAxis | with_reducible apply hP.syncGate | intro)

theorem Stable.stopAxes (hP : Stable P) (f : Axis → Axis) (ended : List (Fin 8)) (hs : P s) : P (Machine.stopAxes f ended s) := by
  unfold Machine.stopAxes; (try dsimp only); (repeat' split) <;> (try dsimp only) <;> repeat (first | with_reducible assumption | with_reducible apply hP.modAxes | with_reducible apply hP.handEnding | with_reducible apply hP.forEach | with_reducible apply hP.syncGate | intro)

theorem Stable.motionDown (hP : Stable P) (hs : P s) : P (Machine.motionDown s) := by
  unfold Machine.motionDown; (try dsimp only); (repeat' split) <;> (try dsimp only) <;> repeat (first | with_reducible assumption | with_reducible apply hP.stopAxes | intro)

theorem Stable.motionUp (hP : Stable P) (hs : P s) : P (Machine.motionUp s) := by
  unfold Machine.motionUp; (try dsimp only); (repeat' split) <;> (try dsimp only) <;> repeat (first | with_reducible assumption | with_reducible apply hP.stopAxes | intro)

theorem Stable.holdAxes (hP : Stable P) (hs : P s) : P (Machine.holdAxes s) := by
  unfold Machine.holdAxes; (try dsimp only); (repeat' split) <;> (try dsimp only) <;> repeat (first | with_reducible assumption | with_reducible apply hP.stopAxes | intro)

theorem Stable.releaseAxes (hP : Stable P) (hs : P s) : P (Machine.releaseAxes s) := by
  unfold Machine.releaseAxes; (try dsimp only); (repeat' split) <;> (try dsimp only) <;> repeat (first | with_reducible assumption | with_reducible apply hP.forEach | with_reducible apply hP.carryGoal | with_reducible apply hP.stopAxes | intro)

theorem Stable.warmAxes (hP : Stable P) (hs : P s) : P (Machine.warmAxes s) := by
  unfold Machine.warmAxes; (try dsimp only); (repeat' split) <;> (try dsimp only) <;> repeat (first | with_reducible assumption | with_reducible apply hP.stopAxes | intro)

theorem Stable.updateAxis (hP : Stable P) (a : Fin 8) (hs : P s) : P (Machine.updateAxis a s) := by
  unfold Machine.updateAxis; (try dsimp only); (repeat' split) <;> (try dsimp only) <;> repeat (first | with_reducible assumption | with_reducible apply hP.modAxis | with_reducible apply hP.sched | with_reducible apply hP.outs | with_reducible apply hP.raiseAll | with_reducible apply hP.syncGate | with_reducible apply hP.carryGoal | intro)

/-! ## Train Controller: targets, stops and endings -/

theorem Stable.resync (hP : Stable P) (t : Fin 8) (hs : P s) : P (Machine.resync t s) := by
  unfold Machine.resync; (try dsimp only); (repeat' split) <;> (try dsimp only) <;> repeat (first | with_reducible assumption | with_reducible apply hP.modTrain | intro)

theorem Stable.resyncAll (hP : Stable P) (hs : P s) : P (Machine.resyncAll s) := by
  unfold Machine.resyncAll; (try dsimp only); (repeat' split) <;> (try dsimp only) <;> repeat (first | with_reducible assumption | with_reducible apply hP.forEach | with_reducible apply hP.resync | intro)

theorem Stable.rampStep (hP : Stable P) (t : Fin 8) (hs : P s) : P (Machine.rampStep t s) := by
  unfold Machine.rampStep; (try dsimp only); (repeat' split) <;> (try dsimp only) <;> repeat (first | with_reducible assumption | with_reducible apply hP.modTrain | with_reducible apply hP.raise | with_reducible apply hP.resync | intro)

theorem Stable.emergencyStopOne (hP : Stable P) (reason : StopReason) (t : Fin 8) (hs : P s) : P (Machine.emergencyStopOne reason t s) := by
  unfold Machine.emergencyStopOne; (try dsimp only); (repeat' split) <;> (try dsimp only) <;> repeat (first | with_reducible assumption | with_reducible apply hP.modTrain | with_reducible apply hP.raise | intro)

theorem Stable.emergencyStop (hP : Stable P) (reason : StopReason) (hs : P s) : P (Machine.emergencyStop reason s) := by
  unfold Machine.emergencyStop; (try dsimp only); (repeat' split) <;> (try dsimp only) <;> repeat (first | with_reducible assumption | with_reducible apply hP.forEach | with_reducible apply hP.resyncAll | with_reducible apply hP.emergencyStopOne | intro)

theorem Stable.routeFault (hP : Stable P) (t : Fin 8) (reason : RouteReason) (hs : P s) : P (Machine.routeFault t reason s) := by
  unfold Machine.routeFault; (try dsimp only); (repeat' split) <;> (try dsimp only) <;> repeat (first | with_reducible assumption | with_reducible apply hP.modTrain | with_reducible apply hP.raise | intro)

theorem Stable.routeEnding (hP : Stable P) (t : Fin 8) (hs : P s) : P (Machine.routeEnding t s) := by
  unfold Machine.routeEnding; (try dsimp only); (repeat' split) <;> (try dsimp only) <;> repeat (first | with_reducible assumption | with_reducible apply hP.handEnding | intro)

theorem Stable.haltTrain (hP : Stable P) (t : Fin 8) (fault : HaltFault) (hs : P s) : P (Machine.haltTrain t fault s) := by
  unfold Machine.haltTrain; (try dsimp only); (repeat' split) <;> (try dsimp only) <;> repeat (first | with_reducible assumption | with_reducible apply hP.modTrain | with_reducible apply hP.raise | with_reducible apply hP.resync | intro)

theorem Stable.warmTrains (hP : Stable P) (hs : P s) : P (Machine.warmTrains s) := by
  unfold Machine.warmTrains; (try dsimp only); (repeat' split) <;> (try dsimp only) <;> repeat (first | with_reducible assumption | with_reducible apply hP.modTrains | intro)

/-! ## Track Controller -/

theorem Stable.commandClose (hP : Stable P) (c : Fin 4) (d : CrossingDef) (k : Coupling) (hs : P s) : P (Machine.commandClose c d k s) := by
  unfold Machine.commandClose; (try dsimp only); (repeat' split) <;> (try dsimp only) <;> repeat (first | with_reducible assumption | with_reducible apply hP.setCoupling | with_reducible apply hP.gateCommand | intro)

theorem Stable.openNow (hP : Stable P) (c : Fin 4) (d : CrossingDef) (k : Coupling) (hs : P s) : P (Machine.openNow c d k s) := by
  unfold Machine.openNow; (try dsimp only); (repeat' split) <;> (try dsimp only) <;> repeat (first | with_reducible assumption | with_reducible apply hP.setCoupling | with_reducible apply hP.gateCommand | intro)

theorem Stable.startOpenDelay (hP : Stable P) (c : Fin 4) (d : CrossingDef) (k : Coupling) (hs : P s) : P (Machine.startOpenDelay c d k s) := by
  unfold Machine.startOpenDelay; (try dsimp only); (repeat' split) <;> (try dsimp only) <;> repeat (first | with_reducible assumption | with_reducible apply hP.setCoupling | with_reducible apply hP.openNow | intro)

theorem Stable.actOnDemand (hP : Stable P) (c : Fin 4) (d : CrossingDef) (k : Coupling) (hs : P s) : P (Machine.actOnDemand c d k s) := by
  unfold Machine.actOnDemand; (try dsimp only); (repeat' split) <;> (try dsimp only) <;> repeat (first | with_reducible assumption | with_reducible apply hP.setCoupling | with_reducible apply hP.commandClose | with_reducible apply hP.startOpenDelay | intro)

theorem Stable.redemand (hP : Stable P) (c : Fin 4) (hs : P s) : P (Machine.redemand c s) := by
  unfold Machine.redemand; (try dsimp only); (repeat' split) <;> (try dsimp only) <;> repeat (first | with_reducible assumption | with_reducible apply hP.setCoupling | with_reducible apply hP.actOnDemand | intro)

theorem Stable.redemandOf (hP : Stable P) (x : Fin 48) (hs : P s) : P (Machine.redemandOf x s) := by
  unfold Machine.redemandOf; (try dsimp only); (repeat' split) <;> (try dsimp only) <;> repeat (first | with_reducible assumption | with_reducible apply hP.redemand | intro)

theorem Stable.startCoupling (hP : Stable P) (c : Fin 4) (hs : P s) : P (Machine.startCoupling c s) := by
  unfold Machine.startCoupling; (try dsimp only); (repeat' split) <;> (try dsimp only) <;> repeat (first | with_reducible assumption | with_reducible apply hP.setCoupling | with_reducible apply hP.actOnDemand | intro)

theorem Stable.suspendCrossing (hP : Stable P) (c : Fin 4) (hs : P s) : P (Machine.suspendCrossing c s) := by
  unfold Machine.suspendCrossing; (try dsimp only); (repeat' split) <;> (try dsimp only) <;> repeat (first | with_reducible assumption | with_reducible apply hP.setCoupling | intro)

theorem Stable.recommandCrossing (hP : Stable P) (c : Fin 4) (hs : P s) : P (Machine.recommandCrossing c s) := by
  unfold Machine.recommandCrossing; (try dsimp only); (repeat' split) <;> (try dsimp only) <;> repeat (first | with_reducible assumption | with_reducible apply hP.commandClose | with_reducible apply hP.startOpenDelay | intro)

theorem Stable.openDelayExpire (hP : Stable P) (c : Fin 4) (hs : P s) : P (Machine.openDelayExpire c s) := by
  unfold Machine.openDelayExpire; (try dsimp only); (repeat' split) <;> (try dsimp only) <;> repeat (first | with_reducible assumption | with_reducible apply hP.openNow | intro)

theorem Stable.gateTimeoutExpire (hP : Stable P) (c : Fin 4) (hs : P s) : P (Machine.gateTimeoutExpire c s) := by
  unfold Machine.gateTimeoutExpire; (try dsimp only); (repeat' split) <;> (try dsimp only) <;> repeat (first | with_reducible assumption | with_reducible apply hP.setCoupling | with_reducible apply hP.faultAxis | intro)

theorem Stable.setSec (hP : Stable P) (x : Fin 48) (st : SecState) (hs : P s) : P (Machine.setSec x st s) := by
  unfold Machine.setSec; (try dsimp only); (repeat' split) <;> (try dsimp only) <;> repeat (first | with_reducible assumption | with_reducible apply hP.modRun | with_reducible apply hP.redemandOf | intro)

theorem Stable.joinHeld (hP : Stable P) (t : Fin 8) (x : Fin 48) (sense : Sense) (hs : P s) : P (Machine.joinHeld t x sense s) := by
  unfold Machine.joinHeld; (try dsimp only); (repeat' split) <;> (try dsimp only) <;> repeat (first | with_reducible assumption | with_reducible apply hP.modTrain | intro)

theorem Stable.leaveHeld (hP : Stable P) (t : Fin 8) (x : Fin 48) (hs : P s) : P (Machine.leaveHeld t x s) := by
  unfold Machine.leaveHeld; (try dsimp only); (repeat' split) <;> (try dsimp only) <;> repeat (first | with_reducible assumption | with_reducible apply hP.modTrain | with_reducible apply hP.later | intro)

theorem Stable.withdraw (hP : Stable P) (t : Fin 8) (x : Fin 48) (hs : P s) : P (Machine.withdraw t x s) := by
  unfold Machine.withdraw; (try dsimp only); (repeat' split) <;> (try dsimp only) <;> repeat (first | with_reducible assumption | with_reducible apply hP.modRun | intro)

theorem Stable.clearSec (hP : Stable P) (x : Fin 48) (hs : P s) : P (Machine.clearSec x s) := by
  unfold Machine.clearSec; (try dsimp only); (repeat' split) <;> (try dsimp only) <;> repeat (first | with_reducible assumption | with_reducible apply hP.later | with_reducible apply hP.setSec | intro)

theorem Stable.dropThrows (hP : Stable P) (drop : ThrowEntry → Bool) (hs : P s) : P (Machine.dropThrows drop s) := by
  unfold Machine.dropThrows; (try dsimp only); (repeat' split) <;> (try dsimp only) <;> repeat (first | with_reducible assumption | with_reducible apply hP.setQueue | with_reducible apply hP.later | intro)

theorem Stable.dropGrantThrow (hP : Stable P) (x : Fin 48) (hs : P s) : P (Machine.dropGrantThrow x s) := by
  unfold Machine.dropGrantThrow; (try dsimp only); (repeat' split) <;> (try dsimp only) <;> repeat (first | with_reducible assumption | with_reducible apply hP.dropThrows | intro)

theorem Stable.dropRequestThrows (hP : Stable P) (x : Fin 48) (hs : P s) : P (Machine.dropRequestThrows x s) := by
  unfold Machine.dropRequestThrows; (try dsimp only); (repeat' split) <;> (try dsimp only) <;> repeat (first | with_reducible assumption | with_reducible apply hP.dropThrows | intro)

theorem Stable.queueThrow (hP : Stable P) (e : ThrowEntry) (hs : P s) : P (Machine.queueThrow e s) := by
  unfold Machine.queueThrow; (try dsimp only); (repeat' split) <;> (try dsimp only) <;> repeat (first | with_reducible assumption | with_reducible apply hP.setQueue | with_reducible apply hP.later | intro)

theorem Stable.testServed (hP : Stable P) (o : Option (Fin 8)) (hs : P s) : P (Machine.testServed o s) := by
  unfold Machine.testServed; (try dsimp only); (repeat' split) <;> (try dsimp only) <;> repeat (first | with_reducible assumption | with_reducible apply hP.later | intro)

theorem Stable.examineHead (hP : Stable P) (hs : P s) : P (Machine.examineHead s) := by
  unfold Machine.examineHead; (try dsimp only); (repeat' split) <;> (try dsimp only) <;> repeat (first | with_reducible assumption | with_reducible apply hP.setQueue | with_reducible apply hP.setUnit | with_reducible apply hP.raise | with_reducible apply hP.later | with_reducible apply hP.testServed | intro)

theorem Stable.pulseFinish (hP : Stable P) (hs : P s) : P (Machine.pulseFinish s) := by
  unfold Machine.pulseFinish; (try dsimp only); (repeat' split) <;> (try dsimp only) <;> repeat (first | with_reducible assumption | with_reducible apply hP.modPoint | with_reducible apply hP.setUnit | with_reducible apply hP.raise | with_reducible apply hP.later | with_reducible apply hP.testServed | intro)

theorem Stable.rechargeFinish (hP : Stable P) (hs : P s) : P (Machine.rechargeFinish s) := by
  unfold Machine.rechargeFinish; (try dsimp only); (repeat' split) <;> (try dsimp only) <;> repeat (first | with_reducible assumption | with_reducible apply hP.setUnit | with_reducible apply hP.later | intro)

theorem Stable.unserve (hP : Stable P) (t : Fin 8) (hs : P s) : P (Machine.unserve t s) := by
  unfold Machine.unserve; (try dsimp only); (repeat' split) <;> (try dsimp only) <;> repeat (first | with_reducible assumption | with_reducible apply hP.setUnit | intro)

theorem Stable.releaseSec (hP : Stable P) (t : Fin 8) (x : Fin 48) (hs : P s) : P (Machine.releaseSec t x s) := by
  unfold Machine.releaseSec; (try dsimp only); (repeat' split) <;> (try dsimp only) <;> repeat (first | with_reducible assumption | with_reducible apply hP.resync | with_reducible apply hP.leaveHeld | with_reducible apply hP.clearSec | with_reducible apply hP.dropGrantThrow | intro)

theorem Stable.keepPrev (hP : Stable P) (t : Fin 8) (x : Fin 48) (hs : P s) : P (Machine.keepPrev t x s) := by
  unfold Machine.keepPrev; (try dsimp only); (repeat' split) <;> (try dsimp only) <;> repeat (first | with_reducible assumption | with_reducible apply hP.resync | with_reducible apply hP.setSec | with_reducible apply hP.dropGrantThrow | intro)

theorem Stable.releasePending (hP : Stable P) (t : Fin 8) (hs : P s) : P (Machine.releasePending t s) := by
  unfold Machine.releasePending; (try dsimp only); (repeat' split) <;> (try dsimp only) <;> repeat (first | with_reducible assumption | with_reducible apply hP.forEach | with_reducible apply hP.unserve | with_reducible apply hP.releaseSec | with_reducible apply hP.keepPrev | intro)

theorem Stable.completeGrant (hP : Stable P) (t : Fin 8) (hs : P s) : P (Machine.completeGrant t s) := by
  unfold Machine.completeGrant; (try dsimp only); (repeat' split) <;> (try dsimp only) <;> repeat (first | with_reducible assumption | with_reducible apply hP.modTrain | with_reducible apply hP.raise | with_reducible apply hP.later | with_reducible apply hP.forEach | with_reducible apply hP.resync | with_reducible apply hP.setSec | intro)

theorem Stable.pend (hP : Stable P) (t : Fin 8) (x : Fin 48) (entered : End) (hs : P s) : P (Machine.pend t x entered s) := by
  unfold Machine.pend; (try dsimp only); (repeat' split) <;> (try dsimp only) <;> repeat (first | with_reducible assumption | with_reducible apply hP.modTrain | with_reducible apply hP.resync | with_reducible apply hP.setSec | with_reducible apply hP.joinHeld | with_reducible apply hP.withdraw | intro)

theorem Stable.grant (hP : Stable P) (t : Fin 8) (x : Fin 48) (entered : End) (hs : P s) : P (Machine.grant t x entered s) := by
  unfold Machine.grant; (try dsimp only); (repeat' split) <;> (try dsimp only) <;> repeat (first | with_reducible assumption | with_reducible apply hP.later | with_reducible apply hP.resync | with_reducible apply hP.routeFault | with_reducible apply hP.setSec | with_reducible apply hP.withdraw | with_reducible apply hP.clearSec | with_reducible apply hP.dropRequestThrows | with_reducible apply hP.queueThrow | with_reducible apply hP.pend | intro)

theorem Stable.testClaim (hP : Stable P) (t : Fin 8) (hs : P s) : P (Machine.testClaim t s) := by
  unfold Machine.testClaim; (try dsimp only); (repeat' split) <;> (try dsimp only) <;> repeat (first | with_reducible assumption | with_reducible apply hP.modRun | with_reducible apply hP.modTrain | with_reducible apply hP.grant | intro)

theorem Stable.expireSec (hP : Stable P) (x : Fin 48) (hs : P s) : P (Machine.expireSec x s) := by
  unfold Machine.expireSec; (try dsimp only); (repeat' split) <;> (try dsimp only) <;> repeat (first | with_reducible assumption | with_reducible apply hP.raise | with_reducible apply hP.setSec | with_reducible apply hP.grant | intro)

theorem Stable.gateSeen (hP : Stable P) (c : Fin 4) (st : GateState) (hs : P s) : P (Machine.gateSeen c st s) := by
  unfold Machine.gateSeen; (try dsimp only); (repeat' split) <;> (try dsimp only) <;> repeat (first | with_reducible assumption | with_reducible apply hP.setCoupling | with_reducible apply hP.later | with_reducible apply hP.forEach | with_reducible apply hP.startOpenDelay | intro)

theorem Stable.warmTrack (hP : Stable P) (hs : P s) : P (Machine.warmTrack s) := by
  unfold Machine.warmTrack; (try dsimp only); (repeat' split) <;> (try dsimp only) <;> repeat (first | with_reducible assumption | with_reducible apply hP.track | with_reducible apply hP.forEach | with_reducible apply hP.releasePending | intro)

/-! ## Occupancy Monitor -/

theorem Stable.halt (hP : Stable P) (t : Fin 8) (fault : HaltFault) (hs : P s) : P (Machine.halt t fault s) := by
  unfold Machine.halt; (try dsimp only); (repeat' split) <;> (try dsimp only) <;> repeat (first | with_reducible assumption | with_reducible apply hP.modTrain | with_reducible apply hP.routeFault | with_reducible apply hP.routeEnding | with_reducible apply hP.haltTrain | with_reducible apply hP.withdraw | with_reducible apply hP.releasePending | intro)

theorem Stable.enterHeld (hP : Stable P) (t : Fin 8) (x : Fin 48) (wasPending : Bool) (hs : P s) : P (Machine.enterHeld t x wasPending s) := by
  unfold Machine.enterHeld; (try dsimp only); (repeat' split) <;> (try dsimp only) <;> repeat (first | with_reducible assumption | with_reducible apply hP.raise | with_reducible apply hP.resync | with_reducible apply hP.setSec | with_reducible apply hP.dropGrantThrow | with_reducible apply hP.halt | intro)

theorem Stable.conflict (hP : Stable P) (h : Fin 8) (x : Fin 48) (facing : List (Fin 8)) (hs : P s) : P (Machine.conflict h x facing s) := by
  unfold Machine.conflict; (try dsimp only); (repeat' split) <;> (try dsimp only) <;> repeat (first | with_reducible assumption | with_reducible apply hP.raise | with_reducible apply hP.forEach | with_reducible apply hP.resync | with_reducible apply hP.setSec | with_reducible apply hP.leaveHeld | with_reducible apply hP.dropGrantThrow | with_reducible apply hP.releaseSec | with_reducible apply hP.halt | intro)

theorem Stable.attributeHeld (hP : Stable P) (h : Fin 8) (x : Fin 48) (wasPending : Bool) (hs : P s) : P (Machine.attributeHeld h x wasPending s) := by
  unfold Machine.attributeHeld; (try dsimp only); (repeat' split) <;> (try dsimp only) <;> repeat (first | with_reducible assumption | with_reducible apply hP.enterHeld | with_reducible apply hP.conflict | intro)

theorem Stable.attributeOpen (hP : Stable P) (x : Fin 48) (hs : P s) : P (Machine.attributeOpen x s) := by
  unfold Machine.attributeOpen; (try dsimp only); (repeat' split) <;> (try dsimp only) <;> repeat (first | with_reducible assumption | with_reducible apply hP.raise | with_reducible apply hP.forEach | with_reducible apply hP.resync | with_reducible apply hP.setSec | with_reducible apply hP.joinHeld | with_reducible apply hP.withdraw | with_reducible apply hP.dropRequestThrows | with_reducible apply hP.halt | intro)

theorem Stable.takeEnter (hP : Stable P) (x : Fin 48) (hs : P s) : P (Machine.takeEnter x s) := by
  unfold Machine.takeEnter; (try dsimp only); (repeat' split) <;> (try dsimp only) <;> repeat (first | with_reducible assumption | with_reducible apply hP.attributeHeld | with_reducible apply hP.attributeOpen | intro)

theorem Stable.ordinaryLeave (hP : Stable P) (t : Fin 8) (x : Fin 48) (hs : P s) : P (Machine.ordinaryLeave t x s) := by
  unfold Machine.ordinaryLeave; (try dsimp only); (repeat' split) <;> (try dsimp only) <;> repeat (first | with_reducible assumption | with_reducible apply hP.raise | with_reducible apply hP.forEach | with_reducible apply hP.resync | with_reducible apply hP.setSec | with_reducible apply hP.releaseSec | intro)

theorem Stable.leaveOccupied (hP : Stable P) (t : Fin 8) (x : Fin 48) (hs : P s) : P (Machine.leaveOccupied t x s) := by
  unfold Machine.leaveOccupied; (try dsimp only); (repeat' split) <;> (try dsimp only) <;> repeat (first | with_reducible assumption | with_reducible apply hP.resync | with_reducible apply hP.setSec | with_reducible apply hP.halt | with_reducible apply hP.ordinaryLeave | intro)

theorem Stable.takeLeave (hP : Stable P) (x : Fin 48) (hs : P s) : P (Machine.takeLeave x s) := by
  unfold Machine.takeLeave; (try dsimp only); (repeat' split) <;> (try dsimp only) <;> repeat (first | with_reducible assumption | with_reducible apply hP.clearSec | with_reducible apply hP.leaveOccupied | intro)

theorem Stable.takeConfirm (hP : Stable P) (x : Fin 48) (c : Confirm) (hs : P s) : P (Machine.takeConfirm x c s) := by
  unfold Machine.takeConfirm; (try dsimp only); (repeat' split) <;> (try dsimp only) <;> repeat (first | with_reducible assumption | with_reducible apply hP.takeEnter | with_reducible apply hP.takeLeave | intro)

theorem Stable.sampleDetector (hP : Stable P) (x : Fin 48) (hs : P s) : P (Machine.sampleDetector x s) := by
  unfold Machine.sampleDetector; (try dsimp only); (repeat' split) <;> (try dsimp only) <;> repeat (first | with_reducible assumption | with_reducible apply hP.track | with_reducible apply hP.sched | with_reducible apply hP.takeConfirm | intro)

/-! ## Train requests -/

theorem Stable.placeSec (hP : Stable P) (t : Fin 8) (e : Fin 48 × Sense) (hs : P s) : P (Machine.placeSec t e s) := by
  unfold Machine.placeSec; (try dsimp only); (repeat' split) <;> (try dsimp only) <;> repeat (first | with_reducible assumption | with_reducible apply hP.setSec | with_reducible apply hP.joinHeld | with_reducible apply hP.dropRequestThrows | intro)

theorem Stable.doTrainPlace (hP : Stable P) (train : Nat) (secs : List (Nat × Nat)) (hs : P s) : P (Machine.doTrainPlace train secs s).1 := by
  unfold Machine.doTrainPlace; (try dsimp only); (repeat' split) <;> (try dsimp only) <;> repeat (first | with_reducible assumption | with_reducible apply hP.modTrain | with_reducible apply hP.forEach | with_reducible apply hP.resync | with_reducible apply hP.halt | with_reducible apply hP.placeSec | intro)

theorem Stable.removeSec (hP : Stable P) (t : Fin 8) (x : Fin 48) (hs : P s) : P (Machine.removeSec t x s) := by
  unfold Machine.removeSec; (try dsimp only); (repeat' split) <;> (try dsimp only) <;> repeat (first | with_reducible assumption | with_reducible apply hP.raise | with_reducible apply hP.setSec | with_reducible apply hP.leaveHeld | with_reducible apply hP.releaseSec | intro)

theorem Stable.doTrainRemove (hP : Stable P) (train : Nat) (hs : P s) : P (Machine.doTrainRemove train s).1 := by
  unfold Machine.doTrainRemove; (try dsimp only); (repeat' split) <;> (try dsimp only) <;> repeat (first | with_reducible assumption | with_reducible apply hP.modTrain | with_reducible apply hP.forEach | with_reducible apply hP.removeSec | intro)

theorem Stable.doTrainConfig (hP : Stable P) (train maxSpeed accel decel : Nat) (hs : P s) : P (Machine.doTrainConfig train maxSpeed accel decel s).1 := by
  unfold Machine.doTrainConfig; (try dsimp only); (repeat' split) <;> (try dsimp only) <;> repeat (first | with_reducible assumption | with_reducible apply hP.modTrain | with_reducible apply hP.resync | intro)

theorem Stable.doTrainSpeed (hP : Stable P) (train speed : Nat) (hs : P s) : P (Machine.doTrainSpeed train speed s).1 := by
  unfold Machine.doTrainSpeed; (try dsimp only); (repeat' split) <;> (try dsimp only) <;> repeat (first | with_reducible assumption | with_reducible apply hP.modTrain | with_reducible apply hP.resync | with_reducible apply hP.halt | intro)

theorem Stable.doTrainStop (hP : Stable P) (train : Nat) (hs : P s) : P (Machine.doTrainStop train s).1 := by
  unfold Machine.doTrainStop; (try dsimp only); (repeat' split) <;> (try dsimp only) <;> repeat (first | with_reducible assumption | with_reducible apply hP.modTrain | with_reducible apply hP.resync | intro)

theorem Stable.withdrawClaim (hP : Stable P) (t : Fin 8) (hs : P s) : P (Machine.withdrawClaim t s) := by
  unfold Machine.withdrawClaim; (try dsimp only); (repeat' split) <;> (try dsimp only) <;> repeat (first | with_reducible assumption | with_reducible apply hP.modTrain | with_reducible apply hP.withdraw | intro)

theorem Stable.doTrainRoute (hP : Stable P) (train mode : Nat) (secs : List Nat) (hs : P s) : P (Machine.doTrainRoute train mode secs s).1 := by
  unfold Machine.doTrainRoute; (try dsimp only); (repeat' split) <;> (try dsimp only) <;> repeat (first | with_reducible assumption | with_reducible apply hP.modTrain | with_reducible apply hP.later | with_reducible apply hP.routeEnding | with_reducible apply hP.withdrawClaim | intro)

theorem Stable.keepIfAllPending (hP : Stable P) (t : Fin 8) (hs : P s) : P (Machine.keepIfAllPending t s) := by
  unfold Machine.keepIfAllPending; (try dsimp only); (repeat' split) <;> (try dsimp only) <;> repeat (first | with_reducible assumption | with_reducible apply hP.keepPrev | intro)

theorem Stable.doTrainRelease (hP : Stable P) (train : Nat) (hs : P s) : P (Machine.doTrainRelease train s).1 := by
  unfold Machine.doTrainRelease; (try dsimp only); (repeat' split) <;> (try dsimp only) <;> repeat (first | with_reducible assumption | with_reducible apply hP.modTrain | with_reducible apply hP.forEach | with_reducible apply hP.resync | with_reducible apply hP.routeFault | with_reducible apply hP.routeEnding | with_reducible apply hP.unserve | with_reducible apply hP.releaseSec | with_reducible apply hP.withdrawClaim | with_reducible apply hP.keepIfAllPending | intro)

theorem Stable.doTrainClearFault (hP : Stable P) (train : Nat) (hs : P s) : P (Machine.doTrainClearFault train s).1 := by
  unfold Machine.doTrainClearFault; (try dsimp only); (repeat' split) <;> (try dsimp only) <;> repeat (first | with_reducible assumption | with_reducible apply hP.modTrain | with_reducible apply hP.resync | with_reducible apply hP.halt | intro)

theorem Stable.doTrainDirection (hP : Stable P) (train : Nat) (hs : P s) : P (Machine.doTrainDirection train s).1 := by
  unfold Machine.doTrainDirection; (try dsimp only); (repeat' split) <;> (try dsimp only) <;> repeat (first | with_reducible assumption | with_reducible apply hP.modTrain | with_reducible apply hP.resync | intro)

theorem Stable.doTrainQuery (hP : Stable P) (train : Nat) (hs : P s) : P (Machine.doTrainQuery train s).1 := by
  unfold Machine.doTrainQuery; (try dsimp only); (repeat' split) <;> (try dsimp only) <;> repeat (first | with_reducible assumption | with_reducible apply hP.halt | intro)

/-! ## Layout requests -/

theorem Stable.doLayoutOpen (hP : Stable P) (hs : P s) : P (Machine.doLayoutOpen s).1 := by
  unfold Machine.doLayoutOpen; (try dsimp only); (repeat' split) <;> (try dsimp only) <;> repeat (first | with_reducible assumption | with_reducible apply hP.track | intro)

theorem Stable.doSectionDefine (hP : Stable P) (sec : Nat) (linkA linkB : RawLink) (clearance filter : Nat) (hs : P s) : P (Machine.doSectionDefine sec linkA linkB clearance filter s).1 := by
  unfold Machine.doSectionDefine; (try dsimp only); (repeat' split) <;> (try dsimp only) <;> repeat (first | with_reducible assumption | with_reducible apply hP.track | intro)

theorem Stable.doSectionForget (hP : Stable P) (sec : Nat) (hs : P s) : P (Machine.doSectionForget sec s).1 := by
  unfold Machine.doSectionForget; (try dsimp only); (repeat' split) <;> (try dsimp only) <;> repeat (first | with_reducible assumption | with_reducible apply hP.track | intro)

theorem Stable.doPointDefine (hP : Stable P) (point : Nat) (d : Option RawPoint) (hs : P s) : P (Machine.doPointDefine point d s).1 := by
  unfold Machine.doPointDefine; (try dsimp only); (repeat' split) <;> (try dsimp only) <;> repeat (first | with_reducible assumption | with_reducible apply hP.modPoint | intro)

theorem Stable.doCrossingDefine (hP : Stable P) (crossing : Nat) (d : Option RawCrossing) (hs : P s) : P (Machine.doCrossingDefine crossing d s).1 := by
  unfold Machine.doCrossingDefine; (try dsimp only); (repeat' split) <;> (try dsimp only) <;> repeat (first | with_reducible assumption | with_reducible apply hP.track | intro)

theorem Stable.enterService (hP : Stable P) (hs : P s) : P (Machine.enterService s) := by
  unfold Machine.enterService; (try dsimp only); (repeat' split) <;> (try dsimp only) <;> repeat (first | with_reducible assumption | with_reducible apply hP.track | with_reducible apply hP.raise | with_reducible apply hP.forEach | with_reducible apply hP.startCoupling | intro)

theorem Stable.doLayoutClose (hP : Stable P) (hs : P s) : P (Machine.doLayoutClose s).1 := by
  unfold Machine.doLayoutClose; (try dsimp only); (repeat' split) <;> (try dsimp only) <;> repeat (first | with_reducible assumption | with_reducible apply hP.enterService | intro)

theorem Stable.doPointThrow (hP : Stable P) (point position : Nat) (hs : P s) : P (Machine.doPointThrow point position s).1 := by
  unfold Machine.doPointThrow; (try dsimp only); (repeat' split) <;> (try dsimp only) <;> repeat (first | with_reducible assumption | with_reducible apply hP.setQueue | with_reducible apply hP.raise | with_reducible apply hP.queueThrow | intro)

theorem Stable.doThrowUnitConfig (hP : Stable P) (recharge : Nat) (hs : P s) : P (Machine.doThrowUnitConfig recharge s).1 := by
  unfold Machine.doThrowUnitConfig; (try dsimp only); (repeat' split) <;> (try dsimp only) <;> repeat (first | with_reducible assumption | with_reducible apply hP.track | intro)

theorem Stable.doGateRetry (hP : Stable P) (crossing : Nat) (hs : P s) : P (Machine.doGateRetry crossing s).1 := by
  unfold Machine.doGateRetry; (try dsimp only); (repeat' split) <;> (try dsimp only) <;> repeat (first | with_reducible assumption | with_reducible apply hP.setCoupling | with_reducible apply hP.retryGate | intro)

theorem Stable.doLayoutQuery (hP : Stable P) (cls index : Nat) (hs : P s) : P (Machine.doLayoutQuery cls index s).1 := by
  unfold Machine.doLayoutQuery; (try dsimp only); (repeat' split) <;> (try dsimp only) <;> repeat (first | with_reducible assumption | intro)

theorem Stable.doSectionQuery (hP : Stable P) (sec : Nat) (hs : P s) : P (Machine.doSectionQuery sec s).1 := by
  unfold Machine.doSectionQuery; (try dsimp only); (repeat' split) <;> (try dsimp only) <;> repeat (first | with_reducible assumption | intro)

theorem Stable.doCrossingQuery (hP : Stable P) (crossing : Nat) (hs : P s) : P (Machine.doCrossingQuery crossing s).1 := by
  unfold Machine.doCrossingQuery; (try dsimp only); (repeat' split) <;> (try dsimp only) <;> repeat (first | with_reducible assumption | intro)

theorem Stable.doThrowQuery (hP : Stable P) (hs : P s) : P (Machine.doThrowQuery s).1 := by
  unfold Machine.doThrowQuery; (try dsimp only); (repeat' split) <;> (try dsimp only) <;> repeat (first | with_reducible assumption | intro)

/-! ## Clock requests -/

theorem Stable.doClockSetRate (h : Stable P) (p m q : Nat) (glide : Option Nat) (hs : P s) : P (doClockSetRate p m q glide s).1 := by
  unfold Machine.doClockSetRate
  split
  · exact hs
  · exact h.setRate _ _ _ _ ‹_› hs

theorem Stable.doClockHold (h : Stable P) (hs : P s) : P (doClockHold s).1 := h.hold hs

theorem Stable.doClockRun (h : Stable P) (hs : P s) : P (doClockRun s).1 := h.resume hs

theorem Stable.endGlide (hP : Stable P) (hs : P s) : P (Machine.endGlide s) := by
  unfold Machine.endGlide; (try dsimp only); (repeat' split) <;> (try dsimp only) <;> repeat (first | with_reducible assumption | with_reducible apply hP.handEnding | intro)

theorem Stable.jumpTo (h : Stable P) (target : Nat) (ht : target < Config.dayMs) (hs : P s) : P (jumpTo target s).1 :=
  h.raise _ (h.jump _ ht (h.endGlide hs))

theorem Stable.glideTo (h : Stable P) (target : Nat) (ht : target < Config.dayMs) (hs : P s) : P (glideTo target s).1 := by
  unfold Machine.glideTo
  split
  · exact hs
  · split
    · exact h.raise _ (h.lock (h.endGlide hs))
    · exact h.glide _ ht (h.endGlide hs)

theorem Stable.doClockSetTime (h : Stable P) (target mode : Nat) (hs : P s) : P (doClockSetTime target mode s).1 := by
  unfold Machine.doClockSetTime
  split
  · exact hs
  · have ht : target < Config.dayMs := by omega
    split
    · exact h.jumpTo _ ht hs
    · exact h.glideTo _ ht hs
    · exact hs

theorem Stable.doClockQuery (hP : Stable P) (hs : P s) : P (Machine.doClockQuery s).1 := by
  unfold Machine.doClockQuery; (try dsimp only); (repeat' split) <;> (try dsimp only) <;> repeat (first | with_reducible assumption | intro)

theorem Stable.handOut (h : Stable P) (n : Nat) (hs : P s) : P (handOut n s) := by
  unfold Machine.handOut
  split
  · exact hs
  · exact h.cue _ (h.advanceFades .town n hs)

/-! ## Inputs and aux outputs -/

theorem Stable.confirmEdge (hP : Stable P) (i : Fin 8) (e : Edge) (hs : P s) : P (Machine.confirmEdge i e s) := by
  unfold Machine.confirmEdge; (try dsimp only); (repeat' split) <;> (try dsimp only) <;> repeat (first | with_reducible assumption | with_reducible apply hP.modCounter | with_reducible apply hP.raise | intro)

theorem Stable.sampleInput (hP : Stable P) (i : Fin 8) (hs : P s) : P (Machine.sampleInput i s) := by
  unfold Machine.sampleInput; (try dsimp only); (repeat' split) <;> (try dsimp only) <;> repeat (first | with_reducible assumption | with_reducible apply hP.modInput | with_reducible apply hP.sched | with_reducible apply hP.confirmEdge | intro)

theorem Stable.doInputConfig (hP : Stable P) (input debounce : Nat) (hs : P s) : P (Machine.doInputConfig input debounce s).1 := by
  unfold Machine.doInputConfig; (try dsimp only); (repeat' split) <;> (try dsimp only) <;> repeat (first | with_reducible assumption | with_reducible apply hP.modInput | intro)

theorem Stable.doCounterConfig (hP : Stable P) (input mode edge reload : Nat) (hs : P s) : P (Machine.doCounterConfig input mode edge reload s).1 := by
  unfold Machine.doCounterConfig; (try dsimp only); (repeat' split) <;> (try dsimp only) <;> repeat (first | with_reducible assumption | with_reducible apply hP.modCounter | intro)

theorem Stable.doInputQuery (hP : Stable P) (input : Nat) (hs : P s) : P (Machine.doInputQuery input s).1 := by
  unfold Machine.doInputQuery; (try dsimp only); (repeat' split) <;> (try dsimp only) <;> repeat (first | with_reducible assumption | intro)

theorem Stable.warmTrig (hP : Stable P) (hs : P s) : P (Machine.warmTrig s) := by
  unfold Machine.warmTrig; (try dsimp only); (repeat' split) <;> (try dsimp only) <;> repeat (first | with_reducible assumption | with_reducible apply hP.trig | intro)

theorem Stable.doAuxSet (hP : Stable P) (output value : Nat) (hs : P s) : P (Machine.doAuxSet output value s).1 := by
  unfold Machine.doAuxSet; (try dsimp only); (repeat' split) <;> (try dsimp only) <;> repeat (first | with_reducible assumption | with_reducible apply hP.trig | intro)

theorem Stable.doAuxQuery (hP : Stable P) (hs : P s) : P (Machine.doAuxQuery s).1 := by
  unfold Machine.doAuxQuery; (try dsimp only); (repeat' split) <;> (try dsimp only) <;> repeat (first | with_reducible assumption | intro)

/-! ## Cue lists -/

theorem Stable.doListWrite (hP : Stable P) (list first : Nat) (endFlag : Bool) (steps : List StepRec) (hs : P s) : P (Machine.doListWrite list first endFlag steps s).1 := by
  unfold Machine.doListWrite; (try dsimp only); (repeat' split) <;> (try dsimp only) <;> repeat (first | with_reducible assumption | with_reducible apply hP.modList | intro)

theorem Stable.doListErase (hP : Stable P) (list : Nat) (hs : P s) : P (Machine.doListErase list s).1 := by
  unfold Machine.doListErase; (try dsimp only); (repeat' split) <;> (try dsimp only) <;> repeat (first | with_reducible assumption | with_reducible apply hP.modList | intro)

theorem Stable.doListQuery (hP : Stable P) (list first count : Nat) (hs : P s) : P (Machine.doListQuery list first count s).1 := by
  unfold Machine.doListQuery; (try dsimp only); (repeat' split) <;> (try dsimp only) <;> repeat (first | with_reducible assumption | intro)

/-! ## Players -/

theorem Stable.goOn (hP : Stable P) (p : Fin 8) (stage : Stage) (hs : P s) : P (Machine.goOn p stage s) := by
  unfold Machine.goOn; (try dsimp only); (repeat' split) <;> (try dsimp only) <;> repeat (first | with_reducible assumption | with_reducible apply hP.later | intro)

theorem Stable.lineUp (hP : Stable P) (p : Fin 8) (stage : Stage) (hs : P s) : P (Machine.lineUp p stage s) := by
  unfold Machine.lineUp; (try dsimp only); (repeat' split) <;> (try dsimp only) <;> repeat (first | with_reducible assumption | with_reducible apply hP.modPlayer | with_reducible apply hP.laterRun | intro)

theorem Stable.assignTarget (h : Stable P) (x : Fin 57) (a : List (Fin 8) × State) (hs : P a.2) : P (assignTarget x a).2 := by
  unfold Machine.assignTarget
  split
  · exact hs
  · exact h.setHolder _ _ (h.modPlayer _ _ hs)

theorem Stable.assignTargets (h : Stable P) (l : List (Fin 57)) (a : List (Fin 8) × State) (hs : P a.2) :
    P (l.foldl (fun a x => Machine.assignTarget x a) a).2 := by
  induction l generalizing a with
  | nil => exact hs
  | cons x l ih => exact ih _ (h.assignTarget x a hs)

theorem Stable.releaseTargets (h : Stable P) (l : List (Fin 57)) (hs : P s) : P (releaseTargets l s) := by
  unfold Machine.releaseTargets
  exact h.forEach _ (fun q s hs => h.lineUp q .contend hs)
    (h.assignTargets l ([], _) (h.forEach _ (fun x s hs => h.setHolder x none hs) hs))

theorem Stable.startList (hP : Stable P) (p : Fin 8) (l : Fin 64) (hs : P s) : P (Machine.startList p l s) := by
  unfold Machine.startList; (try dsimp only); (repeat' split) <;> (try dsimp only) <;> repeat (first | with_reducible assumption | with_reducible apply hP.modPlayer | with_reducible apply hP.laterRun | intro)

theorem Stable.endRun (hP : Stable P) (p : Fin 8) (hs : P s) : P (Machine.endRun p s) := by
  unfold Machine.endRun; (try dsimp only); (repeat' split) <;> (try dsimp only) <;> repeat (first | with_reducible assumption | with_reducible apply hP.modPlayer | with_reducible apply hP.raise | with_reducible apply hP.releaseTargets | with_reducible apply hP.startList | intro)

theorem Stable.faultPlayer (hP : Stable P) (p : Fin 8) (code : PlayerFaultCode) (detail : Nat) (hs : P s) : P (Machine.faultPlayer p code detail s) := by
  unfold Machine.faultPlayer; (try dsimp only); (repeat' split) <;> (try dsimp only) <;> repeat (first | with_reducible assumption | with_reducible apply hP.modPlayer | with_reducible apply hP.raise | with_reducible apply hP.releaseTargets | intro)

theorem Stable.startPlayer (hP : Stable P) (p : Fin 8) (l : Fin 64) (policy : Policy) (hs : P s) : P (Machine.startPlayer p l policy s).1 := by
  unfold Machine.startPlayer; (try dsimp only); (repeat' split) <;> (try dsimp only) <;> repeat (first | with_reducible assumption | with_reducible apply hP.modPlayer | with_reducible apply hP.releaseTargets | with_reducible apply hP.startList | intro)

theorem Stable.issueAction (hP : Stable P) (r : StepRec) (hs : P s) : P (Machine.issueAction r s).1 := by
  unfold Machine.issueAction; (try dsimp only); (repeat' split) <;> (try dsimp only) <;> repeat (first | with_reducible assumption | with_reducible apply hP.doGroupSetMode | with_reducible apply hP.doGroupSetLevel | with_reducible apply hP.doGroupSetBlink | with_reducible apply hP.doAxisSpeed | with_reducible apply hP.doAxisStopAt | with_reducible apply hP.doAxisMove | with_reducible apply hP.doAxisHome | with_reducible apply hP.doAxisStop | with_reducible apply hP.doTrainSpeed | with_reducible apply hP.doTrainStop | with_reducible apply hP.doTrainRoute | with_reducible apply hP.doTrainRelease | with_reducible apply hP.doClockSetRate | with_reducible apply hP.doClockSetTime | with_reducible apply hP.doAuxSet | intro)

theorem Stable.issue (hP : Stable P) (p : Fin 8) (hs : P s) : P (Machine.issue p s) := by
  unfold Machine.issue; (try dsimp only); (repeat' split) <;> (try dsimp only) <;> repeat (first | with_reducible assumption | with_reducible apply hP.modPlayer | with_reducible apply hP.goOn | with_reducible apply hP.issueAction | intro)

theorem Stable.block (hP : Stable P) (p : Fin 8) (b : Blocked) (hs : P s) : P (Machine.block p b s) := by
  unfold Machine.block; (try dsimp only); (repeat' split) <;> (try dsimp only) <;> repeat (first | with_reducible assumption | with_reducible apply hP.modPlayer | intro)

theorem Stable.contendFor (hP : Stable P) (p : Fin 8) (x : Fin 57) (hs : P s) : P (Machine.contendFor p x s) := by
  unfold Machine.contendFor; (try dsimp only); (repeat' split) <;> (try dsimp only) <;> repeat (first | with_reducible assumption | with_reducible apply hP.setHolder | with_reducible apply hP.raise | with_reducible apply hP.issue | with_reducible apply hP.block | intro)

theorem Stable.jumpStep (hP : Stable P) (p : Fin 8) (i : Nat) (hs : P s) : P (Machine.jumpStep p i s) := by
  unfold Machine.jumpStep; (try dsimp only); (repeat' split) <;> (try dsimp only) <;> repeat (first | with_reducible assumption | with_reducible apply hP.modPlayer | with_reducible apply hP.goOn | intro)

theorem Stable.returnFrom (hP : Stable P) (p : Fin 8) (hs : P s) : P (Machine.returnFrom p s) := by
  unfold Machine.returnFrom; (try dsimp only); (repeat' split) <;> (try dsimp only) <;> repeat (first | with_reducible assumption | with_reducible apply hP.modPlayer | with_reducible apply hP.goOn | with_reducible apply hP.endRun | intro)

theorem Stable.callList (hP : Stable P) (p : Fin 8) (k : Nat) (hs : P s) : P (Machine.callList p k s) := by
  unfold Machine.callList; (try dsimp only); (repeat' split) <;> (try dsimp only) <;> repeat (first | with_reducible assumption | with_reducible apply hP.modPlayer | with_reducible apply hP.goOn | with_reducible apply hP.faultPlayer | intro)

theorem Stable.repeatBegin (hP : Stable P) (p : Fin 8) (r : StepRec) (hs : P s) : P (Machine.repeatBegin p r s) := by
  unfold Machine.repeatBegin; (try dsimp only); (repeat' split) <;> (try dsimp only) <;> repeat (first | with_reducible assumption | with_reducible apply hP.modPlayer | with_reducible apply hP.faultPlayer | with_reducible apply hP.jumpStep | intro)

theorem Stable.repeatEnd (hP : Stable P) (p : Fin 8) (hs : P s) : P (Machine.repeatEnd p s) := by
  unfold Machine.repeatEnd; (try dsimp only); (repeat' split) <;> (try dsimp only) <;> repeat (first | with_reducible assumption | with_reducible apply hP.modPlayer | with_reducible apply hP.jumpStep | intro)

theorem Stable.releaseStep (hP : Stable P) (p : Fin 8) (k : Nat) (hs : P s) : P (Machine.releaseStep p k s) := by
  unfold Machine.releaseStep; (try dsimp only); (repeat' split) <;> (try dsimp only) <;> repeat (first | with_reducible assumption | with_reducible apply hP.releaseTargets | intro)

theorem Stable.advanceStep (hP : Stable P) (p : Fin 8) (hs : P s) : P (Machine.advanceStep p s) := by
  unfold Machine.advanceStep; (try dsimp only); (repeat' split) <;> (try dsimp only) <;> repeat (first | with_reducible assumption | with_reducible apply hP.raise | with_reducible apply hP.jumpStep | with_reducible apply hP.returnFrom | with_reducible apply hP.callList | with_reducible apply hP.repeatBegin | with_reducible apply hP.repeatEnd | with_reducible apply hP.releaseStep | intro)

theorem Stable.beginWait (hP : Stable P) (p : Fin 8) (hs : P s) : P (Machine.beginWait p s) := by
  unfold Machine.beginWait; (try dsimp only); (repeat' split) <;> (try dsimp only) <;> repeat (first | with_reducible assumption | with_reducible apply hP.modPlayer | with_reducible apply hP.goOn | with_reducible apply hP.returnFrom | intro)

theorem Stable.contend (hP : Stable P) (p : Fin 8) (hs : P s) : P (Machine.contend p s) := by
  unfold Machine.contend; (try dsimp only); (repeat' split) <;> (try dsimp only) <;> repeat (first | with_reducible assumption | with_reducible apply hP.contendFor | with_reducible apply hP.advanceStep | intro)

theorem Stable.runStage (hP : Stable P) (p : Fin 8) (stage : Stage) (hs : P s) : P (Machine.runStage p stage s) := by
  unfold Machine.runStage; (try dsimp only); (repeat' split) <;> (try dsimp only) <;> repeat (first | with_reducible assumption | with_reducible apply hP.modPlayer | with_reducible apply hP.faultPlayer | with_reducible apply hP.advanceStep | with_reducible apply hP.beginWait | with_reducible apply hP.contend | intro)

theorem Stable.runOn (hP : Stable P) (n : Nat) (item : CueItem) (p : Fin 8) (hs : P s) : P (Machine.runOn n item p s) := by
  unfold Machine.runOn; (try dsimp only); (repeat' split) <;> (try dsimp only) <;> repeat (first | with_reducible assumption | with_reducible apply hP.modPlayer | with_reducible apply hP.lineUp | intro)

theorem Stable.offerItem (hP : Stable P) (n : Nat) (item : CueItem) (hs : P s) : P (Machine.offerItem n item s) := by
  unfold Machine.offerItem; (try dsimp only); (repeat' split) <;> (try dsimp only) <;> repeat (first | with_reducible assumption | with_reducible apply hP.cue | with_reducible apply hP.forEach | with_reducible apply hP.runOn | intro)

theorem Stable.waitExpire (hP : Stable P) (p : Fin 8) (hs : P s) : P (Machine.waitExpire p s) := by
  unfold Machine.waitExpire; (try dsimp only); (repeat' split) <;> (try dsimp only) <;> repeat (first | with_reducible assumption | with_reducible apply hP.modPlayer | with_reducible apply hP.lineUp | with_reducible apply hP.contend | intro)

theorem Stable.waitTimeOut (hP : Stable P) (p : Fin 8) (hs : P s) : P (Machine.waitTimeOut p s) := by
  unfold Machine.waitTimeOut; (try dsimp only); (repeat' split) <;> (try dsimp only) <;> repeat (first | with_reducible assumption | with_reducible apply hP.faultPlayer | intro)

theorem Stable.unblockInterlock (hP : Stable P) (hs : P s) : P (Machine.unblockInterlock s) := by
  unfold Machine.unblockInterlock; (try dsimp only); (repeat' split) <;> (try dsimp only) <;> repeat (first | with_reducible assumption | with_reducible apply hP.forEach | with_reducible apply hP.lineUp | with_reducible apply hP.contend | intro)

theorem Stable.doPlayerStart (hP : Stable P) (player list policy : Nat) (hs : P s) : P (Machine.doPlayerStart player list policy s).1 := by
  unfold Machine.doPlayerStart; (try dsimp only); (repeat' split) <;> (try dsimp only) <;> repeat (first | with_reducible assumption | with_reducible apply hP.startPlayer | intro)

theorem Stable.doPlayerStop (hP : Stable P) (player : Nat) (hs : P s) : P (Machine.doPlayerStop player s).1 := by
  unfold Machine.doPlayerStop; (try dsimp only); (repeat' split) <;> (try dsimp only) <;> repeat (first | with_reducible assumption | with_reducible apply hP.modPlayer | with_reducible apply hP.releaseTargets | intro)

theorem Stable.doPlayerPause (hP : Stable P) (player : Nat) (hs : P s) : P (Machine.doPlayerPause player s).1 := by
  unfold Machine.doPlayerPause; (try dsimp only); (repeat' split) <;> (try dsimp only) <;> repeat (first | with_reducible assumption | with_reducible apply hP.modPlayer | intro)

theorem Stable.resumePlayer (hP : Stable P) (p : Fin 8) (hs : P s) : P (Machine.resumePlayer p s) := by
  unfold Machine.resumePlayer; (try dsimp only); (repeat' split) <;> (try dsimp only) <;> repeat (first | with_reducible assumption | with_reducible apply hP.modPlayer | with_reducible apply hP.lineUp | with_reducible apply hP.contend | intro)

theorem Stable.doPlayerResume (hP : Stable P) (player : Nat) (hs : P s) : P (Machine.doPlayerResume player s).1 := by
  unfold Machine.doPlayerResume; (try dsimp only); (repeat' split) <;> (try dsimp only) <;> repeat (first | with_reducible assumption | with_reducible apply hP.resumePlayer | intro)

theorem Stable.doPlayerPriority (hP : Stable P) (player priority : Nat) (hs : P s) : P (Machine.doPlayerPriority player priority s).1 := by
  unfold Machine.doPlayerPriority; (try dsimp only); (repeat' split) <;> (try dsimp only) <;> repeat (first | with_reducible assumption | with_reducible apply hP.modPlayer | intro)

theorem Stable.doPlayerQuery (hP : Stable P) (player : Nat) (hs : P s) : P (Machine.doPlayerQuery player s).1 := by
  unfold Machine.doPlayerQuery; (try dsimp only); (repeat' split) <;> (try dsimp only) <;> repeat (first | with_reducible assumption | intro)

theorem Stable.warmCue (hP : Stable P) (hs : P s) : P (Machine.warmCue s) := by
  unfold Machine.warmCue; (try dsimp only); (repeat' split) <;> (try dsimp only) <;> repeat (first | with_reducible assumption | with_reducible apply hP.cue | intro)

/-! ## Triggers -/

theorem Stable.applyTrigger (hP : Stable P) (k : Fin 32) (hs : P s) : P (Machine.applyTrigger k s) := by
  unfold Machine.applyTrigger; (try dsimp only); (repeat' split) <;> (try dsimp only) <;> repeat (first | with_reducible assumption | with_reducible apply hP.modTrigger | with_reducible apply hP.startPlayer | intro)

theorem Stable.doTriggerSet (hP : Stable P) (trigger : Nat) (r : RawTrigger) (hs : P s) : P (Machine.doTriggerSet trigger r s).1 := by
  unfold Machine.doTriggerSet; (try dsimp only); (repeat' split) <;> (try dsimp only) <;> repeat (first | with_reducible assumption | with_reducible apply hP.modTrigger | intro)

theorem Stable.doTriggerEnable (hP : Stable P) (trigger : Nat) (flag : Bool) (hs : P s) : P (Machine.doTriggerEnable trigger flag s).1 := by
  unfold Machine.doTriggerEnable; (try dsimp only); (repeat' split) <;> (try dsimp only) <;> repeat (first | with_reducible assumption | with_reducible apply hP.modTrigger | intro)

theorem Stable.doTriggerQuery (hP : Stable P) (trigger : Nat) (hs : P s) : P (Machine.doTriggerQuery trigger s).1 := by
  unfold Machine.doTriggerQuery; (try dsimp only); (repeat' split) <;> (try dsimp only) <;> repeat (first | with_reducible assumption | intro)

theorem Stable.doTriggerClearCounts (hP : Stable P) (trigger : Nat) (hs : P s) : P (Machine.doTriggerClearCounts trigger s).1 := by
  unfold Machine.doTriggerClearCounts; (try dsimp only); (repeat' split) <;> (try dsimp only) <;> repeat (first | with_reducible assumption | with_reducible apply hP.modTrigger | intro)

/-! ## Supply Sequencer -/

theorem Stable.railReaction (hP : Stable P) (r : Rail) (up : Bool) (hs : P s) : P (Machine.railReaction r up s) := by
  unfold Machine.railReaction; (try dsimp only); (repeat' split) <;> (try dsimp only) <;> repeat (first | with_reducible assumption | with_reducible apply hP.sodiumRailDown | with_reducible apply hP.motionDown | with_reducible apply hP.motionUp | with_reducible apply hP.resyncAll | with_reducible apply hP.emergencyStop | intro)

theorem Stable.railChanged (hP : Stable P) (old : Rails) (r : Rail) (hs : P s) : P (Machine.railChanged old r s) := by
  unfold Machine.railChanged; (try dsimp only); (repeat' split) <;> (try dsimp only) <;> repeat (first | with_reducible assumption | with_reducible apply hP.raise | with_reducible apply hP.railReaction | intro)

theorem Stable.setRails (hP : Stable P) (pattern : Rails) (hs : P s) : P (Machine.setRails pattern s) := by
  unfold Machine.setRails; (try dsimp only); (repeat' split) <;> (try dsimp only) <;> repeat (first | with_reducible assumption | with_reducible apply hP.supply | with_reducible apply hP.forEach | with_reducible apply hP.railChanged | intro)

theorem Stable.startProgram (hP : Stable P) (p : Program) (hs : P s) : P (Machine.startProgram p s).1 := by
  unfold Machine.startProgram; (try dsimp only); (repeat' split) <;> (try dsimp only) <;> repeat (first | with_reducible assumption | with_reducible apply hP.supply | intro)

theorem Stable.doRailRaise (hP : Stable P) (hs : P s) : P (Machine.doRailRaise s).1 := by
  unfold Machine.doRailRaise; (try dsimp only); (repeat' split) <;> (try dsimp only) <;> repeat (first | with_reducible assumption | with_reducible apply hP.raise | with_reducible apply hP.startProgram | intro)

theorem Stable.doRailLower (hP : Stable P) (hs : P s) : P (Machine.doRailLower s).1 := by
  unfold Machine.doRailLower; (try dsimp only); (repeat' split) <;> (try dsimp only) <;> repeat (first | with_reducible assumption | with_reducible apply hP.startProgram | intro)

theorem Stable.programStep (hP : Stable P) (hs : P s) : P (Machine.programStep s) := by
  unfold Machine.programStep; (try dsimp only); (repeat' split) <;> (try dsimp only) <;> repeat (first | with_reducible assumption | with_reducible apply hP.supply | with_reducible apply hP.raise | with_reducible apply hP.setRails | intro)

theorem Stable.doRailProgram (hP : Stable P) (program : Nat) (steps : List (Nat × Nat)) (hs : P s) : P (Machine.doRailProgram program steps s).1 := by
  unfold Machine.doRailProgram; (try dsimp only); (repeat' split) <;> (try dsimp only) <;> repeat (first | with_reducible assumption | with_reducible apply hP.supply | with_reducible apply hP.raise | intro)

theorem Stable.doRailSet (hP : Stable P) (pattern : Nat) (hs : P s) : P (Machine.doRailSet pattern s).1 := by
  unfold Machine.doRailSet; (try dsimp only); (repeat' split) <;> (try dsimp only) <;> repeat (first | with_reducible assumption | with_reducible apply hP.setRails | intro)

theorem Stable.onsetCutoff (hP : Stable P) (hs : P s) : P (Machine.onsetCutoff s) := by
  unfold Machine.onsetCutoff; (try dsimp only); (repeat' split) <;> (try dsimp only) <;> repeat (first | with_reducible assumption | with_reducible apply hP.supply | with_reducible apply hP.raise | with_reducible apply hP.emergencyStop | intro)

theorem Stable.lockout (hP : Stable P) (hs : P s) : P (Machine.lockout s) := by
  unfold Machine.lockout; (try dsimp only); (repeat' split) <;> (try dsimp only) <;> repeat (first | with_reducible assumption | with_reducible apply hP.supply | with_reducible apply hP.raise | with_reducible apply hP.setRails | intro)

theorem Stable.overloadOnset (hP : Stable P) (hs : P s) : P (Machine.overloadOnset s) := by
  unfold Machine.overloadOnset; (try dsimp only); (repeat' split) <;> (try dsimp only) <;> repeat (first | with_reducible assumption | with_reducible apply hP.supply | with_reducible apply hP.onsetCutoff | with_reducible apply hP.lockout | intro)

theorem Stable.overloadClear (hP : Stable P) (hs : P s) : P (Machine.overloadClear s) := by
  unfold Machine.overloadClear; (try dsimp only); (repeat' split) <;> (try dsimp only) <;> repeat (first | with_reducible assumption | with_reducible apply hP.supply | intro)

theorem Stable.sampleOverload (hP : Stable P) (hs : P s) : P (Machine.sampleOverload s) := by
  unfold Machine.sampleOverload; (try dsimp only); (repeat' split) <;> (try dsimp only) <;> repeat (first | with_reducible assumption | with_reducible apply hP.supply | with_reducible apply hP.sched | with_reducible apply hP.overloadOnset | with_reducible apply hP.overloadClear | intro)

theorem Stable.overloadFinish (hP : Stable P) (hs : P s) : P (Machine.overloadFinish s) := by
  unfold Machine.overloadFinish; (try dsimp only); (repeat' split) <;> (try dsimp only) <;> repeat (first | with_reducible assumption | with_reducible apply hP.supply | with_reducible apply hP.raise | with_reducible apply hP.resyncAll | intro)

theorem Stable.quietExpire (hP : Stable P) (hs : P s) : P (Machine.quietExpire s) := by
  unfold Machine.quietExpire; (try dsimp only); (repeat' split) <;> (try dsimp only) <;> repeat (first | with_reducible assumption | with_reducible apply hP.supply | intro)

theorem Stable.dressingOn (hP : Stable P) (hs : P s) : P (Machine.dressingOn s) := by
  unfold Machine.dressingOn; (try dsimp only); (repeat' split) <;> (try dsimp only) <;> repeat (first | with_reducible assumption | with_reducible apply hP.raise | with_reducible apply hP.forEach | with_reducible apply hP.holdAxes | with_reducible apply hP.emergencyStop | with_reducible apply hP.suspendCrossing | intro)

theorem Stable.dressingOff (hP : Stable P) (hs : P s) : P (Machine.dressingOff s) := by
  unfold Machine.dressingOff; (try dsimp only); (repeat' split) <;> (try dsimp only) <;> repeat (first | with_reducible assumption | with_reducible apply hP.raise | with_reducible apply hP.later | with_reducible apply hP.forEach | with_reducible apply hP.releaseAxes | with_reducible apply hP.resyncAll | with_reducible apply hP.recommandCrossing | with_reducible apply hP.unblockInterlock | intro)

theorem Stable.sampleKey (hP : Stable P) (hs : P s) : P (Machine.sampleKey s) := by
  unfold Machine.sampleKey; (try dsimp only); (repeat' split) <;> (try dsimp only) <;> repeat (first | with_reducible assumption | with_reducible apply hP.supply | with_reducible apply hP.sched | with_reducible apply hP.dressingOn | with_reducible apply hP.dressingOff | intro)

theorem Stable.doSupplyQuery (hP : Stable P) (hs : P s) : P (Machine.doSupplyQuery s).1 := by
  unfold Machine.doSupplyQuery; (try dsimp only); (repeat' split) <;> (try dsimp only) <;> repeat (first | with_reducible assumption | with_reducible apply hP.raise | intro)

/-! ## Light frame -/

theorem Stable.composeAll (hP : Stable P) (hs : P s) : P (Machine.composeAll s) := by
  unfold Machine.composeAll; (try dsimp only); (repeat' split) <;> (try dsimp only) <;> repeat (first | with_reducible assumption | with_reducible apply hP.light | intro)

theorem Stable.sendDuties (hP : Stable P) (hs : P s) : P (Machine.sendDuties s) := by
  unfold Machine.sendDuties; (try dsimp only); (repeat' split) <;> (try dsimp only) <;> repeat (first | with_reducible assumption | with_reducible apply hP.outs | intro)

theorem Stable.lightFrame (hP : Stable P) (hs : P s) : P (Machine.lightFrame s) := by
  unfold Machine.lightFrame; (try dsimp only); (repeat' split) <;> (try dsimp only) <;> repeat (first | with_reducible assumption | with_reducible apply hP.sched | with_reducible apply hP.advanceFades | with_reducible apply hP.advanceBlinks | with_reducible apply hP.composeAll | with_reducible apply hP.sendDuties | intro)

/-! ## The end of a handling -/

theorem Stable.doTask (hP : Stable P) (t : Task) (hs : P s) : P (Machine.doTask t s) := by
  unfold Machine.doTask; (try dsimp only); (repeat' split) <;> (try dsimp only) <;> repeat (first | with_reducible assumption | with_reducible apply hP.examineHead | with_reducible apply hP.completeGrant | with_reducible apply hP.testClaim | with_reducible apply hP.expireSec | with_reducible apply hP.gateSeen | with_reducible apply hP.runStage | intro)

theorem Stable.runFirst (h : Stable P) {f : State → State} (hf : ∀ s, P s → P (f s)) (hs : P s) : P (runFirst f s) :=
  h.work _ (hf _ (h.work _ hs))

theorem Stable.settleOne (h : Stable P) {s' : State} (hs : P s) (e : settleOne s = some s') : P s' := by
  unfold Machine.settleOne at e
  split at e <;> cases e
  · exact h.runFirst (fun _ => h.doTask _) (h.work _ hs)
  · exact h.runStage _ _ (h.work _ hs)
  · exact h.offerItem _ _ (h.work _ hs)
  · exact h.applyTrigger _ (h.work _ hs)
  · exact h.work _ hs

theorem Stable.settleN (h : Stable P) (n : Nat) (hs : P s) : P (settleN n s) := by
  induction n generalizing s with
  | zero => exact hs
  | succ n ih =>
    unfold Machine.settleN
    split
    · next e => exact ih (h.settleOne hs e)
    · exact hs

theorem Stable.settle (h : Stable P) (hs : P s) : P (settle s) := h.settleN _ hs

end Sys2Proof.Machine
end

