-- ==== Sys2Proof/Laws/Handle.lean ====
section
/-! SUPPORT. What the handling of a request keeps, block by block, and how a request that is taken at once runs to its reply. -/

namespace Sys2Proof.Machine

/-! ## What a handling keeps -/

/-- The two requests with which the Show Link changes its own records (R168, R170). -/
def Request.ofLink : Request → Bool
  | .reset _ | .noticeMask _ => true
  | _ => false

variable {P : State → Prop} {s : State}

/-- The handling of a request keeps every stable property, the Show Link's own two apart (R166). -/
theorem Stable.handle (h : Stable P) (r : Request) (hr : Request.ofLink r = false) (hs : P s) : P (Machine.handle r s).1 :=
  match r with
  | .identify => hs
  | .status => hs
  | .reset _ => by simp [Request.ofLink] at hr
  | .noticeMask _ => by simp [Request.ofLink] at hr
  | .clockSetRate p m q glide => h.doClockSetRate p m q glide hs
  | .clockHold => h.doClockHold hs
  | .clockRun => h.doClockRun hs
  | .clockSetTime target mode => h.doClockSetTime target mode hs
  | .clockQuery => h.doClockQuery hs
  | .groupSetMode group mode => h.doGroupSetMode group mode hs
  | .groupSetCurve group points => h.doGroupSetCurve group points hs
  | .groupConfig group rounding gamma => h.doGroupConfig group rounding gamma hs
  | .groupSetLevel group level duration base => h.doGroupSetLevel group level duration base hs
  | .groupSetBlink group form on off burst => h.doGroupSetBlink group form on off burst hs
  | .gammaWrite table entries => h.doGammaWrite table entries hs
  | .gammaQuery table => h.doGammaQuery table hs
  | .channelConfig channel group kind trim binding warm restrike => h.doChannelConfig channel group kind trim binding warm restrike hs
  | .pwmMap output channel => h.doPwmMap output channel hs
  | .chainLength chain length => h.doChainLength chain length hs
  | .segmentSet segment chain first count channel => h.doSegmentSet segment chain first count channel hs
  | .segmentClear segment => h.doSegmentClear segment hs
  | .groupQuery group => h.doGroupQuery group hs
  | .channelQuery channel => h.doChannelQuery channel hs
  | .layoutOpen => h.doLayoutOpen hs
  | .layoutClose => h.doLayoutClose hs
  | .sectionDefine sec linkA linkB clearance filter => h.doSectionDefine sec linkA linkB clearance filter hs
  | .sectionForget sec => h.doSectionForget sec hs
  | .pointDefine point d => h.doPointDefine point d hs
  | .crossingDefine crossing d => h.doCrossingDefine crossing d hs
  | .layoutQuery cls index => h.doLayoutQuery cls index hs
  | .pointThrow point position => h.doPointThrow point position hs
  | .throwUnitConfig recharge => h.doThrowUnitConfig recharge hs
  | .gateRetry crossing => h.doGateRetry crossing hs
  | .sectionQuery sec => h.doSectionQuery sec hs
  | .crossingQuery crossing => h.doCrossingQuery crossing hs
  | .throwQuery => h.doThrowQuery hs
  | .trainConfig train maxSpeed accel decel => h.doTrainConfig train maxSpeed accel decel hs
  | .trainPlace train secs => h.doTrainPlace train secs hs
  | .trainRemove train => h.doTrainRemove train hs
  | .trainSpeed train speed => h.doTrainSpeed train speed hs
  | .trainStop train => h.doTrainStop train hs
  | .trainRoute train mode secs => h.doTrainRoute train mode secs hs
  | .trainRelease train => h.doTrainRelease train hs
  | .trainDirection train => h.doTrainDirection train hs
  | .trainClearFault train => h.doTrainClearFault train hs
  | .trainQuery train => h.doTrainQuery train hs
  | .axisConfig axis cfg => h.doAxisConfig axis cfg hs
  | .axisSpeed axis speed direction => h.doAxisSpeed axis speed direction hs
  | .axisStopAt axis angle => h.doAxisStopAt axis angle hs
  | .axisMove axis position => h.doAxisMove axis position hs
  | .axisHome axis => h.doAxisHome axis hs
  | .axisStop axis => h.doAxisStop axis hs
  | .axisQuery axis => h.doAxisQuery axis hs
  | .listWrite list first endFlag steps => h.doListWrite list first endFlag steps hs
  | .listErase list => h.doListErase list hs
  | .listQuery list first count => h.doListQuery list first count hs
  | .playerStart player list policy => h.doPlayerStart player list policy hs
  | .playerStop player => h.doPlayerStop player hs
  | .playerPause player => h.doPlayerPause player hs
  | .playerResume player => h.doPlayerResume player hs
  | .playerPriority player priority => h.doPlayerPriority player priority hs
  | .playerQuery player => h.doPlayerQuery player hs
  | .inputConfig input debounce => h.doInputConfig input debounce hs
  | .counterConfig input mode edge reload => h.doCounterConfig input mode edge reload hs
  | .inputQuery input => h.doInputQuery input hs
  | .auxSet output value => h.doAuxSet output value hs
  | .auxQuery => h.doAuxQuery hs
  | .triggerSet trigger record => h.doTriggerSet trigger record hs
  | .triggerEnable trigger flag => h.doTriggerEnable trigger flag hs
  | .triggerQuery trigger => h.doTriggerQuery trigger hs
  | .triggerClearCounts trigger => h.doTriggerClearCounts trigger hs
  | .railProgram program steps => h.doRailProgram program steps hs
  | .railRaise => h.doRailRaise hs
  | .railLower => h.doRailLower hs
  | .railSet pattern => h.doRailSet pattern hs
  | .supplyQuery => h.doSupplyQuery hs

/-- A property of the records that only the Show Link's own steps change: everything but those keeps it. -/
theorem stable_port {Q : Receiver → List Slot → List Reply → BitVec 9 → Option Scope → Pins → List Instr → Prop} :
    Stable fun s => Q s.link.rx s.link.slots s.link.replies s.link.mask s.link.resetWaiting s.pins s.pending where
  light _ h := h
  track _ h := h
  trains _ h := h
  axes _ h := h
  cue _ h := h
  trig _ h := h
  supply _ h := h
  sched _ h := h
  outs _ h := h
  work _ h := h
  raise := by intro s e h; simpa using h
  setRate _ _ _ _ _ h := h
  hold h := h
  resume h := h
  jump _ _ h := h
  lock h := h
  glide _ _ h := h

/-- A transmitter that has a frame to send, or a reply to wait for, is moved by nothing but the Show Link's own steps (R166, R167). -/
theorem stable_sending (x : Transmitter) : Stable fun s => s.link.idles = false ∧ s.link.tx = x where
  light _ h := h
  track _ h := h
  trains _ h := h
  axes _ h := h
  cue _ h := h
  trig _ h := h
  supply _ h := h
  sched _ h := h
  outs _ h := h
  work _ h := h
  raise := by
    intro s e h
    have htx := State.raise_link_tx s e h.1
    refine ⟨?_, htx.trans h.2⟩
    rw [ShowLink.idles, htx, State.raise_link_replies, State.raise_link_slots]
    exact h.1
  setRate _ _ _ _ _ h := h
  hold h := h
  resume h := h
  jump _ _ h := h
  lock h := h
  glide _ _ h := h

/-- No block's work touches the receiver, the slots, the replies, the mask, a waiting RESET, the pins or the waiting commands. -/
theorem settle_port (s : State) :
    (settle s).link.rx = s.link.rx ∧ (settle s).link.slots = s.link.slots ∧ (settle s).link.replies = s.link.replies ∧
      (settle s).link.mask = s.link.mask ∧ (settle s).link.resetWaiting = s.link.resetWaiting ∧
      (settle s).pins = s.pins ∧ (settle s).pending = s.pending :=
  (stable_port (Q := fun a b c d f g i => a = s.link.rx ∧ b = s.link.slots ∧ c = s.link.replies ∧ d = s.link.mask ∧
    f = s.link.resetWaiting ∧ g = s.pins ∧ i = s.pending)).settle ⟨rfl, rfl, rfl, rfl, rfl, rfl, rfl⟩

/-- No block's handling of a request touches them either. -/
theorem handle_port (r : Request) (hr : Request.ofLink r = false) (s : State) :
    (handle r s).1.link.rx = s.link.rx ∧ (handle r s).1.link.slots = s.link.slots ∧ (handle r s).1.link.replies = s.link.replies ∧
      (handle r s).1.link.mask = s.link.mask ∧ (handle r s).1.link.resetWaiting = s.link.resetWaiting ∧
      (handle r s).1.pins = s.pins ∧ (handle r s).1.pending = s.pending :=
  (stable_port (Q := fun a b c d f g i => a = s.link.rx ∧ b = s.link.slots ∧ c = s.link.replies ∧ d = s.link.mask ∧
    f = s.link.resetWaiting ∧ g = s.pins ∧ i = s.pending)).handle r hr ⟨rfl, rfl, rfl, rfl, rfl, rfl, rfl⟩

/-! ## Work -/

/-- Without work nothing is carried out. -/
theorem settleOne_clear (h : s.work.isClear = true) : settleOne s = none := by
  obtain ⟨⟨⟨⟨h1, h2⟩, h3⟩, h4⟩, h5⟩ : (((s.work.stack = [] ∧ s.work.runs = []) ∧ s.work.held = []) ∧ s.work.matched = []) ∧ s.work.events = [] := by
    simpa [Work.isClear] using h
  have : s.work = { stack := [], runs := [], held := [], matched := [], events := [], arrival := s.work.arrival } := by
    cases hw : s.work; simp_all
  unfold settleOne
  rw [this]

theorem settleN_clear (h : s.work.isClear = true) (n : Nat) : settleN n s = s := by
  cases n with
  | zero => rfl
  | succ n => unfold settleN; rw [settleOne_clear h]

@[simp] theorem settle_clear (h : s.work.isClear = true) : settle s = s := settleN_clear h _

/-! ## A request taken at once -/

theorem markTaken_append {l : List Slot} (h : l.all Slot.taken = true) (f : Frame) :
    markTaken (l ++ [{ frame := f, taken := false }]) = l ++ [{ frame := f, taken := true }] := by
  induction l with
  | nil => rfl
  | cons x l ih =>
    simp only [List.all_cons, Bool.and_eq_true] at h
    simp [markTaken, h.1, ih h.2]

theorem waiting_append {l : List Slot} (h : l.all Slot.taken = true) (f : Frame) :
    (l ++ [({ frame := f, taken := false } : Slot)]).find? (fun x => !x.taken) = some { frame := f, taken := false } := by
  induction l with
  | nil => rfl
  | cons x l ih =>
    simp only [List.all_cons, Bool.and_eq_true] at h
    rw [List.cons_append, List.find?_cons_of_neg (by simp [h.1]), ih h.2]

/-- With every slot taken no request is taken. -/
theorem takeRequests_taken (h : s.link.slots.all Slot.taken = true) (n : Nat) : takeRequests n s = s := by
  cases n with
  | zero => rfl
  | succ n =>
    have : s.link.waitingFrame = none := by
      simp only [ShowLink.waitingFrame, Option.map_eq_none_iff, List.find?_eq_none]
      intro x hx
      simp [List.all_eq_true.mp h x hx]
    unfold takeRequests
    rw [this]
    split <;> rfl

/-- A frame that is taken at once (R165, R166): its request is handled with the frame in its slot, what follows happens, and the
reply is appended. -/
theorem takeAll_ready (h : s.ready = true) (f : Frame) :
    takeAll (settle (placeFrame f s)) = takeRequests 3 (takeOne f (s.modLink (ShowLink.hold f))) := by
  simp only [State.ready, Bool.and_eq_true, decide_eq_true_eq] at h
  obtain ⟨⟨⟨h1, h2⟩, h3⟩, h4⟩ := h
  have hw : (s.modLink (ShowLink.hold f)).work.isClear = true := h1
  unfold placeFrame
  rw [if_pos h3, settle_clear hw]
  have hr : (s.modLink (ShowLink.hold f)).link.resetWaiting.isSome = false := by
    have : s.link.resetWaiting = none := by simpa using h2
    simp [ShowLink.hold, this]
  have hf : (s.modLink (ShowLink.hold f)).link.waitingFrame = some f := by
    simp only [State.modLink_link, ShowLink.waitingFrame, ShowLink.hold, waiting_append h4, Option.map_some]
  unfold takeAll Config.slotCount
  rw [takeRequests, hr, hf]
  rfl

/-- What a request's command does when it is taken at once (R165 to R167): the handling by its block, all that follows, the reply. -/
theorem perform_deliver (h : s.ready = true) (tag : Nat) (r : Request) (hr : Request.ofLink r = false) :
    perform (deliver (requestFrame tag r)) s =
      .next ((handle r (s.taking tag r)).1.replied tag r (handle r (s.taking tag r)).2) := by
  have h0 := h
  simp only [State.ready, Bool.and_eq_true, decide_eq_true_eq] at h
  obtain ⟨⟨⟨h1, h2⟩, -⟩, h4⟩ := h
  have hn : s.link.resetWaiting = none := by simpa using h2
  unfold perform deliver
  rw [if_pos h1, takeAll_ready h0]
  have hk : (s.modLink (ShowLink.hold (requestFrame tag r))).modLink (fun l => { l with slots := markTaken l.slots }) = s.taking tag r := by
    simp only [State.modLink, State.taking, ShowLink.hold]
    rw [markTaken_append h4]
  have ho : takeOne (requestFrame tag r) (s.modLink (ShowLink.hold (requestFrame tag r))) =
      (settle (handle r (s.taking tag r)).1).modLink
        (ShowLink.addReply (replyTo (requestFrame tag r) (handle r (s.taking tag r)).2 .request)) := by
    have hs := settle_port (handle r (s.taking tag r)).1
    have hp := handle_port r hr (s.taking tag r)
    have hq : (settle (handle r (s.taking tag r)).1).link.resetWaiting = none := by
      rw [hs.2.2.2.2.1, hp.2.2.2.2.1]
      exact hn
    unfold takeOne
    rw [hk]
    simp only [handleBody, requestFrame] at *
    rw [hq]
    rfl
  rw [ho, takeRequests_taken]
  · rfl
  · have hs := settle_port (handle r (s.taking tag r)).1
    have hp := handle_port r hr (s.taking tag r)
    simp only [State.modLink_link, ShowLink.addReply]
    rw [hs.2.1, hp.2.1]
    simp [State.taking, h4]

end Sys2Proof.Machine
end

