-- ==== Sys2Proof/Laws/Table.lean ====
section
/-! SUPPORT. Reading a table after a change of it, and reading a loop. -/

namespace Sys2Proof.Table

variable {α β : Type} {n : Nat}

/-- Two tables with the same records are equal. -/
theorem ext_get {t u : Table α n} (h : ∀ i, t.get i = u.get i) : t = u := by
  obtain ⟨a, ha⟩ := t
  obtain ⟨b, hb⟩ := u
  have : a = b := by
    apply List.ext_getElem (by rw [ha, hb])
    intro i h1 h2
    exact h ⟨i, by rw [← ha]; exact h1⟩
  subst this
  rfl

@[simp] theorem get_set_self (t : Table α n) (i : Fin n) (a : α) : (t.set i a).get i = a := by
  simp [get, set]

theorem get_set_ne (t : Table α n) {i j : Fin n} (a : α) (h : j ≠ i) : (t.set i a).get j = t.get j := by
  have : i.1 ≠ j.1 := fun e => h (Fin.ext e.symm)
  simp [get, set, this]

/-- A record after a change at one index. -/
theorem get_set (t : Table α n) (i j : Fin n) (a : α) : (t.set i a).get j = if j = i then a else t.get j := by
  by_cases h : j = i
  · subst h; simp
  · rw [get_set_ne t a h, if_neg h]

@[simp] theorem get_modify_self (t : Table α n) (i : Fin n) (f : α → α) : (t.modify i f).get i = f (t.get i) := by
  simp [modify]

theorem get_modify_ne (t : Table α n) {i j : Fin n} (f : α → α) (h : j ≠ i) : (t.modify i f).get j = t.get j := get_set_ne t _ h

@[simp] theorem get_map (t : Table α n) (f : α → β) (i : Fin n) : (t.map f).get i = f (t.get i) := by
  simp [get, map]

@[simp] theorem get_replicate (a : α) (i : Fin n) : (replicate n a).get i = a := by
  simp [get, replicate]

@[simp] theorem get_ofFn (f : Fin n → α) (i : Fin n) : (ofFn f).get i = f i := by
  simp [get, ofFn]

/-- Setting a record to what it is changes nothing. -/
@[simp] theorem set_get (t : Table α n) (i : Fin n) : t.set i (t.get i) = t := by
  apply ext_get
  intro j
  rw [get_set]
  split
  · next h => rw [h]
  · rfl

end Sys2Proof.Table

namespace Sys2Proof

/-- An index is read back as itself. -/
@[simp] theorem fin?_val {n : Nat} (i : Fin n) : fin? n i.1 = some i := by simp [fin?]

/-- A number within a table's size is read as an index of it. -/
theorem fin?_of_lt {n k : Nat} (h : k < n) : fin? n k = some ⟨k, h⟩ := by simp [fin?, h]

/-- A number beyond a table's size is no index of it. -/
theorem fin?_of_le {n k : Nat} (h : n ≤ k) : fin? n k = none := by simp [fin?, Nat.not_lt.mpr h]

end Sys2Proof
end

