-- ==== Sys2Proof/Tests/Slice0.lean ====
section
/-! SUPPORT. The model's own tests: an ill-formed term for each check of WellFormed, the frame check and frames written out byte
by byte, worked examples of spec/ with the values it gives, and for each statement a concrete state and operands that meet its
hypotheses, clause by clause. -/

namespace Sys2Proof.Tests

open Sys2Proof Sys2Proof.Machine

/- One test at a time: each kernel evaluation waits for the theorems before it, and a hundred waiting threads are too many. -/
set_option Elab.async false

/-! ## Well-formedness: one refused term for each check -/

def noBind : RawBinding := { item := 0, aspect := 0, start := 0, width := 0 }

def noLink : RawLink := { kind := 0, index := 0, fin := 0 }

def axisCfg : RawAxisConfig :=
  { kind := 0, maxSpeed := 1000, accel := 10, creep := 50, spr := 3200, offset := 0, tolerance := 20, low := -10000, high := 10000
    openPos := 0, closedPos := 1000 }

theorem test_wf_good : (Instr.axisConfig 255 7 axisCfg).wellFormed = true := by decide
theorem test_wf_tag : (Instr.identify 256).wellFormed = false := by decide
theorem test_wf_byte : (Instr.auxSet 0 256 0).wellFormed = false ∧ (Instr.auxSet 0 0 256).wellFormed = false := by decide
theorem test_wf_word : (Instr.inputConfig 0 0 65536).wellFormed = false := by decide
theorem test_wf_long : (Instr.clockSetTime 0 4294967296 0).wellFormed = false := by decide
theorem test_wf_signed_word : (Instr.channelConfig 0 0 0 0 32768 noBind 0 0).wellFormed = false := by decide
theorem test_wf_signed_long : (Instr.axisMove 0 0 (-2147483649)).wellFormed = false := by decide
theorem test_wf_link : (Instr.sectionDefine 0 0 { noLink with fin := 256 } noLink 0 0).wellFormed = false := by decide
theorem test_wf_binding :
    (Instr.channelConfig 0 0 0 0 0 { noBind with item := 1 } 0 0).wellFormed = false ∧
      (Instr.channelConfig 0 0 0 2 0 { noBind with start := 1 } 0 0).wellFormed = false ∧
      (Instr.channelConfig 0 0 0 3 0 { noBind with width := 65536 } 0 0).wellFormed = false ∧
      (Instr.channelConfig 0 0 0 4 0 { noBind with aspect := 1 } 0 0).wellFormed = false := by decide
theorem test_wf_point : (Instr.pointDefine 0 0 (some ⟨256, 0, 0, 1, 0, 50⟩)).wellFormed = false := by decide
theorem test_wf_crossing : (Instr.crossingDefine 0 0 (some ⟨0, 0, 500, [0, 1, 2, 3, 4]⟩)).wellFormed = false := by decide
theorem test_wf_axis_config : (Instr.axisConfig 0 0 { axisCfg with low := -2147483649 }).wellFormed = false := by decide
theorem test_wf_step : (Instr.listWrite 0 0 0 true [{ noneStep with p1 := 65536 }]).wellFormed = false := by decide
theorem test_wf_trigger : (Instr.triggerSet 0 0 ⟨true, 256, 0, 0, 0, 0, 0⟩).wellFormed = false := by decide
theorem test_wf_lengths :
    (Instr.gammaWrite 0 0 (List.replicate 16 0)).wellFormed = false ∧ (Instr.railProgram 0 0 [(0, 0)]).wellFormed = false ∧
      (Instr.groupSetCurve 0 0 (List.replicate 17 (0, 0))).wellFormed = false ∧ (Instr.trainPlace 0 0 []).wellFormed = false ∧
      (Instr.trainRoute 0 0 0 (List.replicate 13 0)).wellFormed = false ∧
      (Instr.listWrite 0 0 0 false (List.replicate 18 noneStep)).wellFormed = false := by decide
theorem test_wf_none_channel : (Instr.pwmMap 0 0 (some 65535)).wellFormed = false := by decide
theorem test_wf_unknown_kind :
    (Instr.unknownKind 0x01 0 []).wellFormed = false ∧ (Instr.unknownKind 0x05 0 (List.replicate 249 0)).wellFormed = false ∧
      (Instr.unknownKind 0x05 0 []).wellFormed = true := by decide +kernel
theorem test_wf_byte_in : (Instr.receiveByte 256 0).wellFormed = false := by decide
theorem test_wf_items :
    (Instr.fadeDone 32).wellFormed = false ∧ (Instr.blinkPhaseEnd 32).wellFormed = false ∧ (Instr.sodiumWarmReached 512).wellFormed = false ∧
      (Instr.sodiumCoolingEnd 512).wellFormed = false ∧ (Instr.detectorSample (2 ^ 48)).wellFormed = false ∧
      (Instr.detectorEnter 48).wellFormed = false ∧ (Instr.detectorLeave 48).wellFormed = false ∧ (Instr.clearanceExpiry 48).wellFormed = false ∧
      (Instr.openDelayExpiry 4).wellFormed = false ∧ (Instr.gateTimeoutExpiry 4).wellFormed = false ∧ (Instr.trainRampStep 8).wellFormed = false := by
  decide
theorem test_wf_items_of_motion :
    (Instr.axisUpdate 256).wellFormed = false ∧ (Instr.axisArrival 8 true).wellFormed = false ∧ (Instr.speedReached 8 true).wellFormed = false ∧
      (Instr.stopModeRest 8 true).wellFormed = false ∧ (Instr.indexConfirm 8).wellFormed = false ∧ (Instr.homeConfirm 8).wellFormed = false ∧
      (Instr.indexMissing 8 true).wellFormed = false ∧ (Instr.homeMissing 8 true).wellFormed = false ∧ (Instr.waitExpiry 8).wellFormed = false ∧
      (Instr.waitTimeout 8).wellFormed = false ∧ (Instr.inputSample 256).wellFormed = false ∧ (Instr.inputEdge 8).wellFormed = false := by decide

/-! ## Frames (R163, R173, R175) -/

/-- The check of the nine digits, as every CRC of these parameters gives it. -/
theorem test_crc_of_digits : crc16 [0x31, 0x32, 0x33, 0x34, 0x35, 0x36, 0x37, 0x38, 0x39] = 0x29B1#16 := by decide +kernel

theorem test_frame_of_identify : (frameBytes 0x01 7 []).take 4 = [0xC5#8, 2#8, 1#8, 7#8] := by decide +kernel

theorem test_payloads :
    parseRequest 0x63 [3, 0] = .request (.auxSet 3 0) ∧ parseRequest 0x08 [1, 0xF0, 0, 8] = .request (.clockSetRate 1 240 8 none) ∧
      parseRequest 0x43 [2, 0xFF, 0xFF, 0xFF, 0xFF] = .request (.axisMove 2 (-1)) ∧ parseRequest 0x05 [] = .unknownKind ∧
      parseRequest 0x43 [2, 0xFF] = .badLength := by decide +kernel

/-- No word spells a command. -/
theorem test_no_word : decodeTableWord 16 0 = none := rfl

/-! ## Worked examples of spec/ -/

/-- The examples of R39: −0.5, −767.625 and 2.5. -/
theorem test_rounding :
    [Rounding.nearestEven, .down, .up, .towardZero].map (fun m => (roundDiv m (-1) 2, roundDiv m (-6141) 8, roundDiv m 5 2)) =
      [(0, -768, 2), (-1, -768, 2), (0, -767, 3), (0, -767, 2)] := by decide

/-- The table of R48 for table 0. -/
theorem test_gamma_table :
    [1, 256, 2048, 4094, 4095].map (fun w => (gammaDuty .nearestEven gammaCurved w, gammaDuty .up gammaCurved w)) =
      [(0, 1), (2, 3), (223, 224), (1022, 1023), (1023, 1023)] := by decide

/-- The examples of R3. -/
theorem test_rate_settings :
    [(3, 700, 2), (3, 800, 2), (5, 4, 1), (2, 300, 3)].map (fun x => rateFailure x.1 x.2.1 x.2.2 none) = [none, some 3, some 3, some 2] ∧
      rateFailure 16 4095 1 (some 4096) = none ∧ rateFailure 1 1 1 (some 0) = some 4 := by decide

/-- The stopping distance of R108 by hand: 1000 × 1000 / 20000 = 50, and 1001 × 1001 / 20000 rounded up. -/
theorem test_stopping : stoppingDistance 1000 10 = 50 ∧ stoppingDistance 1001 10 = 51 ∧ stoppingDistance 0 10 = 0 := by decide

/-- An advance from just before midnight passes it, and one that starts on a boundary does not (R13). -/
theorem test_boundaries : boundaries 86399999 60002 = [86400000, 86460000] ∧ boundaries 25200000 59999 = [] := by decide +kernel

/-! ## Witnesses: a state and operands that meet each statement's hypotheses, clause by clause -/

/-- The state after reset: STARTED is being sent and nothing waits, so a request that arrives is taken at once. -/
def base : State := State.reset

/-- A state with an axis 0 of one's own. -/
def withAxis (x : Axis) : State := base.modAxis 0 fun _ => x

/-- A state with every rail UP. -/
def railsUp (s : State) : State := s.modSupply fun k => { k with rails := ⟨true, true, true, true⟩ }

theorem test_witness_StepTakesFront :
    ({ base with pending := [.powerOn, .lightFrame] } : State).pending = .powerOn :: [.lightFrame] ∧ base.pending = [] := by decide +kernel

theorem test_witness_EveryCommandCompletes : (settle base).work.isClear = true := by decide +kernel

/-- The state after reset with `n` examinations of the empty throw queue still to make. -/
def busyWith (n : Nat) : State := base.modWork fun w => { w with stack := List.replicate n .examine }

theorem settleN_busyWith (n k : Nat) : settleN n (busyWith (n + k)) = busyWith k := by
  induction n with
  | zero => rw [Nat.zero_add]; rfl
  | succ n ih =>
    have : settleOne (busyWith (n + 1 + k)) = some (busyWith (n + k)) := by
      rw [show n + 1 + k = n + k + 1 by omega]; rfl
    rw [settleN, this]
    exact ih

/-- More work than one command carries out: the command behind it finds the handling unfinished. -/
theorem test_witness_EveryCommandCompletes_endless :
    (settle (busyWith (Config.settleFuel + 1))).work.isClear = false ∧ Instr.lightFrame ≠ .powerOn ∧ Instr.lightFrame ≠ .resetPin := by
  refine ⟨?_, by decide, by decide⟩
  rw [settle, settleN_busyWith]
  rfl

theorem test_witness_ReplyEnds :
    base.work.isClear = true ∧ base.link.tx ≠ .idle ∧ (base.modLink fun l => { l with tx := .idle }).work.isClear = true := by decide +kernel

theorem test_witness_RefusedChangesNothing :
    (handle (.groupSetMode 32 0) base).2.code.refuses = true ∧ ∀ l f steps, Request.groupSetMode 32 0 ≠ .listWrite l f true steps :=
  ⟨by decide +kernel, nofun⟩

theorem test_witness_QuietEventTouchesLinkOnly : base.quiet = true ∧ base.work.isClear = true := by decide +kernel

theorem test_witness_LinkOwnRequests : base.ready = true ∧ 511 < 512 ∧ ¬512 < 512 ∧ 2 ≤ 2 := by decide +kernel

/-- A frame in a slot, its request taken. -/
def slot : Slot := { frame := { kind := 0x01, tag := 0, body := .request .identify }, taken := true }

/-- A BUSY reply. -/
def busy : Reply := { kind := 0x81, tag := 0, answer := refuse .busy, origin := .busy }

/-- A request's reply. -/
def plainReply : Reply := { kind := 0x81, tag := 0, answer := okay, origin := .request }

/-- A notice record. -/
def plainNotice : Notice := { event := .clockLocked, stamp := 0, townSeconds := 0, day := 0 }

/-- A state with slots and replies of one's own. -/
def withLink (slots : List Slot) (replies : List Reply) (waiting : Option Scope) (tx : Transmitter) : State :=
  base.modLink fun l => { l with slots := slots, replies := replies, resetWaiting := waiting, tx := tx }

theorem test_witness_FrameHandedIn :
    (Instr.identify 9).request = some (9, .identify) ∧
      (let s := withLink [slot, slot, slot] [] (some .warm) .idle;
        s.work.isClear = true ∧ s.link.resetWaiting.isSome = true ∧ s.link.slots.length < 4) ∧
      (let s := withLink [slot, slot, slot, slot] [busy, busy, busy] none .idle;
        s.work.isClear = true ∧ 4 ≤ s.link.slots.length ∧ s.link.slots.all Slot.taken = true ∧ s.link.busyCount < 4) ∧
      (let s := withLink [slot, slot, slot, slot] [busy, busy, busy, busy] none .idle;
        s.work.isClear = true ∧ 4 ≤ s.link.slots.length ∧ s.link.slots.all Slot.taken = true ∧ 4 ≤ s.link.busyCount) ∧
      requestKinds.contains 0x05 = false ∧ base.ready = true := by decide +kernel

theorem test_witness_TransmitterAndNotices :
    (let s := withLink [slot] [busy] none .idle; s.work.isClear = true ∧ s.link.slots.all Slot.taken = true ∧ s.link.lost = 0 ∧ s.link.tx = .idle) ∧
      (withLink [slot] [busy] none (.reply plainReply)).link.tx = .reply plainReply ∧ plainReply.origin = .request ∧ busy.origin = .busy ∧
      (withLink [] [] none (.notice plainNotice)).link.tx = .notice plainNotice ∧
      (let l := (withLink [] [] none (.notice plainNotice)).link;
        { l with notices := List.replicate 31 plainNotice }.wf = true ∧ { l with notices := List.replicate 32 plainNotice, lost := 255 }.wf = true ∧
          l.replies = [] ∧ List.replicate 32 plainNotice = plainNotice :: List.replicate 31 plainNotice ∧ 0 < 255) := by decide +kernel

theorem test_witness_TransmitterAndNotices_loss :
    let s := withLink [] [] none (.notice plainNotice)
    let l : ShowLink := { s.link with notices := List.replicate 32 plainNotice, lost := 1 }
    l.wf = true ∧ l.replies = [] ∧ l.notices = plainNotice :: List.replicate 31 plainNotice ∧ 0 < l.lost ∧ ({ s with link := l } : State).link = l := by
  decide +kernel

theorem test_witness_StartsAnew :
    let r : Reply := { kind := 0x83, tag := 0, answer := okay, origin := .reset .cold }
    (withLink [slot] [] (some .cold) (.reply r)).work.isClear = true ∧ (withLink [slot] [] (some .cold) (.reply r)).link.tx = .reply r ∧
      r.origin = .reset .cold := by decide +kernel

theorem test_witness_WarmResetKeeps :
    base.track.config ≠ .operational ∧ (∀ x, (base.track.runs.get x).state = .none) ∧ ∀ t, (base.trains.get t).held = [] := by decide +kernel

/-- A state whose receiver stands where one wants it. -/
def atByte (x : Receiver) : State := base.modLink fun l => { l with rx := x }

theorem test_witness_ReceiverByte :
    255 < 256 ∧ (atByte .atLength).work.isClear = true ∧ (atByte .atLength).link.slots.all Slot.taken = true ∧ base.link.rx = .hunting ∧
      (atByte .atLength).link.rx = .atLength ∧ 5000 ≤ 5000 ∧ 2 ≤ 2 ∧ 250 ≤ 250 ∧ 1 < 2 ∧ 250 < 251 ∧ (atByte .atLength).link.rx ≠ .hunting ∧
      5000 < 5001 ∧ (atByte (.inFrame 2 [1#8, 7#8])).link.rx = .inFrame 2 [1#8, 7#8] ∧ [1#8, 7#8].length + 1 < 2 + 2 ∧
      2 + 2 ≤ [1#8, 7#8, 0#8].length + 1 ∧ checkMatches 2 ([1#8, 7#8, 0#8] ++ [BitVec.ofNat 8 0]) = false := by decide +kernel

theorem test_witness_BytesAreTheRequest :
    (Instr.axisMove 255 7 (-1)).request = some (255, .axisMove 7 (-1)) ∧ (Instr.axisMove 255 7 (-1)).wellFormed = true ∧ base.ready = true ∧
      base.link.rx = .hunting ∧ base.link.atRest = true ∧ (List.replicate 11 5000).length = (requestPayload (.axisMove 7 (-1))).length + 6 ∧
      ∀ g ∈ List.replicate 11 5000, g ≤ 5000 := by decide +kernel

theorem test_witness_PayloadRoundTrip :
    (Request.axisMove 255 (-2147483648)).wellFormed = true ∧ (Request.pwmMap 0 (some 65534)).wellFormed = true := by decide

/-! ### The Town Clock -/

/-- A state with a clock of one's own. -/
def withClock (f : Clock → Clock) : State := base.modClock f

theorem test_witness_ClockSettings :
    base.ready = true ∧ (1 ≤ 16 ∧ 16 < 17 ∧ 4095 < 4096 ∧ 16 ≤ 4095 ∧ 4095 ≤ 256 * 16) ∧
      (some 4096).any (fun g => decide (g < 1) || decide (4096 < g)) = false ∧ (some 4097).any (fun g => decide (g < 1) || decide (4096 < g)) = true ∧
      (withClock fun c => { c with state := .held }).clock.state = .held ∧ (withClock fun c => { c with state := .held }).clock.target = none ∧
      (withClock fun c => { c with state := .held, target := some 0 }).clock.target.isSome = true ∧ base.clock.state ≠ .held := by decide +kernel

theorem test_witness_ClockSetTime :
    base.ready = true ∧ 86399999 < 86400000 ∧ 86399999 ≤ 86399999 ∧ 2 ≤ 2 ∧
      (let s := withClock fun c => { c with state := .held, target := some 5 }; s.ready = true ∧ s.clock.state = .held) ∧
      base.clock.state ≠ .held ∧ (43200000 + 86400000 - base.clock.town) % 86400000 = 0 ∧
      (43199999 + 86400000 - base.clock.town) % 86400000 ≠ 0 := by decide +kernel

theorem test_witness_ClockAdvance :
    (let s := withClock fun c => { c with state := .held, target := some 5, acc := 0, rem := 999 }; s.clock.wf = true ∧ s.clock.state = .held) ∧
      (base.clock.wf = true ∧ base.clock.state = .run) ∧
      (let s := withClock fun c => { c with state := .glide, target := some 43201200 }; s.clock.wf = true ∧ s.clock.state = .glide ∧
        s.clock.target = some 43201200 ∧ (43201200 + 86400000 - s.clock.town) % 86400000 ≤ s.clock.glideRate) ∧
      (let s := withClock fun c => { c with state := .glide, target := some 43201201 }; s.clock.wf = true ∧ s.clock.state = .glide ∧
        s.clock.target = some 43201201 ∧ s.clock.glideRate < (43201201 + 86400000 - s.clock.town) % 86400000) := by decide +kernel

theorem test_witness_MinutesPassed : 86399999 < 86400000 ∧ boundaries 86399999 1 = [86400000] := by decide +kernel

/-- A whole advance in each state of the clock, and a TOWN_SECONDS wait that counts. -/
theorem test_witness_MinutesPassed_advance :
    (base.clock.wf = true ∧ base.clock.state = .run) ∧
      (let c := (withClock fun c => { c with state := .glide, target := some 43201201 }).clock;
        c.wf = true ∧ c.state = .glide ∧ c.target = some 43201201 ∧ c.glideRate < (43201201 + 86400000 - c.town) % 86400000) ∧
      (let c := (withClock fun c => { c with state := .glide, target := some 43201200 }).clock;
        c.wf = true ∧ c.target = some 43201200 ∧ (43201200 + 86400000 - c.town) % 86400000 ≤ c.glideRate) ∧
      (let p := { Player.initial 0 with state := .waiting, wait := some ⟨.townSeconds 3, 0⟩ };
        p.state = .waiting ∧ p.wait = some { kind := .townSeconds 3, since := 0 }) ∧
      (Player.initial 0).state ≠ .waiting := by decide +kernel

theorem test_witness_RealMillisecond :
    base.work.isClear = true ∧ (flush base).clock.arrives = false ∧
      (let s := withClock fun c => { c with state := .glide, target := some 43200001 }; s.work.isClear = true ∧ (flush s).clock.arrives = true) := by
  decide +kernel

/-! ### The Light Engine -/

/-- A state whose group 31 is one's own. -/
def withGroup (f : Group → Group) : State := base.modGroup 31 f

theorem test_witness_GroupSettings :
    base.ready = true ∧ (base.light.groups.get 31).curve = [] ∧ (GroupMode.fixed = .curve → (base.light.groups.get 31).curve ≠ []) ∧
      (let s := withGroup fun g => { g with curve := [(0, 1), (1, 2)] }; s.ready = true ∧ (s.light.groups.get 31).curve ≠ []) ∧
      31 < 32 ∧ 2 < 3 ∧ 3 < 4 ∧ 1 < 2 := by decide +kernel

theorem test_witness_CurveAndGammaWrites :
    base.ready = true ∧
      (let l := [(0, 5000), (1439, 0)]; l.length ≠ 1 ∧ l.length ≤ 16 ∧ (∀ x ∈ l, x.1 ≤ 1439) ∧ l.Pairwise (fun a b => a.1 < b.1)) ∧
      ((base.light.groups.get 31).mode ≠ .curve) ∧ [(0, 0)].length = 1 ∧ 16 < (List.replicate 17 (0, 0)).length ∧
      ((withGroup fun g => { g with mode := .curve }).light.groups.get 31).mode = .curve ∧
      (let l := [(0, 1), (7, 1), (7, 2), (9, 3)];
        l = [(0, 1)] ++ (7, 1) :: (7, 2) :: [(9, 3)] ∧ l.length ≤ 16 ∧ (∀ x ∈ l, x.1 ≤ 1439) ∧
          ([(0, 1)] ++ [(7, 1)]).Pairwise (fun a b : Nat × Nat => a.1 < b.1) ∧ 7 ≤ 7) ∧
      (let l := List.replicate 17 1023; (∀ x ∈ l, x ≤ 1023) ∧ l.Pairwise (· ≤ ·)) ∧
      (let l := List.replicate 16 5 ++ [4]; l = List.replicate 15 5 ++ 5 :: 4 :: [] ∧ (∀ x ∈ l, x ≤ 1023) ∧
        (List.replicate 15 5 ++ [5]).Pairwise (· ≤ ·) ∧ 4 < 5) ∧
      ([0, 1024] = [0] ++ 1024 :: [] ∧ (∀ x ∈ [0], x ≤ 1023) ∧ 1023 < 1024) ∧ 3 < 4 := by decide +kernel

theorem test_witness_GroupSetLevel :
    base.ready = true ∧ 0 < 1 ∧ 31 < 32 ∧ 1 < 2 ∧
      ((withGroup fun g => { g with fade := some ⟨0, 9, 5, 2, .real⟩ }).light.groups.get 31).fade.isSome = true := by decide +kernel

/-- A state whose PWM output 3 carries channel 7 and whose segment 2 carries channels 10 to 13 at positions 4 to 7 of chain 1. -/
def placed : State := base.modLight fun l =>
  { l with pwm := l.pwm.set 3 (some 7), segments := l.segments.set 2 (some { chain := 1, first := 4, count := 4, channel := 10 }) }

theorem test_witness_ChannelsAndPlaces :
    base.ready = true ∧ ({ noBind with item := 47, aspect := 2 }.item = (47 : Fin 48).1 ∧ 2 = Aspect.occupied.code) ∧ 0 < 1 ∧ 4 < 5 ∧ 511 < 512 ∧
      placed.ready = true ∧ placed.light.placeOf 6 = .none ∧ placed.light.placeOf 7 = .pwm 3 ∧ (3 : Fin 16) ≠ 0 ∧
      placed.light.placeOf 13 = .chain 2 7 ∧ 128 ≤ 128 ∧ 128 < 129 ∧
      (1 ≤ 120 ∧ 8 + 120 ≤ 128 ∧ 392 + 120 ≤ 512 ∧
        (∀ i : Fin 16, i ≠ 0 → ∀ d ∈ placed.light.segments.get i,
          (d.chain = 1 → d.first + d.count ≤ 8 ∨ 8 + 120 ≤ d.first) ∧ (d.channel + d.count ≤ 392 ∨ 392 + 120 ≤ d.channel)) ∧
        ∀ o' : Fin 16, ∀ x ∈ placed.light.pwm.get o', x.1 < 392 ∨ 392 + 120 ≤ x.1) ∧
      segmentClash placed.light 0 1 7 1 = some 2 ∧ segmentClash placed.light 0 1 8 1 = none ∧ channelClash placed.light 0 13 1 = some 13 := by
  decide +kernel

theorem test_witness_LightFrame :
    base.work.isClear = true ∧ base.sched.light = false ∧
      (let s := (withGroup fun g => { g with blink := some ⟨1, 1, 1, false, 0⟩ }).modSched fun d => { d with light := true };
        s.work.isClear = true ∧ (s.sched.light && s.endsPhase 31) = true) ∧
      (let s := (base.modChannel 511 fun c => { c with kind := .sodium, sodium := .cooling 1 }).modSched fun d => { d with light := true };
        s.work.isClear = true ∧ (s.sched.light && s.endsCooling 511) = true) := by decide +kernel

/-- A state with a lit SODIUM channel 511 one frame short of WARM. -/
def warming : State := (railsUp (base.modChannel 511 fun c => { c with kind := .sodium, warmFrames := 2, sodium := .warming 1 })).modGroup 0
  (fun g => { g with level := 4095 }) |>.modSched fun d => { d with light := true }

theorem test_witness_LightFrame_warm : warming.work.isClear = true ∧ (warming.sched.light && warming.reachesWarm 511) = true := by decide +kernel

/-- A state with a fade of group 31 one count short of its end. -/
def fading (b : FadeBase) : State := (withGroup fun g => { g with fade := some ⟨0, 9, 5, 4, b⟩ }).modSched fun d => { d with light := b == .real }

theorem test_witness_FadeEnds :
    ((fading .real).light.groups.get 31).fade = some ⟨0, 9, 5, 4, .real⟩ ∧ 5 ≤ 4 + 1 ∧ 3 + 1 < 5 ∧ (fading .real).work.isClear = true ∧
      (fading .real).sched.light = true ∧
      (let s := (fading .town).modClock fun c => { c with rem := 999 };
        s.work.isClear = true ∧ ((flush s).light.groups.get 31).fade = some ⟨0, 9, 5, 4, .town⟩ ∧
          (flush s).clock.secondsOf (flush s).clock.advance.1 = 1) := by decide +kernel

theorem test_witness_FadeEnds_level :
    (Group.initial.fade = none) ∧
      (let g : Group := { Group.initial with fade := some ⟨9, 2, 5, 5, .real⟩ }; g.fade = some ⟨9, 2, 5, 5, .real⟩ ∧ 0 < 5 ∧ 5 ≤ 5) ∧
      ({ Group.initial with fade := some ⟨9, 2, 5, 0, .real⟩ } : Group).fade = some ⟨9, 2, 5, 0, .real⟩ := by decide

/-- A generator's frames, one after another. -/
def blinkFrames (b : Blink) : Nat → Option Blink
  | 0 => some b
  | k + 1 => (blinkFrames b k).bind fun x => x.advance.1

/-- A lamp's states, frame after frame, on levels of one's own. -/
def lampFrames (levels : Nat → Nat) : Nat → Sodium
  | 0 => .warm
  | f + 1 => sodiumStep 3 2 (levels f) (lampFrames levels f)

theorem test_witness_BlinkAndSodium (b : Blink) (levels : Nat → Nat) :
    (blinkFrames b 0 = some b ∧ ∀ k, blinkFrames b (k + 1) = (blinkFrames b k).bind fun x => x.advance.1) ∧
      0 < 2 ∧ (∀ f, lampFrames levels (f + 1) = sodiumStep 3 2 (levels f) (lampFrames levels f)) ∧ lampFrames levels 0 = .warm :=
  ⟨⟨rfl, fun _ => rfl⟩, by decide, fun _ => rfl, rfl⟩

theorem test_witness_BlinkAndSodium_clauses :
    (⟨1, 1, 0, true, 0⟩ : Blink).phaseOn = true ∧ (⟨1, 1, 2, false, 0⟩ : Blink).phaseOn = false ∧ 2 ≤ (⟨1, 1, 2, false, 0⟩ : Blink).burst ∧
      lampFrames (fun f => if f = 0 then 0 else 9) 0 = .warm ∧ lampFrames (fun f => if f = 0 then 0 else 9) 3 = .warming 1 := by decide

theorem test_witness_RoundedDivision : 0 < 1 ∧ 0 < 4095 := by decide

theorem test_witness_LevelStages : 4095 ≤ 4095 ∧ (1 : Nat) ≠ 0 ∧ (1 : Int) + -2 < 0 ∧ 4095 < (4095 : Int) + 1 ∧ 0 ≤ (1 : Int) + -1 := by decide

theorem test_witness_GammaAndCurve :
    gammaCurved.length = 17 ∧ gammaCurved.Pairwise (· ≤ ·) ∧ (∀ x ∈ gammaCurved, x ≤ 1023) ∧ 4095 ≤ 4095 ∧ 0 < 1 ∧ 4094 < 4095 ∧
      (let l := [(0, 5), (1439, 7)]; l.Pairwise (fun a b => a.1 < b.1) ∧ 2 ≤ l.length ∧ (∀ p ∈ l, p.1 ≤ 1439) ∧
        l = [] ++ (0, 5) :: (1439, 7) :: [] ∧ 60 * 0 ≤ 86339 ∧ 86339 < 60 * 1439) := by decide

theorem test_witness_GammaAndCurve_wrap :
    let l := [(7, 5), (9, 6), (1438, 7)]
    l = (7, 5) :: [(9, 6)] ++ [(1438, 7)] ∧ l.Pairwise (fun a b => a.1 < b.1) ∧ (∀ p ∈ l, p.1 ≤ 1439) ∧ 60 * 1438 ≤ 86399 ∧ 86399 < 86400 ∧
      419 < 60 * 7 := by decide

/-! ### The layout and the trains -/

/-- A state while EDITING: section 4 is present with its ends open. -/
def editing : State := base.modTrack fun k =>
  { k with config := .editing, defs := k.defs.modify 4 fun d => { d with present := true } }

/-- A layout in service: three sections in a row, 4 to 6, and point 2, whose toe lies on section 6. -/
def layout : State := base.modTrack fun k =>
  { k with
    config := .operational
    defs := ((k.defs.set 4 ⟨true, .buffer, .plain 5 .a, 500, 300, none⟩).set 5 ⟨true, .plain 4 .b, .plain 6 .a, 500, 300, none⟩).set 6
      ⟨true, .plain 5 .b, .point 2, 500, 300, none⟩
    runs := ((k.runs.set 4 ⟨.free, []⟩).set 5 ⟨.free, []⟩).set 6 ⟨.free, []⟩
    points := k.points.set 2 ⟨some ⟨6, ⟨7, .a⟩, ⟨8, .a⟩⟩, .normal, 200⟩ }

/-- The layout with the state of section 4 to 6 one's own. -/
def withSecs (a b c : SecState) : State := ((layout.modRun 4 fun r => { r with state := a }).modRun 5 fun r => { r with state := b }).modRun 6
  fun r => { r with state := c }

/-- The layout with train 7 placed on section 4 and what it holds in front, and the section states one's own. -/
def withTrain (a b c : SecState) (held : List (Fin 48 × Sense)) (f : Train → Train) : State :=
  (withSecs a b c).modTrain 7 fun t => f { t with placed := true, held := held }

theorem test_witness_LayoutOpenClose :
    (let s := withTrain (.occupied 7) .free .free [(4, .aToB)] id;
      s.ready = true ∧ (s.trains.get 7).placed = true ∧ ∀ u : Fin 8, u < 7 → (s.trains.get u).placed = false) ∧
      base.ready = true ∧ (∀ t : Fin 8, (base.trains.get t).placed = false) ∧ base.track.config = .unconfigured ∧
      (editing.ready = true ∧ editing.track.config = .editing ∧ layoutFailure editing = none) ∧ layout.track.config = .operational ∧
      (let s := editing.modTrack fun k => { k with defs := k.defs.modify 4 fun d => { d with linkB := .plain 47 .a } };
        s.ready = true ∧ layoutFailure s = some (0, 4, 1)) := by decide +kernel

theorem test_witness_SectionDefinition :
    editing.ready = true ∧ editing.track.config = .editing ∧ readLink noLink = .ok .buffer ∧ readLink ⟨2, 23, 0⟩ = .ok (.point 23) ∧
      (Link.buffer ≠ .plain 4 .a ∧ Link.point 23 ≠ .plain 4 .b ∧ ∀ p, Link.buffer = .point p → Link.point 23 ≠ .point p) ∧
      (editing.track.defs.get 4).crossing = none ∧
      ((editing.modTrack fun k => { k with defs := k.defs.modify 4 fun d => { d with crossing := some 3 } }).track.defs.get 4).crossing = some 3 ∧
      base.track.config ≠ .editing := by decide +kernel

theorem test_witness_PointAndCrossingDefinition :
    editing.ready = true ∧ editing.track.config = .editing ∧ ((1 : Fin 48), End.a) ≠ (1, End.b) ∧ editing.pulsing 23 = false ∧
      (editing.setUnit (.pulsing 23 .normal 5 none)).pulsing 23 = true ∧
      (let l : List (Fin 48) := [0, 4, 46, 47]; 1 ≤ l.length ∧ l.length ≤ 4 ∧ l.Nodup ∧
        ∀ x ∈ l, ∀ k, (editing.track.defs.get x).crossing = some k → k = 3) ∧
      ∀ k d, (editing.track.crossings.get k).defn = some d → d.axis = 7 → k = 3 := by
  refine ⟨by decide +kernel, by decide +kernel, by decide, by decide +kernel, by decide +kernel, by decide +kernel, fun k d h => ?_⟩
  have hn : ∀ k, (editing.track.crossings.get k).defn = none := by decide +kernel
  rw [hn k] at h
  nomatch h

/-- The layout with a throw of point 2 in the queue. -/
def queued : State := layout.setQueue [{ point := 2, position := .reverse, origin := .request }]

theorem test_witness_PointThrow :
    layout.ready = true ∧ Position.normal ≠ .unknown ∧ base.ready = true ∧ base.track.config ≠ .operational ∧ layout.pointDef 3 = none ∧
      layout.track.config = .operational ∧ layout.pointDef 2 = some ⟨6, ⟨7, .a⟩, ⟨8, .a⟩⟩ ∧ layout.sec 6 = .free ∧
      (withSecs .free .free (.clearing 1)).sec 6 ≠ .free ∧ queued.ready = true ∧ queued.sec 6 = .free ∧
      (∃ e ∈ queued.track.queue, e.point = 2) ∧ (∀ e ∈ layout.track.queue, e.point ≠ 2) ∧ (layout.track.points.get 2).position = .normal ∧
      layout.pulsing 2 = false ∧ (layout.track.points.get 2).position ≠ .reverse ∧ 23 < 24 ∧ 1 < 2 := by decide +kernel

/-- A state with crossing 3 in service: its member is section 4, its gate axis 7. -/
def crossed (k : Coupling) : State := (layout.setCoupling 3 (some k)).modTrack fun t =>
  { t with crossings := t.crossings.set 3 ⟨some ⟨7, [4]⟩, 1000, 4000⟩ }

theorem test_witness_ThrowsAndCrossings :
    (queued.track.queue = { point := 2, position := .reverse, origin := .request } :: [] ∧ (queued.track.points.get 2).position ≠ .reverse ∧
        queued.track.unit_ = .ready ∧ queued.engaged = false ∧ (queued.modSupply fun k => { k with keyOn := true }).engaged = true) ∧
      (let s := layout.setUnit (.pulsing 2 .reverse 0 (some 7)); s.work.isClear = true ∧ s.track.unit_ = .pulsing 2 .reverse 0 (some 7)) ∧
      (let s := layout.setUnit (.pulsing 2 .reverse 1 none); s.work.isClear = true ∧ s.track.unit_ = .pulsing 2 .reverse 1 none ∧ 1 ≠ 0) ∧
      (layout.setUnit (.recharging 0)).track.unit_ = .recharging 0 ∧ (layout.setUnit (.recharging 1)).track.unit_ ≠ .recharging 0 ∧
      (let k : Coupling := { demand := .open_, last := none, openDelay := some 0, timeout := .running 0, retry := false };
        let s := crossed k;
        (s.track.crossings.get 3).defn = some ⟨7, [4]⟩ ∧ s.track.couplings.get 3 = some k ∧ s.work.isClear = true ∧ s.ready = true ∧
          k.openDelay = some 0 ∧ k.timeout = .running 0 ∧ s.track.config = .operational ∧ s.engaged = false) ∧
      (let k : Coupling := { demand := .open_, last := none, openDelay := some 1, timeout := .running 1, retry := false };
        k.openDelay ≠ some 0 ∧ k.timeout ≠ .running 0 ∧
          let s := (crossed k).modSupply fun k => { k with keyOn := true };
          s.ready = true ∧ s.track.config = .operational ∧ s.engaged = true ∧ s.track.couplings.get 3 = some k) := by decide +kernel

/-- The head of the throw queue: in place, waiting for the unit or the interlock; a head dropped and kept; a request's and a grant's. -/
theorem test_witness_ThrowsAndCrossings_head :
    (let e : ThrowEntry := { point := 2, position := .normal, origin := .request };
      let s := layout.setQueue [e]; s.track.queue = e :: [] ∧ (s.track.points.get 2).position = .normal ∧ s.pulsing 2 = false) ∧
      (queued.setUnit (.recharging 5)).track.unit_ ≠ .ready ∧ (queued.modSupply fun k => { k with keyOn := true }).engaged = true ∧
      layout.track.queue = [] ∧ (layout.setUnit (.pulsing 2 .reverse 9 none)).pulsing 2 = true := by decide +kernel

/-- The crossing's demand, its changes, and the interlock over it, with the gate axis UNKNOWN and known. -/
theorem test_witness_ThrowsAndCrossings_demand :
    let open_ : Coupling := { demand := .open_, last := none, openDelay := none, timeout := .absent, retry := true }
    let close : Coupling := { open_ with demand := .close, last := some .close, timeout := .running 4000 }
    let gate : Axis := { Axis.initial with kind := .gate, state := .idle, homed := true, pos := 1000 }
    let busy := (crossed open_).modRun 4 fun r => { r with state := .stray }
    (demandOf (crossed open_) [4] = .open_ ∧ open_.demand = .open_ ∧ (crossed open_).engaged = false) ∧
      (demandOf busy [4] = .close ∧ demandOf busy [4] ≠ open_.demand ∧ open_.last ≠ some .close) ∧
      (demandOf (crossed close) [4] = .open_ ∧ close.demand = .close ∧ close.last = some .close ∧ close.timeout = .running 4000) ∧
      (busy.modSupply fun k => { k with keyOn := true }).engaged = true ∧ (crossed close).track.couplings.get 3 = some close ∧
      (((crossed open_).modAxis 7 fun _ => gate).axes.get 7).gateState = .closed ∧ ((crossed open_).axes.get 7).gateState = .unknown ∧
      ({ close with timeout := .suspended 9 }).timeout = .suspended 9 ∧
      ((crossed open_).track.crossings.get 3).openDelay ≠ 0 := by decide +kernel

theorem test_witness_ThrowsAndCrossings_timers (ms : Nat) :
    GateTimer.absent ≠ .running ms ∧ GateTimer.running 7 ≠ .suspended ms := ⟨nofun, nofun⟩

/-- A gate axis under a crossing's command, in each of its cases. -/
theorem test_witness_ThrowsAndCrossings_gate :
    let gate : Axis := { Axis.initial with kind := .gate, state := .idle, homed := true }
    Axis.initial.kind ≠ .gate ∧ (gate.kind = .gate ∧ gate.state ≠ .fault ∧ gate.openPos ≠ gate.closedPos) ∧
      { gate with state := .held }.state = .held ∧ { gate with state := .homing }.state = .homing ∧
      ({ gate with homed := false, state := .unhomed }.homed = false) ∧ gate.pos = gate.openPos ∧ gate.pos ≠ gate.closedPos ∧
      { gate with state := .moving, motion := .position 1000 }.motion = .position gate.closedPos ∧
      { gate with state := .fault }.state = .fault := by decide

theorem test_witness_ClaimsAndClearance :
    (let s := withSecs (.clearing 0) .free .free; s.work.isClear = true ∧ s.sec 4 = .clearing 0 ∧ (s.track.runs.get 4).waiting = []) ∧
      (let s := ((withSecs (.clearing 0) .free .free).modRun 4 fun r => { r with waiting := [7] }).modTrain 7 fun t =>
          { t with claim := .waiting 4 .a };
        s.work.isClear = true ∧ s.sec 4 = .clearing 0 ∧ (s.track.runs.get 4).waiting = 7 :: [] ∧ (s.trains.get 7).claim = .waiting 4 .a) ∧
      (withSecs (.clearing 1) .free .free).sec 4 ≠ .clearing 0 ∧
      (let s := withTrain (.occupied 7) .free .free [(4, .aToB)] fun t => { t with queue := [(5, .a)] };
        let r := s.trains.get 7;
        r.queue = (5, .a) :: [] ∧ r.claim = .none ∧ r.held.length < 16 ∧ r.halt = none ∧ r.placed = true ∧ s.sec 5 = .free) ∧
      (withTrain (.occupied 7) .stray .free [(4, .aToB)] fun t => { t with queue := [(5, .a)] }).sec 5 ≠ .free := by decide +kernel

/-- The layout with train 7 on section 5 and the point of section 6 facing it: section 5 ends on the toe of point 2. -/
def facingPoint (prev : SecState) : State :=
  ((withTrain .free prev .free [(5, .aToB)] id).modTrack fun k => { k with
    defs := k.defs.modify 5 fun d => { d with linkB := .point 2 }
    points := k.points.modify 2 fun p => { p with defn := some ⟨5, ⟨6, .a⟩, ⟨8, .a⟩⟩, position := .reverse } })

/-- A grant in each row of R70's table, the move it needs, its completion and a release. -/
theorem test_witness_ClaimsAndClearance_grant :
    (let s := withTrain (.occupied 7) .free .free [(4, .aToB)] id;
      s.frontOf 7 = some (4, .aToB) ∧ moveNeeds s 4 Sense.aToB.exitEnd 5 .a = none) ∧
      (let s := facingPoint (.occupied 7);
        s.frontOf 7 = some (5, .aToB) ∧ s.linkAt 5 .b = .point 2 ∧ s.pointDef 2 = some ⟨5, ⟨6, .a⟩, ⟨8, .a⟩⟩ ∧
          moveNeeds s 5 Sense.aToB.exitEnd 6 .a = some (2, .normal) ∧ moveNeeds s 5 Sense.aToB.exitEnd 8 .a = some (2, .reverse) ∧
          s.pointAt 2 .normal = false ∧ s.pointAt 2 .reverse = true ∧ s.sec 5 ≠ .reserved 7 ∧ (5 : Fin 48) ≠ 6) ∧
      (facingPoint (.reserved 7)).sec 5 = .reserved 7 ∧
      (let s := withTrain .free .free .free [(7, .bToA)] id;
        moveNeeds s 7 .a 6 .b = some (2, .normal) ∧ moveNeeds s 8 .a 6 .b = some (2, .reverse) ∧ s.linkAt 7 .a = .buffer ∧
          s.frontOf 7 = some (7, .bToA) ∧ ((s.pointDef 2).map PointDef.sec) = some 6 ∧
          (s.modPoint 2 fun p => { p with position := .reverse }).pointAt 2 .normal = false) ∧
      (let s := withTrain (.occupied 7) (.pending 7) .free [(4, .aToB), (5, .aToB)] fun t => { t with claim := .granted 5 };
        (s.trains.get 7).claim = .granted 5 ∧ s.pendingOf 7 = [5] ∧ s.throwOutstanding 7 = false ∧ [5].all s.gateClosedFor = true ∧
          (s.setUnit (.pulsing 2 .normal 9 (some 7))).track.unit_ = .pulsing 2 .normal 9 (some 7) ∧ (s.track.defs.get 5).crossing = none ∧
          s.track.queue.head? = none) := by decide +kernel

/-- The layout under power, with a sample of section 4 due, its detector EMPTY and the given run. -/
def sampling (occupied : Bool) (run : Nat) : State :=
  (railsUp layout).modTrack (fun k => { k with detectors := k.detectors.set 4 ⟨occupied, run⟩ }) |>.modSched fun d => { d with detect := 1#48 <<< 4 }

theorem test_witness_Detectors :
    ((⟨false, 1⟩ : Detector).occupied = false ∧ (⟨false, 1⟩ : Detector).progress < 2 ∧ (⟨false, 2⟩ : Detector).progress = 2) ∧
      ((⟨true, 298⟩ : Detector).occupied = true ∧ 300 ≤ (⟨true, 298⟩ : Detector).progress + 2 ∧ (⟨true, 296⟩ : Detector).progress + 2 < 300) ∧
      (let s := sampling false 2; s.work.isClear = true ∧
        (s.sched.detect.getLsbD 4 && (s.modPins fun p => { p with detect := p.detect ||| (1#48 <<< 4) }).wouldConfirm 4 == .enter) = true) ∧
      (let s := sampling true 298; s.work.isClear = true ∧
        (s.sched.detect.getLsbD 4 && (s.modPins fun p => { p with detect := p.detect &&& ~~~(1#48 <<< 4) }).wouldConfirm 4 == .leave) = true) ∧
      base.trackPowered = false := by decide +kernel

theorem test_witness_EntriesAndLeaves :
    (let s := withTrain (.occupied 7) (.reserved 7) .free [(4, .aToB), (5, .aToB)] id; s.sec 5 = .reserved 7 ∧ nextAhead s 7 5 = true) ∧
      (layout.sec 4 = .free ∧ facingTrains layout 4 = []) ∧ (withSecs .stray .free .free).sec 4 = .stray ∧
      (let s := withTrain (.occupied 7) .free .free [(4, .aToB)] id; s.sec 4 = .occupied 7 ∧ s.occupiedOf 7 = [4]) ∧
      (let s := withTrain (.occupied 7) (.occupied 7) .free [(4, .aToB), (5, .aToB)] fun t => { t with mode := .hold };
        s.sec 4 = .occupied 7 ∧ s.occupiedOf 7 = 4 :: 5 :: [] ∧ (s.trains.get 7).mode = .hold) ∧
      (let s := withTrain (.occupied 7) (.occupied 7) .free [(4, .aToB), (5, .aToB)] id;
        s.sec 4 = .occupied 7 ∧ s.occupiedOf 7 = 4 :: 5 :: [] ∧ (s.trains.get 7).mode = .autoRelease ∧ s.sec 5 = .occupied 7 ∧ (4 : Fin 48) ≠ 5) := by
  decide +kernel

/-- The entries of R80 and R81: a PENDING section; one that another train faces; one train, or two, before a FREE section. -/
theorem test_witness_EntriesAndLeaves_entry :
    (let s := withTrain (.occupied 7) (.pending 7) .free [(4, .aToB), (5, .aToB)] id;
      s.sec 5 = .pending 7 ∧ nextAhead s 7 5 = true ∧ (∀ u, u ≠ 7 → facingEnd s u 5 = none) ∧
        s.heldOf 7 = [] ++ (4, .aToB) :: (5, .aToB) :: [] ∧ s.sec 4 = .occupied 7 ∧ (∀ k ∈ [((5 : Fin 48), Sense.aToB)], s.sec k.1 ≠ .occupied 7)) ∧
      (let s := (withTrain (.occupied 7) (.reserved 6) .free [(4, .aToB)] id).modTrain 6 fun t => { t with placed := true, held := [(6, .bToA), (5, .bToA)] };
        s.sec 5 = .reserved 6 ∧ facingEnd s 7 5 = some .a ∧ (7 : Fin 8) ≠ 6 ∧
          ({ s with track := { s.track with runs := s.track.runs.modify 6 fun r => { r with state := .reserved 6 } } } : State).sec 6 = .reserved 6) ∧
      (let s := (withTrain .free (.reserved 6) (.reserved 6) [(4, .aToB)] id).modTrain 6 fun t => { t with placed := true, held := [(6, .bToA), (47, .aToB), (5, .bToA)] };
        let s := s.modRun 6 fun r => { r with state := .occupied 6 };
        s.sec 5 = .reserved 6 ∧ nextAhead s 6 5 = false ∧ facingEnd s 7 5 = some .a) ∧
      (let s := withTrain (.occupied 7) .free (.clearing 9) [(4, .aToB)] id;
        s.sec 5 = .free ∧ s.sec 6 = .clearing 9 ∧ facingEnd s 7 5 = some .a ∧ (∀ u, u ≠ 7 → facingEnd s u 5 = none) ∧ (s.heldOf 7).length < 16 ∧
          (∀ u, facingEnd s u 6 = none) ∧
          (let s' := s.modTrain 6 fun t => { t with placed := true, held := [(6, .bToA)] };
            (facingEnd s' 7 5).isSome = true ∧ (facingEnd s' 6 5).isSome = true)) := by decide +kernel

/-- The present neighbour's links, and the trains a halt meets. -/
theorem test_witness_EntriesAndLeaves_neighbour :
    (layout.track.defs.get 4).present = true ∧ layout.linkAt 4 .b = .plain 5 .a ∧ layout.linkAt 4 .a = .buffer ∧ layout.linkAt 6 .b = .point 2 ∧
      layout.pointDef 2 = some ⟨6, ⟨7, .a⟩, ⟨8, .a⟩⟩ ∧ (⟨7, .a⟩ : Leg) ≠ ⟨8, .a⟩ ∧ (layout.trains.get 7).halt = none ∧
      ((withTrain (.occupied 7) .free .free [(4, .aToB)] fun t => { t with halt := some .lost }).trains.get 7).halt.isSome = true ∧
      (withTrain (.occupied 7) .free .free [(4, .aToB)] id).heldOf 7 = [] ++ [(4, .aToB)] := by decide +kernel

theorem test_witness_TrainSettings :
    (let s := withTrain (.occupied 7) .free .free [(4, .aToB)] id;
        s.ready = true ∧ (s.trains.get 7).placed = true ∧ (s.trains.get 7).halt = none) ∧
      (let s := withTrain (.occupied 7) .free .free [(4, .aToB)] fun t => { t with halt := some .lost };
        s.ready = true ∧ (s.trains.get 7).placed = true ∧ (s.trains.get 7).halt.isSome = true) ∧
      base.ready = true ∧ (base.trains.get 7).placed = false ∧ 7 < 8 := by decide +kernel

theorem test_witness_StateTargetAuthority :
    (∀ e ∈ base.heldOf 7, base.sec e.1 ≠ .occupied 7) ∧
      (let s := withTrain (.occupied 7) (.reserved 7) (.pending 7) [(4, .aToB), (5, .aToB), (6, .aToB)] id;
        (s.trains.get 7).placed = true ∧ s.heldOf 7 = [] ++ (4, .aToB) :: [(5, .aToB)] ++ [(6, .aToB)] ∧ s.sec 4 = .occupied 7 ∧
          (∀ e ∈ [((5 : Fin 48), Sense.aToB)], s.sec e.1 = .reserved 7) ∧
          (∀ e ∈ [((6 : Fin 48), Sense.aToB)], s.sec e.1 ≠ .occupied 7 ∧ s.sec e.1 ≠ .reserved 7)) := by decide +kernel

/-- The lines of a section under power: OCCUPIED and RESERVED within the authority, and one that nobody holds. -/
theorem test_witness_StateTargetAuthority_lines :
    (let s := railsUp (withTrain (.occupied 7) (.reserved 7) .free [(4, .aToB), (5, .aToB)] fun t => { t with speed := 40 });
      s.supply.rails.track = true ∧ s.supply.cutoff = false ∧ s.supply.keyOn = false ∧ s.track.config = .operational ∧ s.sec 4 = .occupied 7 ∧
        s.sec 5 = .reserved 7 ∧ 5 ∈ s.authority 7 ∧ s.sectionDuty 4 = 160 ∧ s.sectionDuty 5 = 160 ∧ s.sectionDuty 6 = 0 ∧
        (s.sec 4).holder = some 7 ∧ ((s.heldOf 7).map Prod.fst).Nodup ∧ (4, .aToB) ∈ s.heldOf 7 ∧ (s.sec 6).holder = none) ∧
      base.track.config ≠ .operational ∧ (base.trains.get 7).placed = false := by decide +kernel

/-- The clauses of the composition, the lit table, the duties and the LIGHTS rail (R30 to R36). -/
theorem test_witness_LightFrame_clauses :
    (let x := warming.light.channels.get 511; let y := (composeAll warming).light.channels.get 511;
      x.kind = .sodium ∧ (∀ b ∈ (warming.light.groups.get x.group).blink, b.phaseOn = true) ∧ warming.lit x.kind = true ∧ y.sodium = .warm) ∧
      (let y := (composeAll (warming.modChannel 511 fun c => { c with warmFrames := 9 })).light.channels.get 511; y.sodium = .warming 2) ∧
      (let y := (composeAll (warming.modChannel 511 fun c => { c with sodium := .cold })).light.channels.get 511;
        y.sodium ≠ .warm) ∧
      ((composeAll base).light.channels.get 0).sodium = .cold ∧ (base.light.channels.get 0).kind ≠ .sodium ∧
      (let s := withGroup fun g => { g with blink := some ⟨1, 1, 1, false, 0⟩ };
        (s.light.groups.get 31).blink = some ⟨1, 1, 1, false, 0⟩ ∧ (⟨1, 1, 1, false, 0⟩ : Blink).phaseOn ≠ true) ∧
      base.light.pwm.get 0 = none ∧ placed.light.pwm.get 3 = some 7 ∧
      (let s := placed.modLight fun l => { l with chainLen := l.chainLen.set 1 8 };
        4 < s.light.chainLen.get 1 ∧ s.light.segments.get 2 = some ⟨1, 4, 4, 10⟩ ∧ (⟨1, 4, 4, 10⟩ : Segment).maps 1 4 = true ∧
          (∀ j, ∀ e ∈ s.light.segments.get j, e.maps 1 4 = true → j = 2) ∧ (10 : Fin 512).1 = 10 + (4 - 4) ∧ 3 < s.light.chainLen.get 1 ∧
          (∀ i, ∀ d ∈ s.light.segments.get i, d.maps 1 3 = false) ∧ ((sendDuties s).outs.chains.get 1)[7]? = some 0 ∧ 15 < 16) ∧
      (withSecs .stray (.clearing 5) .free).sec 4 = .stray ∧ (withSecs .stray (.clearing 5) .free).sec 5 = .clearing 5 ∧ layout.sec 4 = .free ∧
      layout.track.config = .operational ∧ (layout.track.defs.get 4).present = true ∧ base.track.config ≠ .operational := by decide +kernel

theorem test_witness_RampAndEmergencyStop :
    base.work.isClear = true ∧ (base.trains.get 7).stepDue = false ∧
      (let s := withTrain (.occupied 7) .free .free [] fun t => { t with stepDue := true, dir := .up };
        s.work.isClear = true ∧ (s.trains.get 7).stepDue = true ∧ (s.trains.get 7).dir = .up) ∧
      (let s := withTrain (.occupied 7) .free .free [] fun t => { t with stepDue := true, dir := .down, speed := 2 };
        s.work.isClear = true ∧ (s.trains.get 7).dir = .down ∧ (s.trains.get 7).speed ≠ 1 ∧ (s.trains.get 7).speed ≠ 0 ∧
          (s.trains.get 7).placed = true ∧ (s.trains.get 7).halt = none) ∧
      (let s := withTrain (.occupied 7) .free .free [] fun t => { t with stepDue := true, dir := .down, speed := 1 };
        s.work.isClear = true ∧ (s.trains.get 7).stepDue = true ∧ (s.trains.get 7).speed = 1) ∧
      (let s := withTrain (.occupied 7) .free .free [] id; (s.trains.get 7).placed = true ∧ (s.trains.get 7).halt = none ∧ (s.trains.get 7).speed = 0) ∧
      (base.trains.get 7).placed = false := by decide +kernel

theorem test_witness_PlaceAndRemove :
    (layout.ready = true ∧ layout.track.config = .operational ∧ (layout.trains.get 7).placed = false ∧ (layout.track.defs.get 4).present = true ∧
        layout.sec 4 = .free) ∧
      (withSecs .stray .free .free).sec 4 = .stray ∧ (withSecs (.clearing 9) .free .free).sec 4 ≠ .free ∧
      (withSecs (.clearing 9) .free .free).sec 4 ≠ .stray ∧ base.track.config ≠ .operational ∧
      (let s := withTrain (.occupied 7) .free .free [(4, .aToB)] id;
        s.ready = true ∧ (s.trains.get 7).state = .standing ∧ (s.trains.get 7).queue = [] ∧ (s.trains.get 7).claim = .none) ∧
      (base.trains.get 7).state ≠ .standing := by decide +kernel

theorem test_witness_RouteRequests :
    (let s := withTrain (.occupied 7) .free .free [(4, .aToB)] id;
        s.ready = true ∧ (s.trains.get 7).state = .standing ∧ s.frontOf 7 = some (4, .aToB) ∧
          traceRoute s 4 Sense.aToB.exitEnd [5, 6] 0 = .ok [(5, .a), (6, .a)] ∧ [(5 : Fin 48), 6].Nodup ∧
          (∀ x ∈ [(5 : Fin 48), 6], x ∉ (s.heldOf 7).map Prod.fst) ∧ (s.trains.get 7).queue = [] ∧ (s.trains.get 7).claim = .none ∧
          s.heldOf 7 = [] ++ [(4, .aToB)] ∧ s.sec 4 = .occupied 7 ∧ (s.trains.get 7).placed = true) ∧
      (base.ready = true ∧ (base.trains.get 7).state = .unplaced ∧ (base.trains.get 7).placed = false) ∧
      ((withTrain (.occupied 7) (.pending 7) .free [(4, .aToB), (5, .aToB)] fun t => { t with claim := .granted 5 }).trains.get 7).claim =
        .granted 5 := by
  decide +kernel

theorem test_witness_RouteRequests_refused :
    let s := withTrain (.occupied 7) .free .free [(4, .aToB)] id
    s.frontOf 7 = some (4, .aToB) ∧ traceRoute s 4 Sense.aToB.exitEnd [6] 0 = .error 0 ∧ traceRoute s 4 Sense.aToB.exitEnd [5, 47] 0 = .error 1 ∧
      (let s := s.modTrack fun k => { k with defs := (k.defs.modify 6 fun d => { d with linkB := .plain 5 .a }) };
        traceRoute s 4 Sense.aToB.exitEnd [5, 6, 5] 0 = .ok [(5, .a), (6, .a), (5, .a)] ∧ [(5 : Fin 48), 6, 5] = [5, 6] ++ 5 :: [] ∧
          [(5 : Fin 48), 6].Nodup ∧ (∀ z ∈ [(5 : Fin 48), 6], z ∉ (s.heldOf 7).map Prod.fst) ∧ (5 : Fin 48) ∈ [(5 : Fin 48), 6]) ∧
      (withTrain (.reserved 7) .free .free [(4, .aToB)] id).heldOf 7 = [] ++ [(4, .aToB)] ∧
      (withTrain (.reserved 7) .free .free [(4, .aToB)] id).sec 4 ≠ .occupied 7 := by decide +kernel

theorem test_witness_RouteRequests_no_grant (x : Fin 48) :
    ((withTrain (.occupied 7) .free .free [(4, .aToB)] id).trains.get 7).claim ≠ .granted x := by
  rw [show ((withTrain (.occupied 7) .free .free [(4, .aToB)] id).trains.get 7).claim = .none by decide +kernel]
  nofun

/-! ### The motion axes -/

/-- A ROTARY axis that moves forward. -/
def turning : Axis := { Axis.initial with state := .moving, homed := true, v := 995, motion := .speed 1000 .forward }

/-- A POSITIONAL axis that moves to a position one step ahead. -/
def moving : Axis := { Axis.initial with kind := .positional, state := .moving, homed := true, v := 1000, f := 900, motion := .position 1 }

/-- A POSITIONAL axis in HOMING. -/
def homing : Axis := { Axis.initial with kind := .positional, state := .homing, v := 50, dir := .reverse, motion := .home }

theorem test_witness_AxisConfig :
    base.ready = true ∧ axisCfg.kind = AxisKind.rotary.code ∧
      (2 ≤ axisCfg.spr ∧ axisCfg.spr ≤ 65535 ∧ axisCfg.offset < axisCfg.spr ∧ -1000000 ≤ axisCfg.low ∧ axisCfg.low ≤ 0 ∧ 0 ≤ axisCfg.high ∧
        axisCfg.high ≤ 1000000) ∧
      (axisCfg.openPos ≠ axisCfg.closedPos ∧ min axisCfg.openPos axisCfg.closedPos ≤ 0 ∧ 0 ≤ max axisCfg.openPos axisCfg.closedPos) ∧
      ¬2 ≤ { axisCfg with spr := 1 }.spr ∧ ¬{ axisCfg with closedPos := 0 }.openPos ≠ { axisCfg with closedPos := 0 }.closedPos ∧
      (base.axes.get 0).state = .unhomed ∧ base.crossingsOf 0 = [] ∧ ((withAxis turning).axes.get 0).state = .moving := by decide +kernel

theorem test_witness_AxisRequests :
    (let s := railsUp (withAxis turning); let x := s.axes.get 0;
        s.ready = true ∧ s.supply.rails.motion = true ∧ x.kind = .rotary ∧ x.state = .moving ∧ x.meets 0 .forward = false ∧ x.homed = true ∧
          3199 < x.spr ∧ stopAtDistance x.spr 3199 x.pos x.dir x.stopping ≠ 0) ∧
      (let s := railsUp (withAxis { Axis.initial with state := .idle, homed := true }); let x := s.axes.get 0;
        s.ready = true ∧ x.kind = .rotary ∧ x.homed = true ∧ x.state = .idle ∧ 0 < x.spr ∧ stopAtDistance x.spr 0 x.pos .forward x.stopping = 0) ∧
      (let s := railsUp (withAxis { moving with state := .idle, v := 0, motion := .none }); let x := s.axes.get 0;
        s.ready = true ∧ x.kind = .positional ∧ x.homed = true ∧ x.state = .idle ∧ x.pos = max x.low (min x.high 0) ∧
          x.pos ≠ max x.low (min x.high 10001)) ∧
      (let s := railsUp (withAxis homing); let x := s.axes.get 0; s.ready = true ∧ s.supply.rails.motion = true ∧ x.state = .homing ∧ x.kind ≠ .gate) ∧
      (let x := (railsUp base).axes.get 0; x.state ≠ .held ∧ x.state ≠ .homing ∧ x.kind = .rotary ∧ x.state = .unhomed) := by decide +kernel

/-- An AXIS_SPEED a MOVING axis meets, AXIS_STOP with the rail DOWN, and a retarget at rest, ahead and behind. -/
theorem test_witness_AxisRequests_met :
    (let x := (railsUp (withAxis { turning with v := 1000 })).axes.get 0;
      x.kind = .rotary ∧ x.state = .moving ∧ 0 < min 1001 x.maxSpeed ∧ x.v = min 1001 x.maxSpeed ∧ x.dir = .forward) ∧
      (base.ready = true ∧ (base.axes.get 0).kind ≠ .gate ∧ (base.axes.get 0).state = .unhomed ∧ base.supply.rails.motion = false) ∧
      (withAxis turning).ready = true ∧ ((withAxis turning).axes.get 0).state = .moving ∧ Axis.initial.v = 0 ∧
      (0 < moving.v ∧ moving.dir = .forward ∧ moving.pos < 50 ∧ moving.stopping ≤ (50 - moving.pos).natAbs ∧ ¬moving.stopping ≤ (49 - moving.pos).natAbs) := by
  decide +kernel

theorem test_witness_AxisRequestsRefused :
    (let s := railsUp (withAxis { moving with kind := .gate }); s.ready = true ∧ (s.axes.get 0).kind = .gate) ∧
      (let s := railsUp (withAxis { moving with state := .held }); s.ready = true ∧ (s.axes.get 0).state = .held ∧ (s.axes.get 0).kind = .positional) ∧
      base.ready = true ∧ base.supply.rails.motion = false ∧ (base.axes.get 0).kind = .rotary ∧ 7 < 8 := by decide +kernel

/-- The rows of R116 that name the kind, the state, the homed flag, the direction and the angle. -/
theorem test_witness_AxisRequestsRefused_rows :
    (let s := railsUp (withAxis { moving with homed := false }); let x := s.axes.get 0;
      s.ready = true ∧ x.kind = .positional ∧ s.supply.rails.motion = true ∧ x.state ≠ .held ∧ x.homed = false) ∧
      (let s := railsUp (withAxis { turning with state := .homing }); let x := s.axes.get 0;
        s.ready = true ∧ x.kind = .rotary ∧ s.supply.rails.motion = true ∧ x.state = .homing ∧ ¬(x.state = .idle ∨ x.state = .moving)) ∧
      (let s := railsUp (withAxis turning); let x := s.axes.get 0;
        s.ready = true ∧ x.kind = .rotary ∧ x.state = .moving ∧ x.homed = true ∧ 1 < 2 ∧ x.spr ≤ 3200) ∧
      (let s := withAxis { turning with state := .fault }; s.ready = true ∧ (s.axes.get 0).kind ≠ .gate ∧ (s.axes.get 0).state = .fault) ∧
      (base.axes.get 0).state = .unhomed := by decide +kernel

/-- A state whose axis 0 is due for its update. -/
def dueAxis (x : Axis) : State := (withAxis x).modSched fun d => { d with axes := 1 }

/-- For each row that names an outcome, an axis whose due update has it. -/
theorem test_witness_AxisRows :
    (dueAxis moving).work.isClear = true ∧ (dueAxis moving).sched.axes.getLsbD 0 = true ∧ moving.updates = true ∧
      (moving.update false).finish = .arrival ∧ turning.updates = true ∧ (turning.update false).finish = .speedReached ∧
      ({ turning with v := 5, motion := .stop }.update false).finish = .stopRest ∧
      ({ turning with indexRun := 1 }.update true).index.isSome = true ∧
      ({ turning with travel := 6401 }.update false).finish = .missing .indexMissing ∧
      ({ homing with homeRun := 1 }.update true).finish = .homed ∧ ({ homing with homeRun := 1 }.update true).index.isNone = true ∧
      ({ homing with homeTravel := 40101 }.update false).finish = .missing .homeMissing := by decide +kernel

/-- The velocity of each motion mode (R107, R108, R110). -/
theorem test_witness_AxisRows_velocity :
    (0 < turning.accel ∧ turning.state ≠ .fault ∧ turning.motion = .speed 1000 .forward ∧ .forward = turning.dir ∧ Dir.reverse ≠ turning.dir ∧
        turning.accel < turning.v ∧ { turning with v := 10 }.v ≤ { turning with v := 10 }.accel ∧ 0 < { turning with v := 10 }.v) ∧
      { turning with state := .fault }.state = .fault ∧ homing.motion = .home ∧ homing.state ≠ .fault ∧ { turning with motion := .stop }.motion = .stop ∧
      { turning with motion := .stopAt 9 20 }.motion = .stopAt 9 20 ∧ moving.motion = .position 1 ∧ moving.phase = .cruise ∧
      { moving with phase := .reversing }.phase = .reversing ∧ moving.accel < moving.v := by decide

/-- The ends of an update: index confirmed while MOVING, HOMING and in FAULT, the two missing inputs, and home with and without a goal. -/
theorem test_witness_AxisRows_ends :
    let gate : Axis := { homing with kind := .gate, homeRun := 1, goal := .closed }
    (turning.kind = .rotary ∧ turning.dir = .forward ∧ 0 < turning.v ∧ min 2 (1 + 1) = 2 ∧ turning.armed = true ∧ turning.state ≠ .fault ∧
        turning.motion ≠ .home) ∧
      ({ turning with state := .homing, motion := .home }.motion = .home) ∧ (2 * turning.spr < ({ turning with travel := 6401 }.update false).axis.travel) ∧
      (gate.kind ≠ .rotary ∧ gate.motion = .home ∧ gate.state ≠ .fault ∧ min 2 (gate.homeRun + 1) = 2 ∧ gate.goalPos = some 1000 ∧ (1000 : Int) ≠ 0) ∧
      (homing.goal = .none ∧ homing.kind ≠ .gate ∧ min 2 (homing.homeRun + 1) ≠ 2) ∧ (moving.kind ≠ .rotary ∧ moving.motion ≠ .home) ∧ 0 < 3200 := by
  decide +kernel

/-- The completion by motion mode (R107 to R111). -/
theorem test_witness_AxisRows_complete :
    (moving.motion = .position 1 ∧ moving.phase = .cruise ∧ moving.pos ≠ 1 ∧ { moving with pos := 1 }.pos = 1 ∧ moving.state ≠ .fault) ∧
      { moving with phase := .reversing }.phase = .reversing ∧ { turning with motion := .stopAt 3 0 }.motion = .stopAt 3 0 ∧
      (let x := { turning with v := 1000 }; x.motion = .speed 1000 .forward ∧ x.v = 1000 ∧ x.dir = .forward ∧ x.met = false) ∧
      ¬(turning.v = 1000 ∧ turning.dir = .forward ∧ turning.met = false) ∧ { turning with motion := .none }.motion = .none := by decide

/-- A WARM reset's own reply at its end, and a layout in service with a grant in flight and a pulse, without either, and with a train
that holds two PENDING sections alone. -/
theorem test_witness_WarmResetKeeps_service :
    (let r : Reply := { kind := 0x83, tag := 0, answer := okay, origin := .reset .warm };
      let s := withLink [slot] [] (some .warm) (.reply r);
      s.work.isClear = true ∧ s.link.tx = .reply r ∧ r.origin = .reset .warm) ∧
      (let s := (withTrain (.occupied 7) (.pending 7) .free [(4, .aToB), (5, .aToB)] id).setUnit (.pulsing 2 .reverse 9 (some 7));
        let names := (s.heldOf 7).map Prod.fst;
        s.track.unit_ = .pulsing 2 .reverse 9 (some 7) ∧ names.Nodup ∧ 5 ∈ names ∧ s.sec 5 = .pending 7 ∧ ¬∀ y ∈ names, s.sec y = .pending 7) ∧
      (let s := withTrain (.pending 7) (.pending 7) .free [(4, .aToB), (5, .aToB)] id;
        let names := (s.heldOf 7).map Prod.fst;
        names.Nodup ∧ (∀ y ∈ names, s.sec y = .pending 7) ∧ names.head? = some 4 ∧ names.head? ≠ some 5) ∧
      base.track.unit_ = .ready ∧ (withAxis turning).axes.get 0 = turning ∧ turning.state = .moving := by decide +kernel

theorem test_witness_WarmResetKeeps_sections (k : Fin 8) : layout.sec 4 ≠ .pending k := by
  rw [show layout.sec 4 = .free by decide +kernel]
  nofun

theorem test_witness_AxisStaysInBounds :
    (moving.creep ≤ moving.maxSpeed ∧ moving.v ≤ moving.maxSpeed ∧ 2 ≤ moving.spr ∧ moving.updates = true ∧ moving.lowLimit ≤ 0 ∧
        0 ≤ moving.highLimit ∧ moving.lowLimit ≤ moving.pos ∧ moving.pos ≤ moving.highLimit ∧ moving.motion = .position 1 ∧
        (moving.update false).finish = .arrival) ∧
      (turning.kind = .rotary ∧ turning.offset < turning.spr ∧ turning.motion = .speed 1000 .forward ∧ 1000 ≤ turning.maxSpeed ∧
        turning.updates = true) := by decide +kernel

theorem test_witness_AxisStaysInBounds_speed (w : Nat) (d : Dir) : moving.motion = .speed w d → w ≤ moving.maxSpeed := nofun

/-! ### Cue lists, players and triggers -/

/-- A state with list 5 READY with one CUE_MARK step. -/
def withList : State := base.modList 5 fun c => { c with state := .ready, length := 1 }

/-- A state whose player 7 is one's own. -/
def withPlayer (f : Player → Player) : State := withList.modPlayer 7 f

theorem test_witness_ListRequests :
    base.ready = true ∧ (31 ≤ 31 ∧ [noneStep].length ≤ 17 ∧ 31 + [noneStep].length ≤ 32) ∧ base.listUser 5 = none ∧
      (let c := ((base.cue.lists.get 5).write 31 [noneStep.stored]).cut 32; validateList c.run = none) ∧
      (let r : StepRec := { noneStep with action := 22 };
        let c := ((base.cue.lists.get 5).write 0 [r.stored]).cut 1; validateList c.run = some (.badAction, 0)) ∧
      ¬32 ≤ 31 ∧ ((withPlayer fun x => { x with cur := some (5, 0) }).listUser 5 = some 7) := by decide +kernel

/-- A list in use, a step that fails each of its checks, and lists that stay valid, leave a repeat open or repeat without end. -/
theorem test_witness_ListRequests_steps :
    (let s := withPlayer fun x => { x with state := .running, cur := some (5, 0) };
      s.ready = true ∧ s.listUser 5 = some 7 ∧ (s.cue.players.get 7).uses 5 = true ∧ ∀ q, q < 7 → (s.cue.players.get q).uses 5 = false) ∧
      (noneStep.actionValid = true ∧ noneStep.paramsValid = true ∧ noneStep.waitValid = true ∧ noneStep.flagsValid = true ∧ noneStep.failure 0 = none) ∧
      { noneStep with action := 22 }.actionValid = false ∧ { noneStep with action := 16, p1 := 256 }.paramsValid = false ∧
      { noneStep with waitKind := 5 }.waitValid = false ∧ { noneStep with flags := 1 }.flagsValid = false ∧
      { noneStep with action := 19 }.failure 0 = some .repeatUnbalanced ∧ { noneStep with action := 18 }.failure 8 = some .repeatNesting ∧
      (let b := { noneStep with action := 18 }; let e := { noneStep with action := 19 };
        validateList [b, e] = some (.endlessRepeat, 0) ∧ validateList [{ b with p1 := 1 }, e] = none ∧ validateList [b] = some (.repeatUnbalanced, 0)) ∧
      31 ≤ 31 ∧ 63 < 64 := by decide +kernel

theorem test_witness_PlayerRequests :
    base.ready = true ∧ (base.cue.lists.get 5).state ≠ .ready ∧ withList.ready = true ∧ (withList.cue.lists.get 5).state = .ready ∧
      (withList.cue.players.get 7).state = .idle ∧
      (let s := withPlayer fun x => { x with state := .waiting }; s.ready = true ∧ (s.cue.players.get 7).state ≠ .idle ∧
        (s.cue.players.get 7).state ≠ .fault ∧ (s.cue.players.get 7).state = .waiting) ∧
      (let s := withPlayer fun x => { x with state := .paused, prePause := some .waiting };
        s.ready = true ∧ (s.cue.players.get 7).state = .paused ∧ (s.cue.players.get 7).prePause = some .waiting) ∧
      15 ≤ 15 ∧ 15 < 16 := by decide +kernel

theorem test_witness_PlayerRequests_resume :
    let paused := fun (st : PlayerState) (o : Option AwaitOutcome) => (withPlayer fun x => { x with
      state := .paused, prePause := some st, await := some { action := 8, target := 0, expect := .axis 0, since := 0, outcome := o } })
    (let s := paused .blocked none; s.ready = true ∧ (s.cue.players.get 7).state = .paused ∧ (s.cue.players.get 7).prePause = some .blocked) ∧
      (let x := (paused .running none).cue.players.get 7; x.prePause = some .running ∧ x.await.bind AwaitRec.outcome = none) ∧
      ((paused .running (some .completed)).cue.players.get 7).await.bind AwaitRec.outcome = some .completed ∧
      ((paused .running (some (.failed .axisFault 2))).cue.players.get 7).await.bind AwaitRec.outcome = some (.failed .axisFault 2) ∧ 7 < 8 ∧ 63 < 64 ∧
      2 < 3 := by decide +kernel

theorem test_witness_WaitsAndContention :
    (let s := withPlayer fun x => { x with state := .waiting, wait := some ⟨.realMs 0, 0⟩ };
        s.work.isClear = true ∧ (s.cue.players.get 7).state = .waiting ∧ (s.cue.players.get 7).wait = some ⟨.realMs 0, 0⟩) ∧
      (let s := withPlayer fun x => { x with state := .waiting, wait := some ⟨.townSeconds 1, 0⟩ };
        s.work.isClear = true ∧ (s.cue.players.get 7).wait = some ⟨.townSeconds 1, 0⟩ ∧ 0 < 1) ∧
      (let s := withPlayer fun x => { x with state := .waiting, wait := some ⟨.event ⟨4, none⟩ (some (9, 0)), 0⟩ };
        s.work.isClear = true ∧ (s.cue.players.get 7).wait = some ⟨.event ⟨4, none⟩ (some (9, 0)), 0⟩) ∧
      (let s := base.modSupply fun k => { k with keyOn := true }; 32 ≤ 47 ∧ 47 < 48 ∧ s.supply.keyOn = true) ∧
      base.supply.keyOn = false ∧ base.cue.holders.get 31 = none ∧ (base.setHolder 31 (some 7)).cue.holders.get 31 = some 7 ∧
      (let s := base.setHolder 48 (some 6); s.cue.holders.get 48 = some 6 ∧ (6 : Fin 8) ≠ 7 ∧
        (s.cue.players.get 6).priority < (s.cue.players.get 7).priority ∧ (s.cue.players.get 6).priority ≤ (s.cue.players.get 6).priority) := by
  decide +kernel

/-- A state whose player 7 runs list 5 with one step of one's own. -/
def atStep (r : StepRec) (f : Player → Player) : State :=
  (withPlayer fun x => f { x with state := .running, cur := some (5, 0) }).modList 5 fun c => { c with steps := c.steps.set 0 r }

/-- Issued actions that are refused, awaited and done with; an await completed and failed; targets handed over to the first of two. -/
theorem test_witness_WaitsAndContention_issue :
    (let s := atStep { noneStep with action := 4, target := 0, p1 := 9 } id; (issueAction (s.stepOf 7) s).2.code = .wrongState) ∧
      (let s := atStep { noneStep with action := 1, target := 0, flags := 1 } id; (issueAction (s.stepOf 7) s).2.code = .ok ∧ (s.stepOf 7).awaits = true) ∧
      (let s := atStep noneStep id; (issueAction (s.stepOf 7) s).2.code = .ok ∧ (s.stepOf 7).awaits = false) ∧
      (let a : AwaitRec := { action := 5, target := 6, expect := .route 6 47, since := 4, outcome := none };
        a.verdict 0 (.event (.routeReady 6 47)) = some .completed ∧ a.verdict 4 (.ending (.route 6)) = some .completed ∧
          a.verdict 3 (.ending (.route 6)) = none ∧ a.verdict 0 (.event (.routeFault 6 .noThrow)) = some (.failed .routeFault 0)) ∧
      (let waits := fun x : Player => { x with state := .blocked, blocked := some (.target 48) };
        let s := (base.modPlayer 6 waits).modPlayer 7 fun x => { waits x with priority := 6 };
        [(48 : Fin 57), 0].Nodup ∧ (s.cue.players.get 6).state = .blocked ∧ (s.cue.players.get 6).blocked = some (.target 48) ∧
          (s.cue.players.get 7).priority = (s.cue.players.get 6).priority ∧ (6 : Fin 8) < 7 ∧
          (∀ q, (s.cue.players.get q).blocked ≠ some (.target 0)) ∧ (releaseTargets [48, 0] s).cue.holders.get 48 = some 6) := by decide +kernel

/-- The advances of R135 to R137: each control step with its checks passed and failed, and the return from a list. -/
theorem test_witness_WaitsAndContention_advance :
    let call := fun (k : Nat) (f : Player → Player) => atStep { noneStep with action := 17, p1 := k } f
    let frame : RepeatFrame := { begin := 0, remaining := 1, until_ := some ⟨4, none⟩, seen := false, depth := 0 }
    (((call 6 id).stepOf 7).action = 17 ∧ ((call 6 id).cue.players.get 7).cur = some (5, 0) ∧ ((call 6 id).cue.players.get 7).calls.length < 4 ∧
        ((call 6 id).cue.lists.get 6).state ≠ .ready ∧ ((call 5 id).cue.lists.get 5).state = .ready) ∧
      (let s := (call 6 fun x => { x with calls := [(1, 0)] }).modList 6 fun c => { c with state := .ready };
        (s.cue.lists.get 6).state = .ready ∧ (5 : Fin 64) ≠ 6 ∧ ∀ c ∈ (s.cue.players.get 7).calls, c.1 ≠ 6) ∧
      4 ≤ ((call 6 fun x => { x with calls := List.replicate 4 (1, 0) }).cue.players.get 7).calls.length ∧
      (let s := atStep { noneStep with action := 18 } fun x => { x with repeats := List.replicate 8 frame };
        (s.stepOf 7).action = 18 ∧ 8 ≤ (s.cue.players.get 7).repeats.length) ∧
      ((atStep { noneStep with action := 18 } id).cue.players.get 7).repeats.length < 8 ∧
      (let s := atStep { noneStep with action := 19 } fun x => { x with repeats := [frame] };
        (s.stepOf 7).action = 19 ∧ (s.cue.players.get 7).repeats = frame :: [] ∧ frame.remaining = 1 ∧ { frame with remaining := 0 }.remaining ≠ 1 ∧
          frame.seen = false ∧ frame.until_ = some ⟨4, none⟩) ∧
      ((atStep { noneStep with action := 20, target := 0xFF } id).stepOf 7).action = 20 ∧ ((atStep { noneStep with action := 21 } id).stepOf 7).action = 21 ∧
      ((atStep { noneStep with action := 16 } id).stepOf 7).action = 16 ∧ noneStep.action < 16 ∧
      (let s := withPlayer fun x => { x with state := .running, cur := some (5, 1), calls := [(3, 2)], pendingStart := some (6, .queue) };
        (s.cue.players.get 7).cur = some (5, 1) ∧ (s.cue.lists.get 5).length ≤ 1 ∧ (s.cue.players.get 7).calls = (3, 2) :: [] ∧
          (s.cue.players.get 7).pendingStart = some (6, .queue)) ∧
      (withList.cue.players.get 7).calls = [] ∧ (withList.cue.players.get 7).pendingStart = none := by decide +kernel

theorem test_witness_TriggerUnitRequests :
    base.ready = true ∧ 65535 ≤ 65535 ∧ readSource 2 7 1 = some (.inputEdge 7 .falling) ∧ readSource 255 0 0 = none ∧ 7 < 8 ∧ 31 < 32 ∧ 63 < 64 ∧
      2 < 3 ∧ 1 < 2 ∧ 65535 < 65536 := by decide +kernel

theorem test_witness_InputsAndCounters :
    ((⟨20, false, 0, false⟩ : Conditioner).initialized = false ∧ (⟨20, false, 18, true⟩ : Conditioner).run + 1 < 20 ∧
        20 ≤ (⟨20, false, 19, true⟩ : Conditioner).run + 1) ∧
      ((⟨.off, .rising, 0, 0⟩ : Counter).mode = .off ∧ (⟨.reload, .rising, 9, 1⟩ : Counter).mode ≠ .off ∧ 0 < (⟨.reload, .rising, 9, 1⟩ : Counter).count ∧
        (⟨.reload, .rising, 9, 0⟩ : Counter).count = 0 ∧ (⟨.oneShot, .rising, 9, 0⟩ : Counter).mode = .oneShot) ∧
      (let s := (base.modInput 7 fun _ => ⟨20, true, 19, true⟩).modSched fun d => { d with inputs := 128 };
        s.work.isClear = true ∧ (s.sched.inputs.getLsbD 7 &&
          ((s.modPins fun p => { p with window := p.window &&& ~~~(1#8 <<< 7) }).wouldEdge 7).isSome) = true) := by decide +kernel

theorem test_witness_TriggerApplied :
    (base.trig.triggers.get 31).applied = false ∧ ((base.modTrigger 31 fun k => { k with applied := true }).trig.triggers.get 31).applied = true := by
  decide +kernel

/-! ### The supply -/

/-- A state with a supply of one's own, its overload and key samples due. -/
def withSupply (f : Supply → Supply) : State := (base.modSupply f).modSched fun d => { d with overload := true, key := true }

theorem test_witness_RailsAndPrograms :
    base.ready = true ∧ (List.replicate 8 (15, 15)).length = 8 ∧ (∀ x ∈ List.replicate 8 (15, 15), x.1 ≤ 15) ∧ base.supply.seq = .idle ∧
      (∃ t : Table (Nat × Rails) 8, t.items = (List.replicate 8 (15, 15)).map fun x => (x.1, railsOf x.2)) ∧ 1 < 2 ∧
      base.supply.seq.runs .raise = false ∧
      (let s := withSupply fun k => { k with seq := .active .raise 6 0 };
        s.ready = true ∧ s.work.isClear = true ∧ s.supply.seq = .active .raise 6 0 ∧ s.supply.seq ≠ .idle ∧ s.supply.seq.runs .raise = true ∧
          s.supply.seq.runs .lower = false ∧ 6 + 1 < 8) ∧
      (withSupply fun k => { k with seq := .active .lower 7 0 }).supply.seq = .active .lower 7 0 :=
  ⟨by decide +kernel, by decide, by decide, by decide +kernel, ⟨.replicate 8 (15, railsOf 15), by decide +kernel⟩, by decide,
    by decide +kernel, by decide +kernel, by decide +kernel⟩

/-- An exponent above 15, a pattern that changes the MOTION rail, and the axes it meets. -/
theorem test_witness_RailsAndPrograms_rails :
    (let l := (15, 0) :: (16, 0) :: List.replicate 6 (0, 0);
      l.length = 8 ∧ l = [(15, 0)] ++ (16, 0) :: List.replicate 6 (0, 0) ∧ (∀ y ∈ [(15, 0)], y.1 ≤ 15) ∧ 15 < 16) ∧
      (base.supply.rails.up .motion ≠ (⟨false, true, false, false⟩ : Rails).up .motion) ∧ ((withAxis turning).axes.get 0).state = .moving ∧
      (let x := (withAxis { Axis.initial with kind := .gate, goal := .closed }).axes.get 0; x.kind = .gate ∧ x.state = .unhomed ∧ x.goal ≠ .none) ∧
      (base.axes.get 0).kind ≠ .gate := by decide +kernel

theorem test_witness_RailsAndPrograms_idle (q : Program) (i : Fin 8) : base.supply.seq ≠ .active q i 0 := by
  rw [show base.supply.seq = .idle by decide +kernel]
  nofun

theorem test_witness_Overload :
    (let s := withSupply fun k => { k with overloadRun := 1, onsets := 1 };
        s.work.isClear = true ∧ s.sched.overload = true ∧ s.supply.overload = false ∧ s.supply.overloadRun = 1 ∧ s.supply.onsets < 2) ∧
      (withSupply fun k => { k with overloadRun := 1, onsets := 2 }).supply.onsets = 2 ∧
      (let k := (withSupply fun k => { k with overload := true, overloadRun := 1, cutoff := true }).supply;
        k.overload = true ∧ k.overloadRun = 1 ∧ k.cutoff = true ∧ k.endTimer = none) ∧
      (base.sched.overload = false ∧ base.supply.cutoff = false ∧ base.supply.endTimer ≠ some 0 ∧ base.supply.quiet ≠ some 0) ∧
      (let k := (withSupply fun k => { k with endTimer := some 0, quiet := some 0 }).supply; k.endTimer = some 0 ∧ k.quiet = some 0) := by
  decide +kernel

theorem test_witness_DressingKey :
    (base.work.isClear = true ∧ base.sched.key = false) ∧
      (let s := withSupply fun k => { k with keyRun := 48 };
        s.work.isClear = true ∧ s.sched.key = true ∧ false = s.supply.keyOn ∧ true ≠ s.supply.keyOn ∧ s.supply.keyRun + 1 < 50) ∧
      (let k := (withSupply fun k => { k with keyRun := 49 }).supply; 50 ≤ k.keyRun + 1 ∧ k.keyOn = false) ∧
      (let k := (withSupply fun k => { k with keyRun := 49, keyOn := true }).supply; 50 ≤ k.keyRun + 1 ∧ k.keyOn = true) := by decide +kernel

/-- The axes at ON and OFF: under way; HELD with a goal, with a fault, and without either. -/
theorem test_witness_DressingKey_axes :
    let held : Axis := { Axis.initial with kind := .gate, state := .held, goal := .open_ }
    ((withAxis turning).axes.get 0).state = .moving ∧
      (let s := railsUp (withAxis held); let x := s.axes.get 0;
        s.work.isClear = true ∧ s.supply.rails.motion = true ∧ x.kind = .gate ∧ x.state = .held ∧ x.fault = none ∧ x.goal = .open_) ∧
      { held with goal := .closed }.goal = .closed ∧ { held with fault := some .gateTimeout }.fault ≠ none ∧ Axis.initial.state ≠ .held := by
  decide +kernel

theorem test_witness_Queries : base.ready = true := by decide +kernel

/-- The clauses of the queries: a section and a crossing in and out of service, and a range of steps at each end. -/
theorem test_witness_Queries_service :
    (layout.ready = true ∧ layout.track.config = .operational ∧ (layout.track.defs.get 4).present = true ∧ (layout.track.defs.get 47).present ≠ true) ∧
      (let k : Coupling := { demand := .open_, last := none, openDelay := some 9, timeout := .suspended 7, retry := false };
        (crossed k).ready = true ∧ (crossed k).track.config = .operational ∧ ((crossed k).track.crossings.get 3).defn = some ⟨7, [4]⟩ ∧
          (crossed k).track.couplings.get 3 = some k) ∧
      (base.track.crossings.get 0).defn = none ∧ (15 ≤ 31 ∧ 17 ≤ 17 ∧ 15 + 17 ≤ 32) ∧ ¬(16 ≤ 31 ∧ 17 ≤ 17 ∧ 16 + 17 ≤ 32) := by decide +kernel

/-- Every invariant's premise holds after reset, and a step answers a next state there. -/
theorem test_witness_ClockInvariant : base.clock.wf = true ∧ step base = .next base := ⟨by decide +kernel, rfl⟩

theorem test_witness_LinkInvariant : base.link.wf = true ∧ step base = .next base := ⟨by decide +kernel, rfl⟩

theorem test_witness_RecordInvariants :
    (∀ k, (base.trains.get k).wf = true) ∧ base.axesWf = true ∧ base.cue.wf = true ∧ base.heldWf = true ∧ step base = .next base :=
  ⟨by decide +kernel, by decide +kernel, by decide +kernel, by decide +kernel, rfl⟩

/-- The invariants hold in a layout in service with a train that holds sections, an axis that moves and a player that holds a target. -/
theorem test_witness_RecordInvariants_service :
    (let s := withTrain (.occupied 7) (.reserved 7) .free [(4, .aToB), (5, .aToB)] fun t => { t with requested := 255, speed := 9, dir := .up };
      s.heldWf = true ∧ (s.trains.get 7).wf = true) ∧
      (railsUp (withAxis turning)).axesWf = true ∧ (withAxis turning).axesWf = false ∧
      ((withPlayer fun x => { x with state := .running, cur := some (5, 0) }).setHolder 48 (some 7)).cue.wf = true ∧
      (base.setHolder 48 (some 7)).cue.wf = false := by decide +kernel

/-! ### The remaining clauses, refusals first, each at a boundary of its range -/

/-- A RESET that waits with four slots occupied of which one is not taken; and the last byte of an IDENTIFY with one byte too many, a
wrong length next to the right ones of each form of R175's table. -/
theorem test_witness_FrameHandedIn_lengths :
    (let s := withLink [slot, slot, slot, { slot with taken := false }] [busy, busy, busy] (some .cold) .idle;
      s.work.isClear = true ∧ 4 ≤ s.link.slots.length ∧ s.link.slots.all Slot.taken ≠ true ∧ s.link.resetWaiting.isSome = true ∧
        s.link.busyCount < 4) ∧
      (let covered := [3#8, 1#8, 7#8, 0#8]; let check := crc16 covered;
        let s := atByte (.inFrame 3 [1#8, 7#8, 0#8, (check >>> 8).truncate 8]);
        s.ready = true ∧ s.link.rx = .inFrame ([0#8].length + 2) [1#8, 7#8, 0#8, (check >>> 8).truncate 8] ∧ 5000 ≤ 5000 ∧
          BitVec.ofNat 8 ([0#8].length + 2) :: 1#8 :: 7#8 :: [0#8] = covered ∧
          [1#8, 7#8, 0#8, (check >>> 8).truncate 8] ++ [BitVec.ofNat 8 ((check.truncate 8 : Byte)).toNat] =
            1#8 :: 7#8 :: [0#8] ++ [(check >>> 8).truncate 8, check.truncate 8]) ∧
      parseRequest (1#8).toNat ([0#8].map BitVec.toNat) = .badLength ∧ parseRequest 0x50 (List.replicate 241 0) ≠ .badLength ∧
      parseRequest 0x50 (List.replicate 242 0) = .badLength ∧ parseRequest 0x31 [0] = .badLength ∧ parseRequest 0x08 (List.replicate 5 0) = .badLength := by
  decide +kernel

/-- The countdowns of a real millisecond: each timer at its last count, a train on a ramp one count short of its step, and the waits. -/
theorem test_witness_RealMillisecond_countdowns :
    (withSecs (.clearing 1) .free .free).sec 4 = .clearing 1 ∧ layout.sec 4 = .free ∧
      (let s := withPlayer fun x => { x with state := .waiting, wait := some ⟨.realMs 1, 0⟩ };
        (s.cue.players.get 7).state = .waiting ∧ (s.cue.players.get 7).wait = some { kind := .realMs 1, since := 0 }) ∧
      (let s := withPlayer fun x => { x with state := .waiting, wait := some ⟨.event ⟨4, none⟩ (some (9, 1)), 0⟩ };
        (s.cue.players.get 7).state = .waiting ∧ (s.cue.players.get 7).wait = some { kind := .event ⟨4, none⟩ (some (9, 1)), since := 0 }) ∧
      (base.cue.players.get 7).state ≠ .waiting ∧
      (let s := withTrain (.occupied 7) .free .free [(4, .aToB)] fun t => { t with dir := .up, timer := t.accel - 1 };
        (s.trains.get 7).dir ≠ .level ∧ ((countMs s).trains.get 7).stepDue = true) := by decide +kernel

theorem test_witness_CurveAndGammaWrites_minute :
    base.ready = true ∧
      (let l := [(1439, 0), (1440, 5)];
        l = [(1439, 0)] ++ (1440, 5) :: [] ∧ l.length ≠ 1 ∧ l.length ≤ 16 ∧ (∀ y ∈ [(1439, 0)], y.1 ≤ 1439) ∧ 1439 < 1440) ∧ 31 < 32 := by
  decide +kernel

theorem test_witness_ChannelsAndPlaces_fields :
    base.ready = true ∧ (47 < { noBind with item := 48 }.item ∧ { noBind with item := 47, aspect := 3 }.item ≤ 47 ∧ 2 < 3) ∧
      (7 < { noBind with item := 8 }.item ∧ { noBind with item := 7 }.item ≤ 7 ∧ noBind.width = 0) ∧ 3 < { noBind with item := 4 }.item ∧
      (placed.ready = true ∧ placed.light.placeOf 7 = .pwm 3) ∧ 15 < 16 ∧ 511 < 512 ∧ 3 < 4 ∧ 0 < 1 ∧ 128 < 129 ∧ 128 < 1 + 128 ∧ 512 < 511 + 2 := by
  decide +kernel

/-- A generator within a phase, at the end of ON, and at the end of OFF without a burst, in a burst and at its end. -/
theorem test_witness_LightFrame_blinks :
    let at_ := fun b : Blink => ((withGroup fun g => { g with blink := some b }).light.groups.get 31).blink
    (base.light.groups.get 31).blink = none ∧ at_ ⟨1, 1, 0, true, 1⟩ = some ⟨1, 1, 0, true, 1⟩ ∧ at_ ⟨1, 1, 0, true, 0⟩ = some ⟨1, 1, 0, true, 0⟩ ∧
      at_ ⟨1, 1, 0, false, 0⟩ = some ⟨1, 1, 0, false, 0⟩ ∧ at_ ⟨1, 1, 2, false, 0⟩ = some ⟨1, 1, 2, false, 0⟩ ∧
      at_ ⟨1, 1, 1, false, 0⟩ = some ⟨1, 1, 1, false, 0⟩ ∧ (⟨1, 1, 1, false, 0⟩ : Blink).burst = 1 := by decide +kernel

/-- A layout that closes with one STRAY section, and a crossing that starts to couple with either demand, with a delay and without. -/
theorem test_witness_LayoutOpenClose_service :
    (let s := layout.modTrack fun k => { k with detectors := k.detectors.set 4 ⟨true, 0⟩ };
      [(4 : Fin 48)].Pairwise (· < ·) ∧ ∀ x, x ∈ [(4 : Fin 48)] ↔ (s.track.defs.get x).present = true ∧ (s.track.detectors.get x).occupied = true) ∧
      (base.track.crossings.get 3).defn = none ∧
      (let s := crossed { demand := .open_, last := none, openDelay := none, timeout := .absent, retry := false };
        (s.track.crossings.get 3).defn = some ⟨7, [4]⟩ ∧ s.engaged = false ∧ demandOf s [4] = .open_ ∧ 0 < (s.track.crossings.get 3).openDelay ∧
          (s.modSupply fun k => { k with keyOn := true }).engaged = true ∧
          demandOf (s.modRun 4 fun r => { r with state := .stray }) [4] = .close ∧
          (let s := s.modTrack fun k => { k with crossings := k.crossings.modify 3 fun r => { r with openDelay := 0 } };
            (s.track.crossings.get 3).openDelay = 0 ∧ (s.track.crossings.get 3).defn = some ⟨7, [4]⟩ ∧ demandOf s [4] = .open_)) := by
  decide +kernel

/-- Links that fail each check, at end A, at end B and at both, and links that lead back to their own end or to one point twice. -/
theorem test_witness_SectionDefinition_links :
    (editing.ready = true ∧ editing.track.config = .editing) ∧
      (readLink ⟨3, 0, 0⟩ = .error 1 ∧ readLink ⟨1, 48, 0⟩ = .error 2 ∧ readLink ⟨1, 47, 2⟩ = .error 2 ∧ readLink ⟨2, 24, 0⟩ = .error 3) ∧
      (2 < 3 ∧ 47 < 48 ∧ 1 < 2 ∧ 23 < 24 ∧ readLink noLink = .ok .buffer) ∧ readLink ⟨1, 4, 0⟩ = .ok (.plain 4 .a) ∧
      readLink ⟨1, 4, 1⟩ = .ok (.plain 4 .b) ∧ Link.plain 4 .b ≠ .plain 4 .a ∧ readLink ⟨2, 23, 0⟩ = .ok (.point 23) := by decide +kernel

/-- POINT_DEFINE's refusals, and CROSSING_DEFINE's of a member twice, of another crossing's member and of another crossing's gate axis. -/
theorem test_witness_PointAndCrossingDefinition_refused :
    (editing.ready = true ∧ editing.track.config = .editing ∧ (editing.setUnit (.pulsing 23 .normal 5 none)).pulsing 23 = true ∧
        editing.pulsing 23 = false) ∧
      (let d : RawPoint := ⟨47, 47, 1, 47, 1, 50⟩;
        (d.section_ ≤ 47 ∧ d.normalSection ≤ 47 ∧ d.normalEnd ≤ 1 ∧ d.reverseSection ≤ 47 ∧ d.reverseEnd ≤ 1) ∧
          d.normalSection = d.reverseSection ∧ d.normalEnd = d.reverseEnd ∧ ¬{ d with reverseEnd := 2 }.reverseEnd ≤ 1) ∧
      (23 < 24 ∧ 3 < 4 ∧ 7 < 8 ∧ ([] : List Nat).length < 1 ∧ 4 < [0, 1, 2, 3, 4].length ∧ ∃ x ∈ [48], 47 < x) ∧
      (let l : List (Fin 48) := [4, 47, 4]; l = [4, 47] ++ 4 :: [] ∧ [(4 : Fin 48), 47].Nodup ∧ (4 : Fin 48) ∈ [(4 : Fin 48), 47]) ∧
      (let s := editing.modTrack fun k => { k with
          defs := k.defs.modify 47 fun d => { d with crossing := some 0 }, crossings := k.crossings.set 0 ⟨some ⟨7, [47]⟩, 1000, 4000⟩ };
        s.ready = true ∧ s.track.config = .editing ∧ (s.track.defs.get 4).crossing = none ∧ (s.track.defs.get 47).crossing = some 0 ∧
          (0 : Fin 4) ≠ 3 ∧ [(4 : Fin 48), 47] = [4] ++ 47 :: [] ∧ (s.track.crossings.get 0).defn = some ⟨7, [47]⟩) := by decide +kernel

/-- GATE_STATE CLOSED at a crossing: a retry under a demand of OPEN, with a delay and without, and without a retry. -/
theorem test_witness_ThrowsAndCrossings_closed :
    let k : Coupling := { demand := .open_, last := some .close, openDelay := none, timeout := .running 9, retry := true }
    ((crossed k).track.crossings.get 3).defn = some ⟨7, [4]⟩ ∧ (crossed k).track.couplings.get 3 = some k ∧ k.retry = true ∧
      k.demand = .open_ ∧ (crossed k).engaged = false ∧ 0 < ((crossed k).track.crossings.get 3).openDelay ∧
      (((crossed k).modTrack fun t => { t with crossings := t.crossings.modify 3 fun r => { r with openDelay := 0 } }).track.crossings.get 3).openDelay = 0 ∧
      { k with retry := false }.retry ≠ true ∧ GateState.open_ ≠ .closed := by decide +kernel

/-- A gate whose state has changed, one whose state has not, and an axis that is no gate any more; and GATE_RETRY's refusals. -/
theorem test_witness_ThrowsAndCrossings_sync :
    (let k : Coupling := { demand := .open_, last := none, openDelay := none, timeout := .absent, retry := false };
      let gate : Axis := { Axis.initial with kind := .gate, state := .idle, homed := true, pos := 1000 };
      let s := (crossed k).modAxis 7 fun _ => gate; let x := s.axes.get 7;
      x.gateState ≠ x.reported ∧ x.kind = .gate ∧ [(3 : Fin 4)].Pairwise (· < ·) ∧ s.crossingsOf 7 = [3] ∧ { gate with reported := .closed }.gateState = .closed ∧
        s.ready = true ∧ 3 < 4 ∧ (s.track.crossings.get 0).defn = none ∧ base.track.config ≠ .operational) ∧
      ({ Axis.initial with reported := .closed }.gateState ≠ { Axis.initial with reported := .closed }.reported ∧ Axis.initial.kind ≠ .gate) := by
  decide +kernel

theorem test_witness_Detectors_served :
    (let s := sampling false 2; s.trackPowered = true ∧ s.track.config = .operational ∧ (s.track.defs.get 4).present = true ∧
      ((s.track.detectors.get 4).sample (s.track.defs.get 4).filter true).2 = .enter) ∧
      (let s := sampling true 298; s.trackPowered = true ∧ ((s.track.detectors.get 4).sample (s.track.defs.get 4).filter false).2 = .leave) ∧
      ((sampling false 1).track.detectors.get 4).sample 300 true = (⟨false, 2⟩, .nothing) ∧ ((sampling false 2).track.defs.get 47).present ≠ true := by
  decide +kernel

/-- TRAIN_PLACE on three sections in a row, and on lists that fail each of R88's checks. -/
theorem test_witness_PlaceAndRemove_lists :
    let l : List (Fin 48 × Sense) := [(4, .aToB), (5, .aToB), (6, .aToB)]
    (layout.ready = true ∧ 1 ≤ l.length ∧ l.length ≤ 4 ∧ layout.track.config = .operational ∧ (layout.trains.get 7).placed = false ∧
        (∀ x ∈ l.map Prod.fst, (layout.track.defs.get x).present = true) ∧ (l.map Prod.fst).Nodup ∧ layout.linkAt 4 .b = .plain 5 .a ∧
        layout.linkAt 5 .b = .plain 6 .a ∧ ∀ x ∈ l.map Prod.fst, layout.sec x = .free) ∧
      ([(4 : Fin 48), 47] = [4] ++ 47 :: [] ∧ (layout.track.defs.get 47).present ≠ true) ∧
      ([(4 : Fin 48), 5, 4] = [4, 5] ++ 4 :: [] ∧ [(4 : Fin 48), 5].Nodup ∧ (4 : Fin 48) ∈ [(4 : Fin 48), 5]) ∧
      ([((4 : Fin 48), Sense.aToB), (6, .aToB)] = [] ++ (4, .aToB) :: (6, .aToB) :: [] ∧ layout.linkAt 4 .b ≠ .plain 6 .a) ∧
      (withSecs .stray (.clearing 9) .free).sec 5 = .clearing 9 ∧ (withSecs .stray (.clearing 9) .free).sec 4 = .stray := by decide +kernel

theorem test_witness_PlaceAndRemove_range :
    7 < 8 ∧ ([] : List (Nat × Nat)).length < 1 ∧ 4 < (List.replicate 5 (0, 0)).length ∧
      ([(47, 0), (48, 0)] = [(47, 0)] ++ (48, 0) :: [] ∧ [(47, 0), (48, 0)].length ≤ 4 ∧ (∀ y ∈ [(47, 0)], y.1 ≤ 47) ∧ 47 < 48) ∧
      ([(47, 1), (47, 2)] = [(47, 1)] ++ (47, 2) :: [] ∧ (∀ y ∈ [(47, 1), (47, 2)], y.1 ≤ 47) ∧ (∀ y ∈ [(47, 1)], y.2 ≤ 1) ∧ 1 < 2) ∧
      (let s := withTrain (.occupied 7) (.reserved 7) .free [(4, .aToB), (5, .aToB)] id; s.sec 4 = .occupied 7 ∧ s.sec 5 ≠ .occupied 7) := by decide +kernel

/-- A route's next section entered at end A, at end B and at neither; and what a train gives up: with an OCCUPIED section, with none,
and with PENDING ones alone. -/
theorem test_witness_RouteRequests_trace :
    ((layout.track.defs.get 4).present = true ∧ layout.linkAt 4 .b = .plain 5 .a ∧ layout.linkAt 5 .a = .plain 4 .b ∧
        layout.linkAt 6 .b = .point 2 ∧ layout.pointDef 2 = some ⟨6, ⟨7, .a⟩, ⟨8, .a⟩⟩ ∧ layout.linkAt 4 .a = .buffer) ∧
      (let s := withTrain (.occupied 7) (.reserved 7) .free [(4, .aToB), (5, .aToB)] id; ∃ x ∈ (s.heldOf 7).map Prod.fst, s.sec x = .occupied 7) ∧
      (let s := withTrain (.reserved 7) (.reserved 7) (.pending 7) [(4, .aToB), (5, .aToB), (6, .aToB)] id;
        (s.heldOf 7).map Prod.fst = [4] ++ 5 :: [6] ∧ (∀ y ∈ (s.heldOf 7).map Prod.fst, s.sec y ≠ .occupied 7) ∧ s.sec 5 ≠ .pending 7 ∧
          ∀ y ∈ [(6 : Fin 48)], s.sec y = .pending 7) ∧
      (let s := withTrain (.pending 7) (.pending 7) .free [(4, .aToB), (5, .aToB)] id;
        (s.heldOf 7).map Prod.fst = 4 :: [5] ∧ ∀ y ∈ (s.heldOf 7).map Prod.fst, s.sec y = .pending 7) ∧
      (layout.setUnit (.pulsing 2 .reverse 9 (some 7))).track.unit_ = .pulsing 2 .reverse 9 (some 7) ∧ layout.track.unit_ = .ready := by decide +kernel

theorem test_witness_RouteRequests_range :
    7 < 8 ∧ 1 < 2 ∧ ([] : List Nat).length < 1 ∧ 12 < (List.replicate 13 0).length ∧ [47, 48] = [47] ++ 48 :: [] ∧ [47, 48].length ≤ 12 ∧
      (∀ y ∈ [47], y ≤ 47) ∧ 47 < 48 := by decide

/-- An axis that two crossings in service have for their gate, in FAULT at rest. -/
theorem test_witness_AxisConfig_gate :
    let s := ((crossed { demand := .open_, last := none, openDelay := none, timeout := .absent, retry := false }).modTrack fun k =>
      { k with crossings := k.crossings.set 1 ⟨some ⟨7, [5]⟩, 1000, 4000⟩ }).modAxis 7 fun x => { x with kind := .gate, state := .fault }
    s.ready = true ∧ s.track.config = .operational ∧ (s.track.crossings.get 1).defn = some ⟨7, [5]⟩ ∧ (s.track.crossings.get 3).defn = some ⟨7, [4]⟩ ∧
      (s.track.crossings.get 0).defn = none ∧ (s.axes.get 7).state = .fault ∧ (s.axes.get 7).v = 0 ∧ AxisKind.rotary ≠ .gate ∧ 7 < 8 ∧ 2 < 3 := by
  decide +kernel

/-- The distance to a stop angle in each direction, by hand: from 3190 to 10 of 3200 forward is 20, and a revolution more within 21. -/
theorem test_witness_AxisRequests_distance :
    0 < 3200 ∧ stopAtDistance 3200 10 3190 .forward 20 = 20 ∧ stopAtDistance 3200 10 3190 .forward 21 = 3220 ∧
      stopAtDistance 3200 10 3190 .reverse 20 = 3180 := by decide

/-- A due update in each of its ends, and an axis with nothing to update, with a goal left to carry out and without. -/
theorem test_witness_AxisRows_events :
    (moving.updates = true ∧ (moving.update false).finish = .arrival ∧ (moving.update false).index = none) ∧
      (({ turning with indexRun := 1 }.update true).index = some (0, false) ∨ ({ turning with indexRun := 1 }.update true).index.isSome = true) ∧
      ({ turning with travel := 6401 }.update false).finish = .missing .indexMissing ∧ ({ turning with v := 500 }.update false).finish = .goesOn ∧
      (let gate : Axis := { homing with kind := .gate, homeRun := 1, goal := .closed }; gate.updates = true ∧ (gate.update true).finish = .homedOnward) ∧
      (let x : Axis := { Axis.initial with kind := .gate, state := .idle, homed := true, resume := true, goal := .closed };
        x.updates = false ∧ x.resume = true ∧ x.goal = .closed ∧ { x with goal := .open_ }.goal = .open_ ∧ Axis.initial.updates = false ∧
          Axis.initial.resume = false) := by decide +kernel

/-- A step with each kind of wait, one that is met at once, and the items that meet a wait: the first to arrive after it began. -/
theorem test_witness_WaitsAndContention_begin :
    let at_ := fun kind w4 : Nat => atStep { noneStep with waitKind := kind, w4 := w4 } id
    (((at_ 1 0).cue.players.get 7).cur = some (5, 0) ∧ 0 < ((at_ 1 0).cue.lists.get 5).length ∧ ((at_ 1 0).stepOf 7).waitKind = 1 ∧
        ((at_ 1 0).stepOf 7).w4 + 256 * ((at_ 1 0).stepOf 7).w5 = 0 ∧ ((at_ 1 1).stepOf 7).w4 + 256 * ((at_ 1 1).stepOf 7).w5 = 1) ∧
      ((at_ 0 0).stepOf 7).waitKind = 0 ∧ ((at_ 2 1).stepOf 7).waitKind = 2 ∧ ((at_ 3 0).stepOf 7).waitKind = 3 ∧ ((at_ 4 4).stepOf 7).waitKind = 4 ∧
      ((at_ 4 4).stepOf 7).timeout = 0 ∧ ((atStep { noneStep with waitKind := 4, w4 := 4, timeout := 65535 } id).stepOf 7).timeout ≠ 0 ∧
      (⟨.townAt 1439, 6⟩ : WaitRec).metBy 6 (.event (.townMinute 1439)) = true ∧ (⟨.townAt 1439, 6⟩ : WaitRec).metBy 5 (.event (.townMinute 1439)) = false ∧
      (⟨.event ⟨0x10, some 31⟩ none, 6⟩ : WaitRec).metBy 6 (.event (.fadeDone 31)) = true := by decide +kernel

/-- An event that two players wait for, a WAITING one and a PAUSED one with an await. -/
theorem test_witness_WaitsAndContention_offer :
    let s := ((base.modPlayer 6 fun x => { x with state := .waiting, wait := some ⟨.event ⟨0x40, none⟩ none, 0⟩ }).modPlayer 7 fun x =>
      { x with state := .running, await := some { action := 8, target := 0, expect := .axis 0, since := 0, outcome := none }, priority := 9 }).modPlayer 0
      fun x => { x with state := .paused, await := some { action := 8, target := 0, expect := .axis 0, since := 0, outcome := none } }
    let t := offerItem 0 (.event (.axisDone 0)) s
    t.work.runs = [(7, .advance), (6, .contend)] ∧ (t.cue.players.get 6).state = .running ∧ (t.cue.players.get 6).wait = none ∧
      (t.cue.players.get 0).await = some { action := 8, target := 0, expect := .axis 0, since := 0, outcome := some .completed } ∧
      (s.cue.players.get 1).state = .idle := by decide +kernel

theorem test_witness_InputsAndCounters_sample :
    (let s := base.modInput 7 fun _ => ⟨20, true, 19, true⟩;
      ((s.trig.inputs.get 7).sample (s.pins.window.getLsbD 7)).2 = some .falling) ∧
      ((base.trig.inputs.get 7).sample (base.pins.window.getLsbD 7)).2 = none := by decide +kernel

theorem test_witness_Overload_samples :
    (base.pins.overload = base.supply.overload) ∧
      (let s := (withSupply fun k => { k with overloadRun := 0 }).modPins fun p => { p with overload := true };
        s.work.isClear = true ∧ s.pins.overload ≠ s.supply.overload ∧ s.supply.overloadRun ≠ 1) ∧
      (let s := withSupply fun k => { k with overloadRun := 1 };
        s.work.isClear = true ∧ s.sched.overload = true ∧ s.supply.overloadRun = 1 ∧ true ≠ s.supply.overload) ∧
      (let s := withSupply fun k => { k with overload := true, overloadRun := 1, cutoff := true, endTimer := some 5 };
        s.sched.overload = true ∧ s.supply.overload = true ∧ s.supply.overloadRun = 1 ∧ s.supply.endTimer ≠ none) := by decide +kernel

/-- The trains and the interlock: after reset, in motion under power, and ENGAGED with an axis HELD or, against the rule, at rest. -/
theorem test_witness_RecordInvariants_promises :
    base.trainsWf = true ∧ base.interlockWf = true ∧
      (let s := railsUp (withTrain (.occupied 7) .free .free [(4, .aToB)] fun t => { t with requested := 9, speed := 9 });
        s.trainsWf = true ∧ (s.modSupply fun k => { k with cutoff := true }).trainsWf = false) ∧
      (let s := { base with axes := .replicate 8 { Axis.initial with state := .held } }.modSupply fun k => { k with keyOn := true };
        s.interlockWf = true ∧ (s.modAxis 0 fun x => { x with state := .unhomed }).interlockWf = false) := by decide +kernel

/-! ### The clauses on events, orders, lines and ranges -/

/-- An event at an IDLE transmitter and at one that sends, with its class enabled and masked, and at each depth of the queue. -/
theorem test_witness_TransmitterAndNotices_event :
    (let l := (withLink [slot] [] none .idle).link;
      l.tx = .idle ∧ l.replies = [] ∧ (∃ x ∈ l.slots, x.taken = true) ∧ l.lost = 0 ∧ l.wants (.fadeDone 31) = true) ∧
      (let l := (withLink [] [] none .idle).link;
        l.tx = .idle ∧ l.replies = [] ∧ l.slots = [] ∧ l.notices = [] ∧ l.lost = 0 ∧ l.wants (.noticesLost 1) = true) ∧
      (let l := { (withLink [] [] none (.notice plainNotice)).link with mask := 0 };
        l.tx ≠ .idle ∧ l.wants (.fadeDone 31) = false ∧ l.wants (.started .powerOn) = true) ∧
      (let l := { (withLink [] [] none (.notice plainNotice)).link with notices := List.replicate 30 plainNotice, lost := 1 };
        l.notices.length + 1 < 32 ∧ 0 < l.lost) ∧
      (List.replicate 31 plainNotice).length = 31 ∧ 32 ≤ (List.replicate 32 plainNotice).length := by decide +kernel

/-- The step a train needs at each side of its effective target, and its direction still the old one. -/
theorem test_witness_RampAndEmergencyStop_needed :
    (let s := railsUp (withTrain (.occupied 7) (.reserved 7) .free [(4, .aToB), (5, .aToB)] fun t =>
        { t with requested := 9, speed := 8, stepDue := true, dir := .up });
      s.work.isClear = true ∧ (s.trains.get 7).speed < s.effective 7 ∧ (s.trains.get 7).stepDue = true ∧ (s.trains.get 7).dir = .up) ∧
      (let s := railsUp (withTrain (.occupied 7) (.reserved 7) .free [(4, .aToB), (5, .aToB)] fun t =>
          { t with requested := 9, speed := 10, stepDue := true, dir := .down });
        s.effective 7 < (s.trains.get 7).speed ∧ (s.trains.get 7).speed ≠ 1 ∧ (s.trains.get 7).dir = .down) ∧
      (let s := withTrain (.occupied 7) .free .free [(4, .aToB)] fun t => { t with speed := 2, dir := .up, stepDue := true };
        s.effective 7 < (s.trains.get 7).speed ∧ (s.trains.get 7).dir ≠ .down) ∧
      (let s := withTrain (.occupied 7) .free .free [(4, .aToB)] fun t => { t with stepDue := true };
        s.work.isClear = true ∧ (s.trains.get 7).stepDue = true ∧ (s.trains.get 7).dir = .level) := by decide +kernel

/-- A gate axis a WARM reset meets with its goal set and no crossing in service. -/
theorem test_witness_WarmResetKeeps_goal :
    let s := base.modAxis 7 fun _ => { Axis.initial with kind := .gate, goal := .closed }
    (s.axes.get 7).kind = .gate ∧ (s.axes.get 7).goal = .closed ∧ ∀ c : Fin 4, s.track.couplings.get c = none := by decide +kernel

/-- An output that two segments would map, and a channel that has a place. -/
theorem test_witness_ChannelsAndPlaces_clash :
    let s := base.modLight fun l => { l with segments := l.segments.set 15 (some { chain := 3, first := 100, count := 28, channel := 484 }) }
    segmentClash s.light 0 3 127 1 = some 15 ∧ segmentClash s.light 0 3 99 1 = none ∧ channelClash s.light 0 511 1 = some 511 ∧
      channelClash s.light 0 483 1 = none ∧ segmentClash s.light 15 3 127 1 = none := by decide +kernel

/-- A pulse to REVERSE and to NORMAL, no pulse, and a section with and without a crossing. -/
theorem test_witness_ThrowsAndCrossings_lines :
    (layout.setUnit (.pulsing 2 .reverse 0 none)).track.unit_ = .pulsing 2 .reverse 0 none ∧
      (layout.setUnit (.pulsing 2 .reverse 0 none)).fireLine = true ∧ (layout.setUnit (.pulsing 2 .normal 9 none)).fireLine = false ∧
      (layout.setUnit (.pulsing 23 .normal 9 none)).selectLine 23 = true ∧ layout.selectLine 23 = false ∧
      (layout.track.defs.get 4).crossing = none ∧
      ((layout.modTrack fun k => { k with defs := k.defs.modify 4 fun d => { d with crossing := some 3 } }).track.defs.get 4).crossing = some 3 := by
  decide +kernel

/-- The ranges of the sources' parameters at their ends. -/
theorem test_witness_TriggerUnitRequests_sources :
    readSource 0 0x9F 5 = some (.townAt 1439) ∧ readSource 0 0xA0 5 = none ∧ readSource 2 8 0 = none ∧ readSource 2 0 2 = none ∧
      readSource 4 47 0xFF = some (.sectionEnter 47 none) ∧ readSource 4 47 7 = some (.sectionEnter 47 (some 7)) ∧ readSource 4 47 8 = none ∧
      readSource 6 255 9 = some (.cueMark 255) ∧ readSource 8 1 0 = some (.railDone .lower) ∧ readSource 8 2 0 = none ∧ readSource 9 0 0 = none := by
  decide +kernel

/-- Work at each rank of the order, and none. -/
theorem test_witness_TriggerApplied_order :
    let item : CueItem := .ending (.axis 0)
    let full : Work := { base.work with
      stack := [.examine], runs := [(7, .wait)], held := [(1, item)], matched := [31], events := [.clockLocked] }
    (full.stack = .examine :: [] ∧ { full with stack := [] }.runs = (7, .wait) :: [] ∧ { full with stack := [], runs := [] }.held = (1, item) :: [] ∧
        { full with stack := [], runs := [], held := [] }.matched = 31 :: [] ∧
        { full with stack := [], runs := [], held := [], matched := [] }.events = .clockLocked :: []) ∧
      base.work.isClear = true ∧ (base.cue.players.get 7).state ≠ .running ∧
      ((withPlayer fun x => { x with state := .running }).cue.players.get 7).state = .running := by decide +kernel

/-- A list in use in each of the three ways, and an axis that meets an AXIS_SPEED at rest and in motion. -/
theorem test_witness_ListRequests_uses :
    ({ Player.initial 0 with cur := some (63, 31) }.uses 63 = true ∧ { Player.initial 0 with calls := [(63, 0)] }.uses 63 = true ∧
        { Player.initial 0 with pendingStart := some (63, .queue) }.uses 63 = true ∧ (Player.initial 0).uses 63 = false) ∧
      (Axis.initial.meets 0 .forward = true ∧ Axis.initial.meets 1 .forward = false) ∧
      ({ turning with v := 500, dir := .reverse }.meets 500 .reverse = true ∧ { turning with v := 500, dir := .reverse }.meets 500 .forward = false) := by
  decide +kernel

/-- The fiftieth differing sample, given by its level. -/
theorem test_witness_DressingKey_sample :
    (let s := withSupply fun k => { k with keyRun := 49 }; s.sched.key = true ∧ true ≠ s.supply.keyOn ∧ 50 ≤ s.supply.keyRun + 1) ∧
      (let s := withSupply fun k => { k with keyRun := 49, keyOn := true }; s.sched.key = true ∧ false ≠ s.supply.keyOn) := by decide +kernel

/-! ## One command on a small state, with the result the rule gives -/

/-- What one reads in the state after a command; none where the command does not answer a next state. -/
def after {α : Type} (i : Instr) (s : State) (f : State → α) : Option α :=
  match exec i s with
  | .next t => some (f t)
  | _ => none

/-- The last reply made: its result code and data. -/
def State.lastReply (s : State) : Option (Nat × List Nat) :=
  s.link.replies.getLast?.map fun r => (r.answer.code.code, r.answer.data.map BitVec.toNat)

/-- The events of the notices that wait. -/
def State.events (s : State) : List Event := s.link.notices.map Notice.event

/-- The first example of R3: the reply's data are P, M, Q and the glide rate. -/
theorem test_clock_set_rate : after (.clockSetRate 1 3 700 2 none) base (fun t => (t.clock.m, State.lastReply t)) =
    some (700, some (0, [3, 188, 2, 2, 176, 4])) := by decide +kernel

/-- A JUMP raises no TOWN_MINUTE and, with CLOCK notices masked, no notice at all; a refused one leaves the clock (R8, R9). -/
theorem test_clock_set_time :
    after (.clockSetTime 1 25200000 0) base (fun t => (t.clock.town, State.events t)) = some (25200000, []) ∧
      after (.clockSetTime 1 86400000 0) base (fun t => (t.clock.town, State.lastReply t)) = some (43200000, some (4, [])) := by decide +kernel

/-- One real millisecond at real speed moves town time by 1 (R5). -/
theorem test_real_millisecond : after .realMillisecond base (fun t => (t.clock.town, t.clock.rt.toNat)) = some (43200001, 1) := by decide +kernel

/-- A level above 4095 is clamped, and a duration of 0 raises FADE_DONE at once (R23). -/
theorem test_group_set_level : after (.groupSetLevel 1 31 5000 0 0) base
    (fun t => ((t.light.groups.get 31).level, t.link.replies.map (fun r => r.answer.clamped), State.events t)) =
    some (4095, [true], [.fadeDone 31]) := by decide +kernel

/-- A trim of 600 is clamped to 511 (R29). -/
theorem test_channel_config : after (.channelConfig 1 511 31 1 600 noBind 5 6) base (fun t => ((t.light.channels.get 511).trim,
    (t.light.channels.get 511).kind)) = some (511, .sodium) := by decide +kernel

/-- POINT_DEFINE outside EDITING is refused with WRONG_STATE (R52). -/
theorem test_point_define : after (.pointDefine 1 0 none) base State.lastReply = some (some (5, [])) := by decide +kernel

/-- LAYOUT_OPEN from UNCONFIGURED (R53). -/
theorem test_layout_open : after (.layoutOpen 1) base (fun t => t.track.config) = some .editing := by decide +kernel

/-- A POINT_THROW of a FREE point starts its pulse while the unit is READY (R75, R76). -/
theorem test_point_throw : after (.pointThrow 1 2 1) layout (fun t => (t.track.unit_, State.lastReply t)) =
    some (.pulsing 2 .reverse 200 none, some (1, [])) := by decide +kernel

/-- The third occupied sample makes a FREE section STRAY when no train faces it (R66, R81). -/
theorem test_detector_sample : after (.detectorSample 16) (sampling false 2) (fun t => (t.sec 4, State.events t)) =
    some (.stray, [.straySeen 4]) := by decide +kernel

/-- A train routed over two FREE sections claims and gets both at once (R70, R71, R91, R93). -/
theorem test_train_route : after (.trainRoute 1 7 0 [5, 6]) (withTrain (.occupied 7) .free .free [(4, .aToB)] id)
    (fun t => (t.sec 5, t.sec 6, State.events t)) = some (.reserved 7, .reserved 7, [.routeReady 7 5, .routeReady 7 6]) := by decide +kernel

/-- An AXIS_SPEED with the MOTION rail DOWN is refused with INTERLOCKED (R116). -/
theorem test_axis_speed : after (.axisSpeed 1 0 500 0) base State.lastReply = some (some (9, [])) := by decide +kernel

/-- An axis that reaches its target stands on it and raises AXIS_DONE (R107, R110). -/
theorem test_axis_arrival : after (.axisArrival 0 false) (dueAxis moving) (fun t => ((t.axes.get 0).pos, (t.axes.get 0).state, State.events t)) =
    some (1, .idle, [.axisDone 0]) := by decide +kernel

/-- A list of one NONE step is READY when it is closed (R124). -/
theorem test_list_write : after (.listWrite 1 63 0 true [noneStep]) base (fun t => ((t.cue.lists.get 63).state, (t.cue.lists.get 63).length)) =
    some (.ready, 1) := by decide +kernel

/-- A player that starts a list of one NONE step runs it to its end (R128, R137, R139). -/
theorem test_player_start : after (.playerStart 1 7 5 1) withList (fun t => ((t.cue.players.get 7).state, State.events t)) =
    some (.idle, [.playerEnd 7]) := by decide +kernel

/-- The sample that reaches the debounce confirms the edge (R144). -/
theorem test_input_sample : after (.inputSample 128) ((base.modInput 7 fun _ => ⟨20, false, 19, true⟩).modSched fun d => { d with inputs := 128 })
    State.events = some [.inputEdge 7 .rising] := by decide +kernel

/-- The first step of RAISE brings the AUX rail up after its delay of 1 ms (R155, R157). -/
theorem test_program_step : after .railProgramStep (withSupply fun k => { k with seq := .active .raise 0 0 })
    (fun t => (t.supply.rails.aux, t.supply.seq, State.events t)) = some (true, .active .raise 1 512, [.railChange .aux true]) := by decide +kernel

/-- The second active sample is an onset: the cut-off is ACTIVE (R159). -/
theorem test_overload_onset : after .overloadOnset (withSupply fun k => { k with overloadRun := 1 }) (fun t => (t.supply.cutoff, State.events t)) =
    some (true, [.overload .begin]) := by decide +kernel

/-- The fiftieth sample engages the interlock (R161). -/
theorem test_dressing : after .dressing (withSupply fun k => { k with keyRun := 49 }) (fun t => (t.engaged, State.events t)) =
    some (true, [.dressing true]) := by decide +kernel

/-- With the transmitter IDLE the first of two notices is sent at once and the second alone waits; with their class masked, none (R167,
R168). -/
theorem test_idle_transmitter_picks :
    (let t := ((withLink [] [] none .idle).raise (.fadeDone 0)).raise (.fadeDone 1);
      (match t.link.tx with | .notice n => some n.event | _ => none) = some (.fadeDone 0) ∧ State.events t = [.fadeDone 1]) ∧
      (let t := ((withLink [] [] none .idle).modLink fun l => { l with mask := 0 }).raise (.fadeDone 0);
        t.link.tx = .idle ∧ State.events t = [] ∧ t.work.events = [.fadeDone 0]) := by decide +kernel

/-- A step up at a train whose effective target is above its speed, and its timer again at 0 (R96). -/
theorem test_ramp_step : after (.trainRampStep 7)
    (railsUp (withTrain (.occupied 7) (.reserved 7) .free [(4, .aToB), (5, .aToB)] fun t =>
      { t with requested := 9, speed := 7, stepDue := true, dir := .up, timer := 40 }))
    (fun t => ((t.trains.get 7).speed, (t.trains.get 7).timer, (t.trains.get 7).dir)) = some (8, 0, .up) := by decide +kernel

/-- A byte below 2 at the length byte is rejected (R164). -/
theorem test_receive_byte : after (.receiveByte 1 0) (atByte .atLength) (fun t => (t.link.rx, State.events t)) =
    some (.hunting, [.frameReject .length]) := by decide +kernel

/-- A COLD reset waits for the end of its reply (R170). -/
theorem test_reset : after (.reset 1 1) base (fun t => (t.link.resetWaiting, State.lastReply t)) = some (some .cold, some (0, [])) := by
  decide +kernel

end Sys2Proof.Tests
end

section
/-! SUPPORT. What every command keeps: a stable property that the Show Link's own steps, the input pins, a start and the next real
millisecond keep as well is kept by every command, and so by every step. -/

namespace Sys2Proof.Machine

/-- A stable property that is also kept by what only the commands themselves do: a start, the queue's rest, the levels read from the
pins, the next real millisecond, and the Show Link's own steps (R164 to R170). -/
structure StepStable (P : State → Prop) : Prop extends Stable P where
  start : ∀ cause pins pending, P (State.start cause pins pending)
  pending : ∀ {s : State} rest, P s → P { s with pending := rest }
  pins : ∀ {s} f, P s → P (s.modPins f)
  nextMs : ∀ {s}, P s → P (advanceClock (countMs s))
  ofLink : ∀ {s} r, Request.ofLink r = true → P s → P (Machine.handle r s).1
  acceptByte : ∀ {s} b gapUs, P s → P (Machine.acceptByte b gapUs s)
  placeFrame : ∀ {s} f, P s → P (Machine.placeFrame f s)
  mark : ∀ {s}, P s → P (s.modLink fun l => { l with slots := markTaken l.slots })
  reply : ∀ {s} f a waiting, P s → P (s.modLink (ShowLink.addReply (replyTo f a (originOf waiting))))
  free : ∀ {s}, P s → P (s.modLink fun l => { l with slots := freeTaken l.slots })
  idle : ∀ {s}, P s → P (s.modLink fun l => { l with tx := .idle })
  resetTaken : ∀ {s}, P s → P (s.modLink fun l => { l with resetWaiting := none })
  pick : ∀ {s}, P s → P (Machine.pick s)

variable {P : State → Prop} {s t : State}

/-! ## A property that does not speak of the Show Link -/

section
variable (h : Stable P) (link : ∀ {s} f, P s → P (s.modLink f))
include h link

theorem Stable.keeps_rejectFrame (reason : RejectReason) (hs : P s) : P (rejectFrame reason s) := h.raise _ (link _ hs)

theorem Stable.keeps_placeFrame (f : Frame) (hs : P s) : P (placeFrame f s) := by
  unfold placeFrame
  split
  · exact link _ hs
  · split
    · exact link _ hs
    · exact h.raise _ hs

theorem Stable.keeps_frameByte (length : Nat) (bytes : List Byte) (b : Byte) (hs : P s) : P (frameByte length bytes b s) := by
  unfold frameByte
  extract_lets got
  split
  · exact link _ hs
  · split
    · exact h.keeps_placeFrame link _ (link _ hs)
    · exact h.keeps_rejectFrame link _ hs

theorem Stable.keeps_acceptByte (b : Byte) (gapUs : Nat) (hs : P s) : P (acceptByte b gapUs s) := by
  unfold acceptByte
  split
  · exact link _ hs
  · split
    · exact link _ (h.keeps_rejectFrame link _ hs)
    · unfold lengthByte
      split
      · exact link _ hs
      · exact h.keeps_rejectFrame link _ hs
  · split
    · exact link _ (h.keeps_rejectFrame link _ hs)
    · exact h.keeps_frameByte link _ _ _ hs

/-- A report of lost notices is a change of the Show Link and an offer to the blocks (R169). -/
theorem Stable.keeps_reportLost (hs : P s) : P (reportLost s) := by
  unfold reportLost
  split
  · exact h.work (Work.addEvent _) (h.cue (fun c => { c with players := c.players.map (markSeen _) }) (link _ hs))
  · exact hs

theorem Stable.keeps_pick (hs : P s) : P (pick s) := by
  unfold pick
  split
  · exact link _ hs
  · split
    · exact h.keeps_reportLost link (link _ hs)
    · exact link _ hs

omit h in
theorem keeps_ofLink (r : Request) (hr : Request.ofLink r = true) (hs : P s) : P (Machine.handle r s).1 := by
  cases r <;> cases hr
  case reset scope =>
    change P (doReset scope s).1
    unfold doReset
    split
    · dsimp only
      exact link _ hs
    · exact hs
  case noticeMask mask =>
    change P (doNoticeMask mask s).1
    unfold doNoticeMask
    split
    · exact hs
    · dsimp only
      exact link _ hs

/-- A stable property that no change of the Show Link breaks is kept by the Show Link's own steps. -/
theorem Stable.toStepStable (start : ∀ cause pins pending, P (State.start cause pins pending))
    (pending : ∀ {s : State} rest, P s → P { s with pending := rest }) (pins : ∀ {s} f, P s → P (s.modPins f))
    (nextMs : ∀ {s}, P s → P (advanceClock (countMs s))) : StepStable P where
  toStable := h
  start := start
  pending := pending
  pins := pins
  nextMs := nextMs
  ofLink := keeps_ofLink link
  acceptByte := h.keeps_acceptByte link
  placeFrame := h.keeps_placeFrame link
  mark := link _
  reply _ _ _ := link _
  free := link _
  idle := link _
  resetTaken := link _
  pick := h.keeps_pick link

end

/-! ## The end of a command -/

theorem StepStable.kick (h : StepStable P) (hs : P s) : P (Machine.kick s) := by
  unfold Machine.kick
  split
  · exact h.pick hs
  · exact hs

theorem StepStable.finish (h : StepStable P) (hs : P s) : P (Machine.finish s) := h.settle (h.kick (h.settle hs))

theorem Stable.eachSettled (h : Stable P) {α : Type} {f : α → State → State} (hf : ∀ a s, P s → P (f a s)) (l : List α) (hs : P s) :
    P (Machine.eachSettled l f s) :=
  keeps_forEach (fun a _ hs => h.settle (hf a _ hs)) l hs

/-- Work left over is carried on first, and keeps the property too. -/
theorem Stable.perform (h : Stable P) {f : State → State} (e : perform f s = .next t) (hf : ∀ s, P s → P (f s)) (hs : P s) : P t := by
  unfold Machine.perform at e
  extract_lets s1 at e
  split at e
  · cases e; exact hf _ hs
  · split at e <;> cases e
    exact hf _ (h.settle hs)

/-! ## Requests and the transmitter -/

theorem StepStable.handleBody (h : StepStable P) (b : Body) (hs : P s) : P (handleBody b s).1 := by
  cases b with
  | request r =>
    cases hr : Request.ofLink r with
    | true => exact h.ofLink r hr hs
    | false => exact h.toStable.handle r hr hs
  | unknownKind => exact hs
  | badLength => exact hs

theorem StepStable.takeOne (h : StepStable P) (f : Frame) (hs : P s) : P (takeOne f s) :=
  h.reply _ _ _ (h.settle (h.handleBody _ (h.mark hs)))

theorem StepStable.takeRequests (h : StepStable P) (n : Nat) (hs : P s) : P (takeRequests n s) := by
  induction n generalizing s with
  | zero => exact hs
  | succ n ih =>
    unfold Machine.takeRequests
    split
    · exact hs
    · split
      · exact ih (h.takeOne _ hs)
      · exact hs

theorem StepStable.deliver (h : StepStable P) (f : Frame) (s : State) (hs : P s) : P (deliver f s) :=
  h.finish (h.takeRequests _ (h.settle (h.placeFrame f hs)))

theorem StepStable.receive (h : StepStable P) (b : Byte) (gapUs : Nat) (s : State) (hs : P s) : P (receive b gapUs s) :=
  h.finish (h.takeRequests _ (h.settle (h.acceptByte b gapUs hs)))

theorem Stable.warmReset (h : Stable P) (hs : P s) : P (warmReset s) :=
  h.warmTrig (h.warmAxes (h.warmTrack (h.warmTrains (h.warmLight (h.warmCue hs)))))

theorem StepStable.takeEffect (h : StepStable P) (scope : Scope) (hs : P s) : P (takeEffect scope s) := by
  cases scope with
  | warm => exact h.idle (h.settle (h.toStable.warmReset (h.resetTaken hs)))
  | cold => exact h.start _ _ _

theorem StepStable.afterFrame (h : StepStable P) (hs : P s) : P (afterFrame s) := by
  unfold Machine.afterFrame
  split
  · split
    · exact h.idle (h.free hs)
    · exact h.idle hs
    · exact h.takeEffect _ (h.free hs)
  · exact h.idle hs
  · exact hs

theorem StepStable.frameEnd (h : StepStable P) (s : State) (hs : P s) : P (frameEnd s) := by
  unfold Machine.frameEnd
  split
  · exact hs
  · exact h.finish (h.takeRequests _ (h.settle (h.kick (h.afterFrame hs))))

/-! ## The passing of time -/

theorem Stable.flushLight (h : Stable P) (hs : P s) : P (flushLight s) := by
  unfold Machine.flushLight
  split
  · exact h.settle (h.lightFrame hs)
  · exact hs

theorem Stable.flushSupply (h : Stable P) (hs : P s) : P (flushSupply s) := by
  have h1 : P (Machine.settle (Machine.programStep s)) := h.settle (h.programStep hs)
  unfold Machine.flushSupply
  extract_lets s1 s2 s3
  have h2 : P s2 := by
    unfold s2
    split
    · exact h.settle (h.sampleOverload h1)
    · exact h1
  have h3 : P s3 := h.settle (h.quietExpire (h.settle (h.overloadFinish h2)))
  split
  · exact h.settle (h.sampleKey h3)
  · exact h3

theorem Stable.flushInputs (h : Stable P) (hs : P s) : P (flushInputs s) :=
  h.eachSettled (fun x _ => h.sampleDetector x) _ (h.eachSettled (fun i _ => h.sampleInput i) _ hs)

theorem Stable.flushTrack (h : Stable P) (hs : P s) : P (flushTrack s) :=
  h.eachSettled (fun c _ => h.gateTimeoutExpire c) _ (h.eachSettled (fun c _ => h.openDelayExpire c) _
    (h.eachSettled (fun x _ => h.expireSec x) _ (h.settle (h.rechargeFinish (h.settle (h.pulseFinish hs))))))

theorem Stable.flushMoves (h : Stable P) (hs : P s) : P (flushMoves s) :=
  h.eachSettled (fun t _ => h.rampStep t) _ (h.eachSettled (fun a _ => h.updateAxis a) _ hs)

theorem Stable.flushWaits (h : Stable P) (hs : P s) : P (flushWaits s) :=
  h.eachSettled (fun p _ => h.waitTimeOut p) _ (h.eachSettled (fun p _ => h.waitExpire p) _ hs)

theorem Stable.flush (h : Stable P) (hs : P s) : P (flush s) :=
  h.flushWaits (h.flushMoves (h.flushTrack (h.flushInputs (h.flushSupply (h.flushLight (h.settle hs))))))

theorem StepStable.tick (h : StepStable P) (hs : P s) : P (tick s) := h.finish (h.nextMs hs)

/-- A step that is taken when it is due keeps what the step keeps. -/
theorem StepStable.whenDue (h : StepStable P) {f : State → State} (hf : P s → P (f s)) (due : Bool) (hs : P s) : P (whenDue due f s) := by
  unfold Machine.whenDue
  split
  · exact h.finish (hf hs)
  · exact hs

theorem keeps_forItem {n : Nat} {f : Fin n → State → State} (hf : ∀ i s, P s → P (f i s)) (k : Nat) (s : State) (hs : P s) :
    P (forItem k f s) := by
  unfold forItem
  split
  · exact hf _ _ hs
  · exact hs

theorem StepStable.glideArrivalStep (h : StepStable P) (s : State) (hs : P s) : P (glideArrivalStep s) := by
  unfold Machine.glideArrivalStep
  extract_lets s1
  split
  · exact h.tick (h.flush hs)
  · exact hs

theorem StepStable.fadeDoneStep (h : StepStable P) (g : Fin 32) (s : State) (hs : P s) : P (fadeDoneStep g s) := by
  unfold Machine.fadeDoneStep
  split
  · exact h.finish (h.lightFrame hs)
  · extract_lets s1 n
    split
    · exact h.tick (h.flush hs)
    · exact hs

theorem StepStable.confirmStep (h : StepStable P) (c : Confirm) (x : Fin 48) (s : State) (hs : P s) : P (confirmStep c x s) := by
  unfold Machine.confirmStep
  extract_lets s1
  split
  · exact h.finish (h.sampleDetector _ (h.pins _ hs))
  · exact hs

theorem StepStable.axisOutcome (h : StepStable P) (input : Bool) (test : UpdateResult → Bool) (a : Fin 8) (s : State) (hs : P s) :
    P (axisOutcome input test a s) := by
  unfold Machine.axisOutcome
  extract_lets s1 x
  split
  · exact h.finish (h.updateAxis _ (h.pins _ hs))
  · exact hs

theorem StepStable.edgeStep (h : StepStable P) (i : Fin 8) (s : State) (hs : P s) : P (edgeStep i s) := by
  unfold Machine.edgeStep
  extract_lets s1
  split
  · exact h.finish (h.sampleInput _ (h.pins _ hs))
  · exact hs

theorem StepStable.overloadStep (h : StepStable P) (active : Bool) (s : State) (hs : P s) : P (overloadStep active s) := by
  unfold Machine.overloadStep
  extract_lets s1
  split
  · exact h.finish (h.sampleOverload (h.pins _ hs))
  · exact h.pins _ hs

theorem StepStable.keyStep (h : StepStable P) (on : Bool) (s : State) (hs : P s) : P (keyStep on s) := by
  unfold Machine.keyStep
  extract_lets s1
  split
  · exact h.finish (h.sampleKey (h.pins _ hs))
  · exact h.pins _ hs

theorem StepStable.overloadConfirmStep (h : StepStable P) (active : Bool) (s : State) (hs : P s) : P (overloadConfirmStep active s) := by
  unfold Machine.overloadConfirmStep
  split
  · exact h.finish (h.sampleOverload (h.pins _ hs))
  · exact hs

theorem StepStable.dressingStep (h : StepStable P) (s : State) (hs : P s) : P (dressingStep s) := by
  unfold Machine.dressingStep
  extract_lets level
  split
  · exact h.finish (h.sampleKey (h.pins _ hs))
  · exact hs

/-! ## Every command -/

/-- Every command keeps the property. The rows of the part's own steps are named; every other command is a request's frame. -/
theorem StepStable.exec (h : StepStable P) (i : Instr) (hs : P s) (e : exec i s = .next t) : P t := by
  cases i
  case powerOn => cases e; exact h.start _ _ _
  case resetPin => cases e; exact h.start _ _ _
  case receiveByte => exact h.perform e (h.receive _ _) hs
  case transmitFrameEnd => exact h.perform e h.frameEnd hs
  case realMillisecond => exact h.perform e (fun _ hs => h.tick (h.flush hs)) hs
  case glideArrival => exact h.perform e h.glideArrivalStep hs
  case fadeDone => exact h.perform e (keeps_forItem h.fadeDoneStep _) hs
  case lightFrame => exact h.perform e (fun _ => h.whenDue h.lightFrame _) hs
  case blinkPhaseEnd => exact h.perform e (keeps_forItem (fun _ _ hs => h.whenDue h.lightFrame _ hs) _) hs
  case sodiumWarmReached => exact h.perform e (keeps_forItem (fun _ _ hs => h.whenDue h.lightFrame _ hs) _) hs
  case sodiumCoolingEnd => exact h.perform e (keeps_forItem (fun _ _ hs => h.whenDue h.lightFrame _ hs) _) hs
  case detectorSample => exact h.perform e (fun _ hs => h.finish (h.eachSettled (fun x _ => h.sampleDetector x) _ (h.pins _ hs))) hs
  case detectorEnter => exact h.perform e (keeps_forItem (h.confirmStep _) _) hs
  case detectorLeave => exact h.perform e (keeps_forItem (h.confirmStep _) _) hs
  case clearanceExpiry => exact h.perform e (keeps_forItem (fun x _ => h.whenDue (h.expireSec x) _) _) hs
  case pulseEnd => exact h.perform (f := fun s => Machine.whenDue s.pulseDue Machine.pulseFinish s) e (fun _ => h.whenDue h.pulseFinish _) hs
  case rechargeEnd =>
    exact h.perform (f := fun s => Machine.whenDue s.rechargeDue Machine.rechargeFinish s) e
      (fun _ => h.whenDue h.rechargeFinish _) hs
  case openDelayExpiry => exact h.perform e (keeps_forItem (fun c _ => h.whenDue (h.openDelayExpire c) _) _) hs
  case gateTimeoutExpiry => exact h.perform e (keeps_forItem (fun c _ => h.whenDue (h.gateTimeoutExpire c) _) _) hs
  case trainRampStep => exact h.perform e (keeps_forItem (fun k _ => h.whenDue (h.rampStep k) _) _) hs
  case axisUpdate => exact h.perform e (fun _ hs => h.finish (h.eachSettled (fun a _ => h.updateAxis a) _ (h.pins _ hs))) hs
  case axisArrival => exact h.perform e (keeps_forItem (h.axisOutcome _ _) _) hs
  case speedReached => exact h.perform e (keeps_forItem (h.axisOutcome _ _) _) hs
  case stopModeRest => exact h.perform e (keeps_forItem (h.axisOutcome _ _) _) hs
  case indexConfirm => exact h.perform e (keeps_forItem (h.axisOutcome _ _) _) hs
  case homeConfirm => exact h.perform e (keeps_forItem (h.axisOutcome _ _) _) hs
  case indexMissing => exact h.perform e (keeps_forItem (h.axisOutcome _ _) _) hs
  case homeMissing => exact h.perform e (keeps_forItem (h.axisOutcome _ _) _) hs
  case waitExpiry => exact h.perform e (keeps_forItem (fun p _ => h.whenDue (h.waitExpire p) _) _) hs
  case waitTimeout => exact h.perform e (keeps_forItem (fun p _ => h.whenDue (h.waitTimeOut p) _) _) hs
  case inputSample => exact h.perform e (fun _ hs => h.finish (h.eachSettled (fun i _ => h.sampleInput i) _ (h.pins _ hs))) hs
  case inputEdge => exact h.perform e (keeps_forItem h.edgeStep _) hs
  case railProgramStep =>
    exact h.perform (f := fun s => Machine.whenDue s.programDue Machine.programStep s) e
      (fun _ => h.whenDue h.programStep _) hs
  case overloadSample => exact h.perform e (h.overloadStep _) hs
  case overloadOnset => exact h.perform e (h.overloadConfirmStep _) hs
  case overloadClear => exact h.perform e (h.overloadConfirmStep _) hs
  case overloadEnd =>
    exact h.perform (f := fun s => Machine.whenDue (s.supply.endTimer == some 0) Machine.overloadFinish s) e
      (fun _ => h.whenDue h.overloadFinish _) hs
  case quietTimerExpiry =>
    exact h.perform (f := fun s => Machine.whenDue (s.supply.quiet == some 0) Machine.quietExpire s) e
      (fun _ => h.whenDue h.quietExpire _) hs
  case dressingKeySample => exact h.perform e (h.keyStep _) hs
  case dressing => exact h.perform e h.dressingStep hs
  all_goals exact h.perform e (h.deliver _) hs

/-- Every step keeps the property (log entry 21 for the empty queue). -/
theorem StepStable.step (h : StepStable P) (hs : P s) (e : step s = .next t) : P t := by
  unfold Machine.step at e
  split at e
  · cases e; exact hs
  · exact h.exec _ (h.pending _ hs) e

end Sys2Proof.Machine
end

section
/-! SUPPORT. How a request that is taken at once is answered, as the statements say it: once for every request. -/

namespace Sys2Proof.Machine

variable {s : State}

/-! ## The state in which a block sees a request -/

@[simp] theorem State.taking_clock (s : State) (tag : Nat) (r : Request) : (s.taking tag r).clock = s.clock := rfl
@[simp] theorem State.taking_light (s : State) (tag : Nat) (r : Request) : (s.taking tag r).light = s.light := rfl
@[simp] theorem State.taking_track (s : State) (tag : Nat) (r : Request) : (s.taking tag r).track = s.track := rfl
@[simp] theorem State.taking_trains (s : State) (tag : Nat) (r : Request) : (s.taking tag r).trains = s.trains := rfl
@[simp] theorem State.taking_axes (s : State) (tag : Nat) (r : Request) : (s.taking tag r).axes = s.axes := rfl
@[simp] theorem State.taking_cue (s : State) (tag : Nat) (r : Request) : (s.taking tag r).cue = s.cue := rfl
@[simp] theorem State.taking_trig (s : State) (tag : Nat) (r : Request) : (s.taking tag r).trig = s.trig := rfl
@[simp] theorem State.taking_supply (s : State) (tag : Nat) (r : Request) : (s.taking tag r).supply = s.supply := rfl
@[simp] theorem State.taking_pins (s : State) (tag : Nat) (r : Request) : (s.taking tag r).pins = s.pins := rfl
@[simp] theorem State.taking_sched (s : State) (tag : Nat) (r : Request) : (s.taking tag r).sched = s.sched := rfl

/-- A request's command from end to end, from what its block makes of it (R165 to R167). -/
theorem exec_served (h : s.ready = true) {i : Instr} {tag : Nat} {r : Request} {f : State → State} {a : Answer}
    (hi : exec i s = perform (deliver (requestFrame tag r)) s) (hr : Request.ofLink r = false)
    (hf : handle r (s.taking tag r) = (f (s.taking tag r), a)) : exec i s = .next (s.served tag r f a) := by
  rw [hi, perform_deliver h tag r hr, hf]
  rfl

end Sys2Proof.Machine
end

section
/-! SUPPORT. The Town Clock: its settings, its invariant, and what an advance does to its record (R2 to R15). -/

namespace Sys2Proof.Machine

variable {s : State}

/-! ## Settings and ranges (R2, R3) -/

/-- The settings no check of CLOCK_SET_RATE names (R3). -/
theorem rateFailure_eq_none_iff (p m q : Nat) (glide : Option Nat) : rateFailure p m q glide = none ↔
    (1 ≤ p ∧ p ≤ 16) ∧ (1 ≤ m ∧ m ≤ 4095) ∧ (q = 1 ∨ q = 2 ∨ q = 4 ∨ q = 8) ∧ (p ≤ m ∧ m ≤ 256 * p) ∧
      ∀ g, glide = some g → 1 ≤ g ∧ g ≤ 4096 := by
  unfold rateFailure
  constructor
  · intro h
    repeat' split at h
    all_goals cases h
    next hp hm hq hs hg =>
      refine ⟨by omega, by omega, not_not.mp hq, by omega, ?_⟩
      rintro g rfl
      simp at hg
      omega
  · rintro ⟨hp, hm, hq, hs, hg⟩
    have hglide : ¬glide.any (fun g => g < 1 || 4096 < g) = true := by
      cases glide with
      | none => simp
      | some g =>
        have := hg g rfl
        simp
        omega
    rw [if_neg (by omega), if_neg (by omega), if_neg (not_not.mpr hq), if_neg (by omega), if_neg hglide]

/-- The clock's invariant, part by part (R2, R3). -/
theorem Clock.wf_iff (c : Clock) : c.wf = true ↔
    c.town < 86400000 ∧ c.day < 65536 ∧ rateFailure c.p c.m c.q (some c.glideRate) = none ∧ c.acc < c.p * c.q ∧ c.rem < 1000 ∧
      (∀ t, c.target = some t → t < 86400000) ∧ (c.state = .run → c.target = none) ∧ (c.state = .glide → c.target.isSome = true) := by
  unfold Clock.wf Config.dayMs
  cases c.state <;> simp [Option.all_eq_true, and_assoc]

/-- The divisor of the accumulator is never 0 (R3, R5). -/
theorem Clock.wf_divisor {c : Clock} (h : c.wf = true) : 0 < c.p * c.q := by
  obtain ⟨-, -, -, hacc, -⟩ := c.wf_iff.mp h
  omega

/-- No millisecond of RUN advances town time by more than 256 (R3, R5). -/
theorem Clock.wf_advance_le {c : Clock} (h : c.wf = true) : (c.acc + c.m) / (c.p * c.q) ≤ 256 := by
  obtain ⟨-, -, hrate, hacc, -⟩ := c.wf_iff.mp h
  obtain ⟨-, -, hq, ⟨-, hm⟩, -⟩ := (rateFailure_eq_none_iff _ _ _ _).mp hrate
  have hp : c.p ≤ c.p * c.q := Nat.le_mul_of_pos_right _ (by omega)
  exact Nat.le_of_lt_succ ((Nat.div_lt_iff_lt_mul (by omega)).mpr (by omega))

/-! ## What a request makes of a clock within its ranges (R4, R6, R7, R9, R10) -/

theorem Clock.wf_setRate {c : Clock} {p m q : Nat} {glide : Option Nat} (hf : rateFailure p m q glide = none) (h : c.wf = true) :
    (c.setRate p m q glide).wf = true := by
  obtain ⟨htown, hday, hrate, -, hrem, hrest⟩ := c.wf_iff.mp h
  obtain ⟨hp, hm, hq, hs, hg⟩ := (rateFailure_eq_none_iff _ _ _ _).mp hf
  obtain ⟨-, -, -, -, hold⟩ := (rateFailure_eq_none_iff _ _ _ _).mp hrate
  refine (Clock.wf_iff _).mpr ⟨htown, hday, (rateFailure_eq_none_iff _ _ _ _).mpr ⟨hp, hm, hq, hs, ?_⟩, ?_, hrem, hrest⟩
  · rintro g ⟨⟩
    cases glide with
    | none => exact hold _ rfl
    | some g => exact hg g rfl
  · exact Nat.mul_pos (show 0 < p by omega) (show 0 < q by omega)

theorem Clock.wf_held {c : Clock} (h : c.wf = true) : { c with state := .held }.wf = true := by
  obtain ⟨htown, hday, hrate, hacc, hrem, ht, -⟩ := c.wf_iff.mp h
  exact (Clock.wf_iff _).mpr ⟨htown, hday, hrate, hacc, hrem, ht, nofun, nofun⟩

theorem Clock.wf_resume {c : Clock} (h : c.wf = true) : c.resume.wf = true := by
  obtain ⟨htown, hday, hrate, hacc, hrem, ht, -⟩ := c.wf_iff.mp h
  unfold Clock.resume
  split
  · refine (Clock.wf_iff _).mpr ⟨htown, hday, hrate, hacc, hrem, ht, ?_, ?_⟩ <;> cases htgt : c.target <;> simp
  · exact h

theorem Clock.wf_lock {c : Clock} (h : c.wf = true) : { c with target := none, state := .run }.wf = true := by
  obtain ⟨htown, hday, hrate, hacc, hrem, -⟩ := c.wf_iff.mp h
  exact (Clock.wf_iff _).mpr ⟨htown, hday, hrate, hacc, hrem, nofun, fun _ => rfl, nofun⟩

theorem Clock.wf_jump {c : Clock} {target : Nat} (ht : target < Config.dayMs) (h : c.wf = true) : (c.jump target).wf = true := by
  obtain ⟨-, hday, hrate, hacc, hrem, -⟩ := c.wf_iff.mp h
  refine (Clock.wf_iff _).mpr ⟨ht, hday, hrate, hacc, hrem, nofun, fun _ => rfl, ?_⟩
  simp only [Clock.jump]
  split <;> exact nofun

theorem Clock.wf_glide {c : Clock} {target : Nat} (ht : target < Config.dayMs) (h : c.wf = true) :
    { c with target := some target, state := .glide }.wf = true := by
  obtain ⟨htown, hday, hrate, hacc, hrem, -⟩ := c.wf_iff.mp h
  exact (Clock.wf_iff _).mpr ⟨htown, hday, hrate, hacc, hrem, fun _ e => Option.some.inj e ▸ ht, nofun, fun _ => rfl⟩

/-! ## The advance of one millisecond (R5, R6, R11) -/

theorem Clock.advance_held {c : Clock} (h : c.state = .held) : c.advance = (0, c.acc) := by simp [Clock.advance, h]

theorem Clock.advance_run {c : Clock} (h : c.state = .run) :
    c.advance = ((c.acc + c.m) / (c.p * c.q), (c.acc + c.m) % (c.p * c.q)) := by simp [Clock.advance, h]

theorem Clock.advance_glide {c : Clock} {target : Nat} (h : c.state = .glide) (ht : c.target = some target) :
    c.advance = (min c.glideRate (glideDistance c.town target), c.acc) := by simp [Clock.advance, h, ht]

theorem Clock.arrives_glide {c : Clock} {target : Nat} (h : c.state = .glide) (ht : c.target = some target) :
    c.arrives = decide (glideDistance c.town target ≤ c.glideRate) := by simp [Clock.arrives, h, ht]

theorem Clock.arrives_of_ne {c : Clock} (h : c.state ≠ .glide) : c.arrives = false := by
  unfold Clock.arrives
  split
  · contradiction
  · rfl

/-! ## What the advance does to the clock record (R5, R11, R13 to R15) -/

theorem advanceFade_clock (base : FadeBase) (n : Nat) (g : Fin 32) (s : State) : (advanceFade base n g s).clock = s.clock := by
  unfold advanceFade
  extract_lets r
  split
  · rw [State.raise_clock, State.modGroup_clock]
  · split <;> rfl

theorem advanceFades_clock (base : FadeBase) (n : Nat) (s : State) : (advanceFades base n s).clock = s.clock :=
  keeps_forEach (P := fun t => t.clock = s.clock) (fun g t ht => (advanceFade_clock base n g t).trans ht) (indices 32) rfl

/-- Town seconds handed out leave the clock as it is (R15). -/
@[simp] theorem handOut_clock (n : Nat) (s : State) : (handOut n s).clock = s.clock := by
  unfold handOut
  split
  · rfl
  · rw [State.modCue_clock, advanceFades_clock]

/-- Of the clock record a boundary moves the day count alone (R14). -/
theorem passBoundary_clock (b : Nat) (s : State) : (passBoundary b s).clock =
    { s.clock with day := if b = Config.dayMs then (s.clock.day + 1) % 65536 else s.clock.day } := by
  unfold passBoundary
  split
  · simp
  · simp

/-- Of the clock record the boundaries of an advance move the day count alone, and keep it in its range (R13, R14). -/
theorem passBoundaries_clock (l : List Nat) (s : State) :
    ∃ day, (s.clock.day < 65536 → day < 65536) ∧ (forEach l passBoundary s).clock = { s.clock with day := day } := by
  induction l generalizing s with
  | nil => exact ⟨_, id, rfl⟩
  | cons b l ih =>
    obtain ⟨day, hday, hc⟩ := ih (passBoundary b s)
    rw [passBoundary_clock] at hday hc
    refine ⟨day, fun h => hday ?_, hc⟩
    dsimp only
    split
    · exact Nat.mod_lt _ (by decide)
    · exact h

/-- All an advance does to the clock record: it moves, the day count may, and a glide that arrives ends. -/
theorem advanceClock_clock (s : State) : ∃ day, (s.clock.day < 65536 → day < 65536) ∧
    (advanceClock s).clock = { s.clock.moved with
      day := day
      target := if s.clock.arrives then none else s.clock.target
      state := if s.clock.arrives then .run else s.clock.state } := by
  obtain ⟨day, hday, hc⟩ := passBoundaries_clock (boundaries s.clock.town s.clock.advance.1) (s.modClock Clock.moved)
  refine ⟨day, hday, ?_⟩
  unfold advanceClock arrive
  rw [handOut_clock]
  cases s.clock.arrives
  · exact hc
  · simp only [if_true, State.raise_clock, State.modClock_clock, hc]

/-- A HELD clock does not advance (R6). -/
theorem advanceClock_held (h : s.clock.state = .held) (hw : s.clock.wf = true) : advanceClock s = s := by
  obtain ⟨htown, -, -, -, hrem, -⟩ := s.clock.wf_iff.mp hw
  have harr : s.clock.arrives = false := Clock.arrives_of_ne (by simp [h])
  have hb : boundaries s.clock.town 0 = [] := by simp [boundaries]
  have hs : s.clock.secondsOf 0 = 0 := by simp only [Clock.secondsOf]; omega
  have hm : s.clock.moved = s.clock := by
    simp only [Clock.moved, Clock.advance_held h, Config.dayMs, Nat.add_zero, Nat.mod_eq_of_lt htown, Nat.mod_eq_of_lt hrem]
  have hsame : s.modClock Clock.moved = s := by simp only [State.modClock, hm]
  simp only [advanceClock, Clock.advance_held h, harr, hb, hs, hsame]
  rfl

/-- The distance to a glide's target leads to it (R10, R11). -/
theorem glideDistance_reaches {town target : Nat} (htown : town < 86400000) (ht : target < 86400000) :
    (town + glideDistance town target) % 86400000 = target := by
  unfold glideDistance Config.dayMs
  omega

/-! ## The invariant (R2, R3) -/

/-- An advance keeps the clock within its ranges. -/
theorem advanceClock_wf (h : s.clock.wf = true) : (advanceClock s).clock.wf = true := by
  obtain ⟨htown, hday, hrate, hacc, hrem, ht, hrun, hglide⟩ := s.clock.wf_iff.mp h
  obtain ⟨day, hd, hc⟩ := advanceClock_clock s
  rw [hc, Clock.wf_iff]
  have hacc' : s.clock.moved.acc < s.clock.p * s.clock.q := by
    unfold Clock.moved Clock.advance
    dsimp only
    split
    · exact hacc
    · exact hacc
    · exact Nat.mod_lt _ (Clock.wf_divisor h)
  refine ⟨Nat.mod_lt _ (by decide), hd hday, hrate, hacc', Nat.mod_lt _ (by decide), ?_⟩
  cases s.clock.arrives
  · exact ⟨ht, hrun, hglide⟩
  · exact ⟨nofun, fun _ => rfl, nofun⟩

end Sys2Proof.Machine
end

section
/-! SUPPORT. The Town Clock's invariant under every command, a whole advance with its boundaries, and the clock's requests (R3 to R15). -/

namespace Sys2Proof.Machine

variable {s : State}

/-! ## Every command keeps the clock within its ranges -/

/-- The clock's ranges are kept by every block's operation: only the clock's own requests change its record. -/
theorem stable_clockWf : Stable fun s => s.clock.wf = true where
  light _ h := h
  track _ h := h
  trains _ h := h
  axes _ h := h
  cue _ h := h
  trig _ h := h
  supply _ h := h
  sched _ h := h
  outs _ h := h
  work _ h := h
  raise e h := by rw [State.raise_clock]; exact h
  setRate _ _ _ _ hf h := Clock.wf_setRate hf h
  hold h := Clock.wf_held h
  resume h := Clock.wf_resume h
  jump _ ht h := Clock.wf_jump ht h
  lock h := Clock.wf_lock h
  glide _ ht h := Clock.wf_glide ht h

/-- Nothing of the Show Link, the pins or the queue bears on the clock; a start gives the power-on record, and the next real
millisecond advances it. -/
theorem stepStable_clockWf : StepStable fun s => s.clock.wf = true :=
  stable_clockWf.toStepStable (fun _ h => h) (fun _ _ _ => show Clock.initial.wf = true by decide) (fun _ h => h) (fun _ h => h)
    fun {s} h => advanceClock_wf (s := countMs s) h

/-! ## Boundaries and the hand-out (R13 to R15) -/

/-- The boundaries an advance passes are the whole minutes above `t` up to `t + d` (R13). -/
theorem mem_boundaries (t d b : Nat) : b ∈ boundaries t d ↔ b % 60000 = 0 ∧ t < b ∧ b ≤ t + d := by
  simp only [boundaries, List.mem_map, List.mem_range'_1]
  constructor
  · rintro ⟨k, hk, rfl⟩
    omega
  · rintro ⟨hb, h1, h2⟩
    exact ⟨b / 60000, by omega, by omega⟩

theorem boundaries_ascending (t d : Nat) : (boundaries t d).Pairwise (· < ·) :=
  List.Pairwise.map _ (fun _ _ h => Nat.mul_lt_mul_of_pos_right h (by decide)) List.pairwise_lt_range'

/-- A boundary before midnight begins its minute (R13). -/
theorem passBoundary_minute {b : Nat} (hb : b < 86400000) (s : State) : passBoundary b s = s.raise (.townMinute (b / 60000)) := by
  have hne : b ≠ Config.dayMs := by unfold Config.dayMs; omega
  have hmod : b % Config.dayMs = b := Nat.mod_eq_of_lt hb
  rw [passBoundary, if_neg hne, hmod]

/-- At midnight the day count moves between its two events (R14). -/
theorem passBoundary_midnight (s : State) : passBoundary Config.dayMs s =
    ((s.raise (.townMinute 0)).modClock fun c => { c with day := (s.clock.day + 1) % 65536 }).raise
      (.townDay ((s.clock.day + 1) % 65536)) := by
  rw [passBoundary, if_pos rfl]

/-- A TOWN_SECONDS wait of a WAITING player counts (R15, R130). -/
theorem Player.countTown_waiting {n left since : Nat} {p : Player} (hs : p.state = .waiting)
    (hw : p.wait = some { kind := .townSeconds left, since := since }) :
    p.countTown n = { p with wait := some { kind := .townSeconds (left - n), since := since } } := by
  simp only [Player.countTown, hs, hw]

/-- Any other player is left as it is (R15). -/
theorem Player.countTown_other {n : Nat} {p : Player}
    (h : p.state ≠ .waiting ∨ ∀ left since, p.wait ≠ some { kind := .townSeconds left, since := since }) : p.countTown n = p := by
  unfold Player.countTown
  split
  · next left since hs hw =>
    rcases h with h | h
    · exact absurd hs h
    · exact absurd hw (h left since)
  · rfl

/-- The clock's move by a known advance `d` that leaves the accumulator at `acc`, and the boundaries it passes (R5, R13, R15). -/
def passMoved (d acc : Nat) (s : State) : State :=
  forEach (boundaries s.clock.town d) passBoundary (s.modClock fun c =>
    { c with town := (c.town + d) % 86400000, acc := acc, rem := (c.rem + d) % 1000 })

theorem passMoved_eq {d acc : Nat} (h : s.clock.advance = (d, acc)) :
    forEach (boundaries s.clock.town d) passBoundary (s.modClock Clock.moved) = passMoved d acc s := by
  simp only [passMoved, State.modClock, Clock.moved, h, Config.dayMs]

/-- A whole advance in which no glide arrives (R5, R13, R15). -/
theorem advanceClock_on {d acc : Nat} (h : s.clock.advance = (d, acc)) (ha : s.clock.arrives = false) :
    advanceClock s = handOut ((s.clock.rem + d) / 1000) (passMoved d acc s) := by
  rw [← passMoved_eq h]
  simp only [advanceClock, h, ha, Clock.secondsOf, Bool.false_eq_true, if_false]

/-- A whole advance in which a glide arrives (R11). -/
theorem advanceClock_arriving {d acc : Nat} (h : s.clock.advance = (d, acc)) (ha : s.clock.arrives = true) :
    advanceClock s = handOut ((s.clock.rem + d) / 1000) (arrive (passMoved d acc s)) := by
  rw [← passMoved_eq h]
  simp only [advanceClock, h, ha, Clock.secondsOf, if_true]

/-! ## Settings, hold, run and set (R3 to R10) -/

/-- Only what a change makes of the record itself counts. -/
theorem State.modClock_congr {f g : Clock → Clock} (h : f s.clock = g s.clock) : s.modClock f = s.modClock g := by
  simp only [State.modClock, h]

/-- CLOCK_SET_RATE with a failing setting (R3). -/
theorem exec_clockSetRate_refused (h : s.ready = true) {tag p m q row : Nat} {glide : Option Nat}
    (hr : rateFailure p m q glide = some row) :
    exec (.clockSetRate tag p m q glide) s = .next (s.served tag (.clockSetRate p m q glide) id (refuseAt .outOfRange row 0 0)) :=
  exec_served h rfl rfl (by simp only [handle, doClockSetRate, hr, id])

/-- CLOCK_SET_RATE with settings that none of the checks names (R3, R4). -/
theorem exec_clockSetRate_stored (h : s.ready = true) {tag p m q : Nat} {glide : Option Nat} (hr : rateFailure p m q glide = none) :
    exec (.clockSetRate tag p m q glide) s = .next (s.served tag (.clockSetRate p m q glide) (State.modClock (Clock.setRate p m q glide))
      (okWith (datRate (s.clock.setRate p m q glide)))) :=
  exec_served h rfl rfl (by simp only [handle, doClockSetRate, hr, State.taking_clock])

/-- CLOCK_RUN leaves HELD for GLIDE when a glide is suspended, else for RUN (R7). -/
theorem Clock.resume_held {c : Clock} (h : c.state = .held) :
    c.resume = { c with state := if c.target.isSome then .glide else .run } := by
  simp only [Clock.resume, h]

theorem Clock.resume_of_ne {c : Clock} (h : c.state ≠ .held) : c.resume = c := by
  unfold Clock.resume
  split
  · contradiction
  · rfl

end Sys2Proof.Machine
end

section
/-! SUPPORT. The real millisecond and its countdowns (R1, R5). -/

namespace Sys2Proof.Machine

variable {s : State}

/-- With nothing left over a command is carried out at once. -/
theorem perform_clear (h : s.work.isClear = true) (f : State → State) : perform f s = .next (f s) := if_pos h

@[simp] theorem forItem_val {n : Nat} (i : Fin n) (f : Fin n → State → State) (s : State) : forItem i.1 f s = f i s := by
  unfold forItem
  rw [fin?_val]

/-! ## What a millisecond marks as due -/

theorem schedAt_detect (count : BitVec 32) (x : Fin 48) : (schedAt count).detect.getLsbD x.1 = (count.toNat % 2 == 0) := by
  unfold schedAt
  dsimp only
  split
  · next h => rw [h, BitVec.getLsbD_allOnes, decide_eq_true x.2]; rfl
  · next h => simp [h]

theorem schedAt_axes (count : BitVec 32) (a : Fin 8) : (schedAt count).axes.getLsbD a.1 = true :=
  (BitVec.getLsbD_allOnes).trans (decide_eq_true a.2)

theorem schedAt_inputs (count : BitVec 32) (i : Fin 8) : (schedAt count).inputs.getLsbD i.1 = true :=
  (BitVec.getLsbD_allOnes).trans (decide_eq_true i.2)

/-- The real-time count wraps at 32 bits (R1). -/
theorem rt_succ_toNat (rt : BitVec 32) : (rt + 1).toNat = (rt.toNat + 1) % 4294967296 := by simp [BitVec.toNat_add]

/-! ## The countdowns (R73, R96, R130) -/

theorem SectionRun.countMs_clearing {r : SectionRun} {ms : Nat} (h : r.state = .clearing ms) :
    r.countMs = { r with state := .clearing (ms - 1) } := by simp only [SectionRun.countMs, h]

theorem SectionRun.countMs_other {r : SectionRun} (h : ∀ ms, r.state ≠ .clearing ms) : r.countMs = r := by
  unfold SectionRun.countMs
  split
  · next ms hs => exact absurd hs (h ms)
  · rfl

theorem Player.countMs_realMs {p : Player} {n since : Nat} (hs : p.state = .waiting)
    (hw : p.wait = some { kind := .realMs n, since := since }) :
    p.countMs = { p with wait := some { kind := .realMs (n - 1), since := since } } := by simp only [Player.countMs, hs, hw]

theorem Player.countMs_event {p : Player} {spec : EventSpec} {given n since : Nat} (hs : p.state = .waiting)
    (hw : p.wait = some { kind := .event spec (some (given, n)), since := since }) :
    p.countMs = { p with wait := some { kind := .event spec (some (given, n - 1)), since := since } } := by
  simp only [Player.countMs, hs, hw]

theorem Player.countMs_other {p : Player} (h : p.state ≠ .waiting ∨ ((∀ n since, p.wait ≠ some { kind := .realMs n, since := since }) ∧
    ∀ spec left since, p.wait ≠ some { kind := .event spec (some left), since := since })) : p.countMs = p := by
  unfold Player.countMs
  split
  · next n since hs hw =>
    obtain h | ⟨h, -⟩ := h
    · exact absurd hs h
    · exact absurd hw (h n since)
  · next spec given n since hs hw =>
    obtain h | ⟨-, h⟩ := h
    · exact absurd hs h
    · exact absurd hw (h spec (given, n) since)
  · rfl

theorem ThrowUnit.countMs_eq (u : ThrowUnit) : u.countMs = match u with
    | .pulsing p w ms serves => .pulsing p w (ms - 1) serves | .recharging ms => .recharging (ms - 1) | .ready => .ready := by
  cases u <;> rfl

theorem Sequencer.countMs_eq (q : Sequencer) : q.countMs = match q with
    | .active p i ms => .active p i (ms - 1) | .idle => .idle := by
  cases q <;> rfl

/-- The Supply Sequencer's three timers (R157, R159, R160). -/
theorem Supply.countMs_eq (k : Supply) : k.countMs = { k with
    seq := (match k.seq with | .active p i ms => .active p i (ms - 1) | .idle => .idle)
    endTimer := k.endTimer.map fun ms => ms - 1, quiet := k.quiet.map fun ms => ms - 1 } :=
  congrArg (fun q => { k with seq := q, endTimer := k.endTimer.map fun ms => ms - 1, quiet := k.quiet.map fun ms => ms - 1 })
    (Sequencer.countMs_eq k.seq)

/-! ## The rows (R5, R11) -/

theorem glideArrivalStep_arrives (h : (flush s).clock.arrives = true) : glideArrivalStep s = tick (flush s) := by
  simp only [glideArrivalStep, h, if_true]

theorem glideArrivalStep_none (h : (flush s).clock.arrives = false) : glideArrivalStep s = s := by
  simp only [glideArrivalStep, h, Bool.false_eq_true, if_false]

end Sys2Proof.Machine
end

section
/-! SUPPORT. Rounded division and the end of a fade (R15, R23, R39, R43). -/

namespace Sys2Proof.Machine

variable {s : State}

/-! ## A rounded quotient lies between the whole numbers its numerator lies between (R39) -/

/-- Rounding toward zero is downward for a numerator of at least 0 and upward below it. -/
theorem roundDiv_towardZero (num : Int) (den : Nat) :
    roundDiv .towardZero num den = if 0 ≤ num then roundDiv .down num den else roundDiv .up num den := by
  simp only [roundDiv]
  split
  · next h => exact Int.tdiv_eq_ediv_of_nonneg h
  · next h =>
    have hneg : (-num).tdiv (den : Int) = -num / (den : Int) := Int.tdiv_eq_ediv_of_nonneg (by omega)
    rw [Int.neg_tdiv] at hneg
    omega

theorem le_roundDiv {mode : Rounding} {a num : Int} {den : Nat} (hd : 0 < den) (h : a * den ≤ num) : a ≤ roundDiv mode num den := by
  have hden : (0 : Int) < den := by omega
  have hdown : a ≤ roundDiv .down num den := Int.le_ediv_of_mul_le hden h
  have hup : a ≤ roundDiv .up num den := by
    have : -num / (den : Int) ≤ -a := Int.ediv_le_of_le_mul hden (by rw [Int.neg_mul]; omega)
    simp only [roundDiv]
    omega
  cases mode with
  | down => exact hdown
  | up => exact hup
  | towardZero =>
    rw [roundDiv_towardZero]
    split
    · exact hdown
    · exact hup
  | nearestEven =>
    simp only [roundDiv] at hdown ⊢
    split_ifs <;> omega

theorem roundDiv_le {mode : Rounding} {b num : Int} {den : Nat} (hd : 0 < den) (h : num ≤ b * den) : roundDiv mode num den ≤ b := by
  have hden : (0 : Int) < den := by omega
  have hdown : roundDiv .down num den ≤ b := Int.ediv_le_of_le_mul hden h
  have hup : roundDiv .up num den ≤ b := by
    have : -b ≤ -num / (den : Int) := Int.le_ediv_of_mul_le hden (by rw [Int.neg_mul]; omega)
    simp only [roundDiv]
    omega
  cases mode with
  | down => exact hdown
  | up => exact hup
  | towardZero =>
    rw [roundDiv_towardZero]
    split
    · exact hdown
    · exact hup
  | nearestEven =>
    -- a quotient rounded up has a remainder above 0, so it lies below `b` before rounding
    have hnext : 0 < num % (den : Int) → num / (den : Int) + 1 ≤ b := by
      intro hr
      refine Int.add_one_le_of_lt (Int.lt_of_mul_lt_mul_right (a := (den : Int)) ?_ hden.le)
      have := Int.ediv_mul_add_emod num (den : Int)
      omega
    simp only [roundDiv] at hdown ⊢
    split_ifs <;> omega

/-! ## The level a fade gives (R43) -/

/-- Within its duration a fade's level lies between its from-level and its to-level, and is the from-level at elapsed 0. -/
theorem fadeLevel_between (mode : Rounding) {f : Fade} (hd : 0 < f.duration) (he : f.elapsed ≤ f.duration) :
    let r := roundDiv mode (((f.toLevel : Int) - f.fromLevel) * f.elapsed) f.duration
    min 0 ((f.toLevel : Int) - f.fromLevel) ≤ r ∧ r ≤ max 0 ((f.toLevel : Int) - f.fromLevel) ∧ (f.elapsed = 0 → r = 0) := by
  have hel : (f.elapsed : Int) ≤ f.duration := by omega
  generalize (f.toLevel : Int) - f.fromLevel = Δ
  intro r
  refine ⟨le_roundDiv hd ?_, roundDiv_le hd ?_, fun h0 => ?_⟩
  · obtain h | h := le_total 0 Δ
    · rw [min_eq_left h, Int.zero_mul]
      exact Int.mul_nonneg h (by omega)
    · rw [min_eq_right h]
      exact Int.mul_le_mul_of_nonpos_left h hel
  · obtain h | h := le_total 0 Δ
    · rw [max_eq_right h]
      exact Int.mul_le_mul_of_nonneg_left hel h
    · rw [max_eq_left h, Int.zero_mul]
      exact Int.mul_nonpos_of_nonpos_of_nonneg h (by omega)
  · have hz : Δ * (f.elapsed : Int) = 0 := by rw [h0]; simp
    exact le_antisymm (roundDiv_le hd (by omega)) (le_roundDiv hd (by omega))

/-! ## A fade counts and ends (R15, R23) -/

/-- Only what a change makes of the record itself counts. -/
theorem State.modGroup_congr {g : Fin 32} {f h : Group → Group} (e : f (s.light.groups.get g) = h (s.light.groups.get g)) :
    s.modGroup g f = s.modGroup g h := by
  simp only [State.modGroup, Table.modify, e]

theorem Group.endsFade_some {r : Group} {f : Fade} (h : r.fade = some f) (n : Nat) :
    r.endsFade f.base n = decide (f.duration ≤ f.elapsed + n) := by simp [Group.endsFade, h]

theorem advanceFade_ends {g : Fin 32} {f : Fade} {n : Nat} (h : (s.light.groups.get g).fade = some f) (he : f.duration ≤ f.elapsed + n) :
    advanceFade f.base n g s = (s.modGroup g fun r => { r with level := f.toLevel, fade := none }).raise (.fadeDone g) := by
  have hends := (Group.endsFade_some h n).trans (decide_eq_true he)
  unfold advanceFade
  rw [if_pos hends]
  exact congrArg _ (State.modGroup_congr (by simp only [Group.finish, h]))

theorem advanceFade_counts {g : Fin 32} {f : Fade} {n : Nat} (h : (s.light.groups.get g).fade = some f) (he : f.elapsed + n < f.duration) :
    advanceFade f.base n g s = s.modGroup g fun r => { r with fade := some { f with elapsed := f.elapsed + n } } := by
  have hends := (Group.endsFade_some h n).trans (decide_eq_false (Nat.not_le.mpr he))
  have hfades : (s.light.groups.get g).fades f.base = true := by simp [Group.fades, h]
  unfold advanceFade
  rw [if_neg (by simp [hends]), if_pos hfades]
  exact State.modGroup_congr (by simp only [Group.countFade, h])

end Sys2Proof.Machine
end

section
/-! SUPPORT. The queries (R17, R27, R37, R64, R84, R103, R122, R126, R141, R148, R149, R153, R162, R171). -/

namespace Sys2Proof.Machine

variable {s : State}

/-- A request that its block answers without a change: nothing but the Show Link's own records moves (R166). -/
theorem exec_query (h : s.ready = true) {i : Instr} {tag : Nat} {r : Request} {a : Answer}
    (hi : exec i s = perform (deliver (requestFrame tag r)) s) (hr : Request.ofLink r = false)
    (hq : handle r (s.taking tag r) = (s.taking tag r, a)) : exec i s = .next (s.served tag r id a) :=
  exec_served h hi hr hq

/-- A table's records in index order. -/
theorem flatMap_items {α β : Type} {n : Nat} (t : Table α n) (f : α → List β) :
    t.items.flatMap f = (indices n).flatMap fun i => f (t.get i) := by
  have h : t.items = (indices n).map t.get := by
    apply List.ext_getElem
    · simp [indices, t.size]
    · intro i h1 h2
      simp [indices, Table.get]
  rw [h, List.flatMap_map]

/-- A town time that may be absent (R17). -/
theorem datR_town (t : Option Nat) :
    datR t 4 (dat 4) = match t with | some t => dat 1 1 ++ dat 4 t | none => dat 1 0 ++ dat 4 0 := by
  cases t <;> rfl

/-! ## Items the part does not have -/

theorem doLayoutQuery_beyond {cls n : Nat} (h : 2 < cls ∨ (cls = 0 ∧ 47 < n) ∨ (cls = 1 ∧ 23 < n) ∨ (cls = 2 ∧ 3 < n)) (s : State) :
    doLayoutQuery cls n s = (s, refuse .outOfRange) := by
  obtain h | ⟨rfl, h⟩ | ⟨rfl, h⟩ | ⟨rfl, h⟩ := h
  · obtain ⟨k, rfl⟩ := Nat.exists_eq_add_of_le' (show 3 ≤ cls from h)
    rfl
  · rw [doLayoutQuery, fin?_of_le h]
  · rw [doLayoutQuery, fin?_of_le h]
  · rw [doLayoutQuery, fin?_of_le h]

/-- The steps asked for do not lie in the list (R126). -/
theorem doListQuery_badRange {first count : Nat} (h : ¬(first ≤ 31 ∧ count ≤ 17 ∧ first + count ≤ 32)) (n : Nat) (s : State) :
    doListQuery n first count s = (s, refuse .outOfRange) := by
  have hr : listRange first count = false := by simpa [listRange, and_assoc] using h
  unfold doListQuery
  split
  · rfl
  · rw [if_pos hr]

theorem doListQuery_item {first count : Nat} (h1 : first ≤ 31) (h2 : count ≤ 17) (h3 : first + count ≤ 32) (l : Fin 64) (s : State) :
    doListQuery l.1 first count s = (s, okWith (dat 1 (s.cue.lists.get l).state.code ++ dat 1 (s.cue.lists.get l).length
      ++ datF (s.listUser l).isSome
      ++ datL (((s.cue.lists.get l).steps.items.drop first).take count) (fun r => (bStep r).map (BitVec.ofNat 8)))) := by
  have hr : listRange first count = true := by simp [listRange, h1, h2, h3]
  rw [doListQuery, fin?_val]
  exact if_neg (by simp [hr])

/-- A crossing out of service or without a definition (R84; log entry 29). -/
theorem doCrossingQuery_absent (c : Fin 4) (s : State)
    (h : s.track.config ≠ .operational ∨ (s.track.crossings.get c).defn = none ∨ s.track.couplings.get c = none) :
    doCrossingQuery c.1 s = (s, okWith (dat 1 0xFF)) := by
  rw [doCrossingQuery, fin?_val]
  dsimp only
  split
  · next hc hd hk => simp [hc, hd, hk] at h
  · rfl

end Sys2Proof.Machine
end

section
/-! SUPPORT. The state after reset (R1, R2 and the power-on values of every block). -/

namespace Sys2Proof.Machine

/-- What every section names as its holder after reset: no train (R68). -/
theorem reset_sec (x : Fin 48) : State.reset.sec x = .none := congrArg SectionRun.state (Table.get_replicate _ x)

theorem reset_train (t : Fin 8) : State.reset.trains.get t = Train.initial := Table.get_replicate _ t

theorem reset_axis (a : Fin 8) : State.reset.axes.get a = Axis.initial := Table.get_replicate _ a

theorem reset_player (p : Fin 8) : State.reset.cue.players.get p = Player.initial p.1 := Table.get_ofFn _ p

theorem reset_holder (x : Fin 57) : State.reset.cue.holders.get x = none := Table.get_replicate _ x

/-- After reset no section is held and no train holds one (R68, R85). -/
theorem reset_heldWf : State.reset.heldWf = true := by
  have hh (t : Fin 8) : State.reset.heldOf t = [] := by rw [State.heldOf, reset_train]; rfl
  simp [State.heldWf, hh, reset_sec, reset_train, SecState.holder, Train.initial]

end Sys2Proof.Machine
end

section
/-! SUPPORT. The statements of the Town Clock's family settled: each by its lemmas above. -/

namespace Sys2Proof.Town

open Sys2Proof.Machine

/-- Settles O57: the clock's invariant is a stable property that every command keeps. -/
theorem clockInvariant : Obligations.ClockInvariant := fun _ _ h e => stepStable_clockWf.step h e

/-- Settles O16, by the clock's state: the record after an advance is the moved one, with a glide that arrived ended. -/
theorem clockAdvance : Obligations.ClockAdvance := by
  intro s hw c t
  obtain ⟨htown, -, -, -, -, ht, hrun, -⟩ := c.wf_iff.mp hw
  obtain ⟨day, -, hc⟩ := advanceClock_clock s
  change t.clock = _ at hc
  refine ⟨fun hs => advanceClock_held hs hw, fun hs => ?_, fun target hs htgt => ?_, by simp [hc, Clock.moved, c]⟩
  · have harr : s.clock.arrives = false := Clock.arrives_of_ne (by simp [hs, c])
    simp only [hc, harr, Clock.moved, Clock.advance_run (c := s.clock) hs]
    exact ⟨rfl, rfl, rfl, hs, hrun hs, Clock.wf_advance_le hw⟩
  · have harr : s.clock.arrives = decide (glideDistance c.town target ≤ c.glideRate) := Clock.arrives_glide hs htgt
    have hreach := glideDistance_reaches htown (ht _ htgt)
    simp only [hc, harr, Clock.moved, Clock.advance_glide (c := s.clock) hs htgt]
    refine ⟨rfl, rfl, rfl, fun hfar => ?_, fun hfar => ?_⟩
    · have : ¬glideDistance c.town target ≤ c.glideRate := Nat.not_le.mpr hfar
      simp [this, hs, htgt, c]
    · have hle : glideDistance c.town target ≤ c.glideRate := hfar
      refine ⟨by simp [hle], by simp [hle], ?_⟩
      rw [Nat.min_eq_right hle]
      exact hreach

/-- Settles O17: boundaries by arithmetic, and an advance by the clock's state and whether a glide arrives. -/
theorem minutesPassed : Obligations.MinutesPassed := by
  refine ⟨fun t d => ⟨mem_boundaries t d, boundaries_ascending t d⟩, fun b s => ⟨fun hb => passBoundary_minute hb s, ?_⟩, ?_,
    fun n p => ⟨fun _ _ => Player.countTown_waiting, Player.countTown_other⟩⟩
  · rintro rfl
    exact passBoundary_midnight s
  · intro s hw c given passed
    refine ⟨fun hs => ?_, fun target hs htgt => ?_⟩
    · exact advanceClock_on (Clock.advance_run hs) (Clock.arrives_of_ne (by simp [hs, c]))
    · have harr := Clock.arrives_glide hs htgt
      have hadv := Clock.advance_glide hs htgt
      intro far
      refine ⟨fun hfar => ?_, fun hfar => ?_⟩
      · have hle : ¬glideDistance c.town target ≤ c.glideRate := Nat.not_le.mpr hfar
        rw [Nat.min_eq_left (Nat.le_of_not_le hle)] at hadv
        exact advanceClock_on hadv (harr.trans (decide_eq_false hle))
      · have hle : glideDistance c.town target ≤ c.glideRate := hfar
        rw [Nat.min_eq_right hle] at hadv
        exact advanceClock_arriving hadv (harr.trans (decide_eq_true hle))

/-- Settles O14: the checks of CLOCK_SET_RATE in their order, and CLOCK_HOLD and CLOCK_RUN by the clock's state. -/
theorem clockSettings : Obligations.ClockSettings := by
  refine ⟨fun tag p m q glide s h => ?_, fun tag s h => ⟨?_, fun hs ht => ?_, fun hs ht => ?_, fun hs => ?_⟩⟩
  · extract_lets r
    split
    · next hp => exact exec_clockSetRate_refused h (by rw [rateFailure, if_pos hp])
    next hp =>
    split
    · next hm => exact exec_clockSetRate_refused h (by rw [rateFailure, if_neg hp, if_pos hm])
    next hm =>
    split
    · next hq => exact exec_clockSetRate_refused h (by rw [rateFailure, if_neg hp, if_neg hm, if_pos hq])
    next hq =>
    split
    · next hst =>
      have hst' : m < p ∨ 256 * p < m := by omega
      exact exec_clockSetRate_refused h (by rw [rateFailure, if_neg hp, if_neg hm, if_neg hq, if_pos hst'])
    next hst =>
    have hst' : ¬(m < p ∨ 256 * p < m) := by omega
    split
    · next hg => exact exec_clockSetRate_refused h (by rw [rateFailure, if_neg hp, if_neg hm, if_neg hq, if_neg hst', if_pos hg])
    · next hg => exact exec_clockSetRate_stored h (by rw [rateFailure, if_neg hp, if_neg hm, if_neg hq, if_neg hst', if_neg hg])
  · exact exec_served h rfl rfl rfl
  · refine exec_served h rfl rfl (congrArg (·, okay) (State.modClock_congr ((Clock.resume_held hs).trans ?_)))
    rw [State.taking_clock, ht, if_neg (by decide)]
  · refine exec_served h rfl rfl (congrArg (·, okay) (State.modClock_congr ((Clock.resume_held hs).trans ?_)))
    rw [State.taking_clock, if_pos ht]
  · exact exec_served h rfl rfl (congrArg (·, okay) (State.modClock_congr (g := id) (Clock.resume_of_ne hs)))

/-- Settles O15: a target or mode out of range, then the two modes, GLIDE by the clock's state and the distance. -/
theorem clockSetTime : Obligations.ClockSetTime := by
  intro tag target mode s h r ended
  have hbeyond (ht : target ≤ 86399999) : ¬Config.dayMs ≤ target := by unfold Config.dayMs; omega
  refine ⟨fun hbad => ?_, fun ht hm => ?_, fun ht hm hs => ?_, fun ht hm hs hd => ?_, fun ht hm hs hd => ?_⟩
  · refine exec_served h rfl rfl ?_
    change doClockSetTime target mode _ = _
    unfold doClockSetTime
    split
    · rfl
    · next ht =>
      have hm : 2 ≤ mode := by unfold Config.dayMs at ht; omega
      obtain ⟨k, rfl⟩ := Nat.exists_eq_add_of_le' hm
      rfl
  · subst hm
    exact exec_served h rfl rfl (if_neg (hbeyond ht))
  · subst hm
    exact exec_served h rfl rfl ((if_neg (hbeyond ht)).trans (if_pos hs))
  · subst hm
    exact exec_served h rfl rfl ((if_neg (hbeyond ht)).trans ((if_neg hs).trans (if_pos hd)))
  · subst hm
    exact exec_served h rfl rfl ((if_neg (hbeyond ht)).trans ((if_neg hs).trans (if_neg hd)))

/-- Settles O18: the row and GLIDE_ARRIVAL by whether a glide arrives, then the counts record by record. -/
theorem realMillisecond : Obligations.RealMillisecond := by
  refine ⟨fun s h => ⟨perform_clear h _, rfl, fun ha => ?_, fun ha => ?_⟩, fun s => ?_, fun s => ?_⟩
  · exact (perform_clear h _).trans (congrArg _ (glideArrivalStep_arrives ha))
  · exact (perform_clear h _).trans (congrArg _ (glideArrivalStep_none ha))
  · exact ⟨rt_succ_toNat _, rfl, schedAt_detect _, schedAt_axes _, schedAt_inputs _, rfl, rfl, rfl, rfl, rfl, rfl⟩
  · intro t
    have hrun x : t.track.runs.get x = (s.track.runs.get x).countMs := Table.get_map _ _ x
    have hplayer p : t.cue.players.get p = (s.cue.players.get p).countMs := Table.get_map _ _ p
    refine ⟨fun x ms hx => (hrun x).trans (SectionRun.countMs_clearing hx), fun x hx => (hrun x).trans (SectionRun.countMs_other hx),
      ThrowUnit.countMs_eq _, fun c => Table.get_map _ _ c, rfl, Supply.countMs_eq _,
      fun k => Table.get_map _ _ k, fun p => ?_, rfl, fun k => Table.get_map _ _ k, rfl⟩
    rw [hplayer]
    exact ⟨fun _ _ => Player.countMs_realMs, fun _ _ _ _ => Player.countMs_event, Player.countMs_other⟩

/-- Settles O24: a fade's count and end, its row in both bases, and the level by the bounds of a rounded quotient. -/
theorem fadeEnds : Obligations.FadeEnds := by
  refine ⟨fun g f n s hf => ⟨advanceFade_ends hf, advanceFade_counts hf, fun hw hb he hl => ?_, fun hw hb hf' hn he => ?_⟩,
    fun g f => ⟨fun hf => ?_, fun hf hd he => ?_⟩⟩
  · have hends : (s.light.groups.get g).endsFade .real 1 = true := hb ▸ (Group.endsFade_some hf 1).trans (decide_eq_true he)
    refine (perform_clear hw _).trans (congrArg _ ?_)
    rw [forItem_val, fadeDoneStep, if_pos (by rw [hl, hends]; rfl)]
  · have hno : (s.light.groups.get g).endsFade .real 1 = false := by simp [Group.endsFade, hf, hb]
    have hends := hb ▸ (Group.endsFade_some hf' _).trans (decide_eq_true he)
    refine (perform_clear hw _).trans (congrArg _ ?_)
    rw [forItem_val, fadeDoneStep, if_neg (by simp [hno])]
    exact if_pos (by rw [hends, decide_eq_true hn]; rfl)
  · simp only [Group.levelNow, hf]
  · obtain ⟨hlo, hhi, hzero⟩ := fadeLevel_between g.rounding hd he
    simp only [Group.levelNow, hf, fadeLevel]
    omega

/-- Settles O56, query by query: an index that is one of the table's is read as itself, any other is refused. -/
theorem queries : Obligations.Queries := by
  intro tag g t4 c4 c x p i k l s h asked refused
  refine ⟨exec_query h rfl rfl rfl, ?_, ?_, ?_, ?_, ?_, ?_, ?_, ?_, ?_, ?_, ?_, exec_query h rfl rfl rfl, ?_, ?_,
    ?_, ?_, ?_, exec_query h rfl rfl rfl, ?_, exec_query h rfl rfl rfl, ?_⟩
  -- The Show Link, the Town Clock and the Light Engine
  · refine exec_query h rfl rfl ?_
    rw [handle, doStatus, flatMap_items]
    rfl
  · refine exec_query h rfl rfl ?_
    rw [handle, doClockQuery, datR_town]
    rfl
  · exact exec_query h rfl rfl (by rw [handle, doGammaQuery, fin?_val]; rfl)
  · exact exec_query h rfl rfl (by rw [handle, doGroupQuery, fin?_val]; rfl)
  · exact exec_query h rfl rfl (by rw [handle, doChannelQuery, fin?_val]; rfl)
  -- The Track Controller
  · exact exec_query h rfl rfl (by rw [handle, doLayoutQuery, fin?_val]; rfl)
  · exact exec_query h rfl rfl (by rw [handle, doLayoutQuery, fin?_val]; rfl)
  · exact exec_query h rfl rfl (by rw [handle, doLayoutQuery, fin?_val]; rfl)
  · intro d inService
    refine ⟨fun hs => exec_query h rfl rfl ?_, fun hs => exec_query h rfl rfl ?_⟩
    · rw [handle, doSectionQuery, fin?_val]
      exact if_pos hs
    · rw [handle, doSectionQuery, fin?_val]
      exact if_neg hs
  · intro d k hcfg hd hk
    refine exec_query h rfl rfl ?_
    rw [handle, doCrossingQuery, fin?_val]
    simp only [State.taking_track, hcfg, hd, hk]
    rfl
  · exact fun hs => exec_query h rfl rfl (doCrossingQuery_absent c4 _ hs)
  -- Trains, axes, lists, players, inputs and triggers
  · exact exec_query h rfl rfl (by rw [handle, doTrainQuery, fin?_val]; rfl)
  · exact exec_query h rfl rfl (by rw [handle, doAxisQuery, fin?_val]; rfl)
  · intro first count
    refine ⟨fun h1 h2 h3 => exec_query h rfl rfl (doListQuery_item h1 h2 h3 l _),
      fun hbad n => exec_query h rfl rfl (doListQuery_badRange hbad n _), fun n hn => exec_query h rfl rfl ?_⟩
    rw [handle, doListQuery, fin?_of_le hn]
  · exact exec_query h rfl rfl (by rw [handle, doPlayerQuery, fin?_val]; rfl)
  · exact exec_query h rfl rfl (by rw [handle, doInputQuery, fin?_val]; rfl)
  · exact exec_query h rfl rfl (by rw [handle, doTriggerQuery, fin?_val]; rfl)
  -- Items the part does not have
  · intro n cls
    refine ⟨fun hn => ⟨?_, ?_⟩, fun hn => ⟨?_, ?_, ?_, ?_⟩, fun hn => ⟨?_, ?_⟩, fun hn => ?_, fun hn => ?_,
      fun hn => exec_query h rfl rfl (doLayoutQuery_beyond hn _)⟩
    · exact exec_query h rfl rfl (by rw [handle, doGammaQuery, fin?_of_le hn])
    · exact exec_query h rfl rfl (by rw [handle, doCrossingQuery, fin?_of_le hn])
    · exact exec_query h rfl rfl (by rw [handle, doTrainQuery, fin?_of_le hn])
    · exact exec_query h rfl rfl (by rw [handle, doAxisQuery, fin?_of_le hn])
    · exact exec_query h rfl rfl (by rw [handle, doPlayerQuery, fin?_of_le hn])
    · exact exec_query h rfl rfl (by rw [handle, doInputQuery, fin?_of_le hn])
    · exact exec_query h rfl rfl (by rw [handle, doGroupQuery, fin?_of_le hn])
    · exact exec_query h rfl rfl (by rw [handle, doTriggerQuery, fin?_of_le hn])
    · exact exec_query h rfl rfl (by rw [handle, doSectionQuery, fin?_of_le hn])
    · exact exec_query h rfl rfl (by rw [handle, doChannelQuery, fin?_of_le hn])

/-- Settles O59: the invariants by evaluation, the records from the tables they are made of. -/
theorem resetState : Obligations.ResetState := by
  refine ⟨by decide, by decide, fun k => ?_, by decide, by decide, reset_heldWf, by decide, by decide, rfl, rfl, rfl, rfl, rfl, rfl, rfl,
    rfl, rfl, rfl, rfl, rfl, Table.get_replicate _, rfl, fun x => ⟨?_, reset_sec x⟩, fun p => ?_, rfl, rfl, fun t => ?_, fun a => ?_,
    fun p => ?_, reset_holder, fun k => ?_, Table.get_replicate _, rfl, rfl, rfl, rfl, rfl, rfl, rfl, rfl⟩
  · rw [reset_train]; decide
  · exact congrArg SectionDef.present (Table.get_replicate _ x)
  · exact congrArg Point.position (Table.get_replicate _ p)
  · rw [reset_train]; exact ⟨rfl, rfl⟩
  · rw [reset_axis]; exact ⟨rfl, rfl, rfl⟩
  · rw [reset_player]; rfl
  · exact congrArg Trigger.enabled (Table.get_replicate _ k)

end Sys2Proof.Town
end

section
/-! SUPPORT. The lamp groups' and gamma tables' requests (R20 to R27): an index or word read back, and the first item a check names. -/

namespace Sys2Proof

/-! ## Lists in ascending order -/

/-- In an ascending list the first item with an answer is the smallest that has one. -/
theorem findSome?_ascending {α β : Type} [LinearOrder α] {l : List α} (hl : l.Pairwise (· < ·)) (f : α → Option β) (b : β) :
    l.findSome? f = some b ↔ ∃ x ∈ l, f x = some b ∧ ∀ y ∈ l, (f y).isSome → x ≤ y := by
  induction l with
  | nil => simp
  | cons a l ih =>
    obtain ⟨ha, hl⟩ := List.pairwise_cons.mp hl
    rw [List.findSome?_cons]
    cases hf : f a with
    | none => simp [ih hl, hf]
    | some c =>
      constructor
      · rintro ⟨⟩
        refine ⟨a, List.mem_cons_self, hf, fun y hy _ => ?_⟩
        obtain rfl | hy := List.mem_cons.mp hy
        · exact le_rfl
        · exact (ha y hy).le
      · rintro ⟨x, hx, hfx, hmin⟩
        obtain rfl | hx := List.mem_cons.mp hx
        · exact hf.symm.trans hfx
        · exact absurd (hmin a List.mem_cons_self (by simp [hf])) (not_le.mpr (ha x hx))

/-- In an ascending list the first item that passes a test is the smallest that does. -/
theorem find?_ascending {α : Type} [LinearOrder α] {l : List α} (hl : l.Pairwise (· < ·)) (p : α → Bool) (x : α) :
    l.find? p = some x ↔ x ∈ l ∧ p x = true ∧ ∀ y ∈ l, p y = true → x ≤ y := by
  rw [List.find?_eq_findSome?_guard, findSome?_ascending hl]
  simp only [Option.guard_eq_some_iff, Option.isSome_guard]
  constructor
  · rintro ⟨_, hy, ⟨rfl, hp⟩, hmin⟩
    exact ⟨hy, hp, hmin⟩
  · rintro ⟨hx, hp, hmin⟩
    exact ⟨x, hx, ⟨rfl, hp⟩, hmin⟩

theorem indices_ascending (n : Nat) : (indices n).Pairwise (· < ·) := List.pairwise_lt_finRange n

@[simp] theorem mem_indices {n : Nat} (i : Fin n) : i ∈ indices n := List.mem_finRange i

end Sys2Proof

namespace Sys2Proof.Machine

variable {s : State}

/-! ## Numbers and words (R172) -/

@[simp] theorem groupModeOf_code (m : GroupMode) : groupModeOf m.code = some m := by cases m <;> rfl

@[simp] theorem roundingOf_code (w : Rounding) : roundingOf w.code = some w := by cases w <;> rfl

@[simp] theorem fadeBaseOf_code (b : FadeBase) : fadeBaseOf b.code = some b := by cases b <;> rfl

@[simp] theorem aspectOf_code (a : Aspect) : aspectOf a.code = some a := by cases a <;> rfl

theorem groupModeOf_beyond {n : Nat} (h : 2 < n) : groupModeOf n = none := by
  obtain ⟨k, rfl⟩ := Nat.exists_eq_add_of_le' (show 3 ≤ n from h)
  rfl

theorem roundingOf_beyond {n : Nat} (h : 3 < n) : roundingOf n = none := by
  obtain ⟨k, rfl⟩ := Nat.exists_eq_add_of_le' (show 4 ≤ n from h)
  rfl

theorem fadeBaseOf_beyond {n : Nat} (h : 1 < n) : fadeBaseOf n = none := by
  obtain ⟨k, rfl⟩ := Nat.exists_eq_add_of_le' (show 2 ≤ n from h)
  rfl

theorem aspectOf_beyond {n : Nat} (h : 2 < n) : aspectOf n = none := by
  obtain ⟨k, rfl⟩ := Nat.exists_eq_add_of_le' (show 3 ≤ n from h)
  rfl

/-! ## Group settings (R20, R22, R25) -/

theorem doGroupSetMode_stored {g : Fin 32} {m : GroupMode} (h : m = .curve → (s.light.groups.get g).curve ≠ []) :
    doGroupSetMode g.1 m.code s = (s.modGroup g fun r => { r with mode := m }, okay) := by
  rw [doGroupSetMode, fin?_val, groupModeOf_code]
  exact if_neg fun hc => h hc.1 hc.2

theorem doGroupSetMode_noCurve {g : Fin 32} (h : (s.light.groups.get g).curve = []) :
    doGroupSetMode g.1 0 s = (s, refuse .wrongState) := by
  rw [doGroupSetMode, fin?_val]
  exact if_pos ⟨rfl, h⟩

theorem doGroupSetMode_beyond {group mode : Nat} (h : 31 < group ∨ 2 < mode) :
    doGroupSetMode group mode s = (s, refuse .outOfRange) := by
  unfold doGroupSetMode
  obtain h | h := h
  · rw [fin?_of_le h]
  · rw [groupModeOf_beyond h]
    cases fin? 32 group <;> rfl

theorem doGroupConfig_stored (g : Fin 32) (w : Rounding) (t : Fin 4) :
    doGroupConfig g.1 w.code t.1 s = (s.modGroup g fun r => { r with rounding := w, gamma := t }, okay) := by
  rw [doGroupConfig, fin?_val, roundingOf_code, fin?_val]

theorem doGroupConfig_beyond {group word index : Nat} (h : 31 < group ∨ 3 < word ∨ 3 < index) :
    doGroupConfig group word index s = (s, refuse .outOfRange) := by
  unfold doGroupConfig
  obtain h | h | h := h
  · rw [fin?_of_le h]
  · rw [roundingOf_beyond h]
    cases fin? 32 group <;> rfl
  · rw [fin?_of_le (n := 4) h]
    cases fin? 32 group <;> cases roundingOf word <;> rfl

theorem doGroupSetBlink_beyond {group form : Nat} (on off burst : Nat) (h : 31 < group ∨ 1 < form) :
    doGroupSetBlink group form on off burst s = (s, refuse .outOfRange) := by
  unfold doGroupSetBlink
  split
  · rfl
  · next g hg =>
    have hf : 1 < form := h.resolve_left fun hgroup => by rw [fin?_of_le hgroup] at hg; cases hg
    rw [if_neg (by omega), if_neg (by omega)]

/-! ## GROUP_SET_LEVEL (R23, R24) -/

theorem doGroupSetLevel_beyond {group base : Nat} (level duration : Nat) (h : 31 < group ∨ 1 < base) :
    doGroupSetLevel group level duration base s = (s, refuse .outOfRange) := by
  unfold doGroupSetLevel
  obtain h | h := h
  · rw [fin?_of_le h]
  · rw [fadeBaseOf_beyond h]
    cases fin? 32 group <;> rfl

/-! ## The item a check names (R21, R27; log entry 57) -/

theorem firstIdx_none {α : Type} {test : α → Bool} {l : List α} (h : ∀ x ∈ l, test x = false) (i : Nat) : firstIdx test l i = none := by
  induction l generalizing i with
  | nil => rfl
  | cons a l ih =>
    obtain ⟨ha, hl⟩ := List.forall_mem_cons.mp h
    simp [firstIdx, ha, ih hl]

theorem firstIdx_append {α : Type} {test : α → Bool} {before : List α} (h : ∀ y ∈ before, test y = false) {x : α} (hx : test x = true)
    (after : List α) (i : Nat) : firstIdx test (before ++ x :: after) i = some (i + before.length) := by
  induction before generalizing i with
  | nil => simp [firstIdx, hx]
  | cons a before ih =>
    obtain ⟨ha, hb⟩ := List.forall_mem_cons.mp h
    simp [firstIdx, ha, ih hb]
    omega

/-- The index of the first item that does not stand to the one before it as it should. -/
def firstBreak {α : Type} (r : α → α → Bool) : List α → Nat → Option Nat
  | a :: b :: rest, i => if r a b then firstBreak r (b :: rest) (i + 1) else some (i + 1)
  | _, _ => none

theorem curveDrop_eq (l : List (Nat × Nat)) (i : Nat) : curveDrop l i = firstBreak (fun a b => decide (a.1 < b.1)) l i := by
  induction l, i using curveDrop.induct with
  | case1 a b rest i h ih => simp [curveDrop, firstBreak, h, ih]
  | case2 a b rest i h => simp [curveDrop, firstBreak, h]
  | case3 l i h => rw [curveDrop, firstBreak] <;> exact h

theorem gammaDrop_eq (l : List Nat) (i : Nat) : gammaDrop l i = firstBreak (fun a b => decide (a ≤ b)) l i := by
  induction l, i using gammaDrop.induct with
  | case1 a b rest i h ih => simp [gammaDrop, firstBreak, h, ih]
  | case2 a b rest i h => simp [gammaDrop, firstBreak, h]
  | case3 l i h => rw [gammaDrop, firstBreak] <;> exact h

theorem firstBreak_none {α : Type} {r : α → α → Bool} {l : List α} (h : l.Pairwise (r · ·)) (i : Nat) : firstBreak r l i = none := by
  induction l generalizing i with
  | nil => rfl
  | cons a l ih =>
    obtain ⟨ha, hl⟩ := List.pairwise_cons.mp h
    cases l with
    | nil => rfl
    | cons b l => simp [firstBreak, ha b List.mem_cons_self, ih hl]

theorem firstBreak_append {α : Type} {r : α → α → Bool} {before : List α} {a b : α} (h : (before ++ [a]).Pairwise (r · ·))
    (hb : r a b = false) (after : List α) (i : Nat) : firstBreak r (before ++ a :: b :: after) i = some (i + (before.length + 1)) := by
  induction before generalizing i with
  | nil => simp [firstBreak, hb]
  | cons x before ih =>
    obtain ⟨hx, hr⟩ := List.pairwise_cons.mp h
    cases before with
    | nil => simp [firstBreak, hx a (by simp), hb]
    | cons y before =>
      have := ih hr (i + 1)
      simp only [List.cons_append, List.length_cons] at this ⊢
      rw [firstBreak, if_pos (hx y (by simp)), this]
      congr 1
      omega

/-! ## GROUP_SET_CURVE (R21) -/

section
variable {g : Fin 32} {points : List (Nat × Nat)}

theorem doGroupSetCurve_count (h : points.length = 1 ∨ 16 < points.length) :
    doGroupSetCurve g.1 points s = (s, refuse .outOfRange) := by
  rw [doGroupSetCurve, fin?_val]
  exact if_pos h

theorem doGroupSetCurve_minute {i : Nat} (hc : ¬(points.length = 1 ∨ 16 < points.length))
    (h : firstIdx (fun x : Nat × Nat => 1439 < x.1) points 0 = some i) :
    doGroupSetCurve g.1 points s = (s, refuseAt .outOfRange 2 i 0) := by
  rw [doGroupSetCurve, fin?_val]
  simp only [if_neg hc, h]

theorem doGroupSetCurve_order {i : Nat} (hc : ¬(points.length = 1 ∨ 16 < points.length))
    (hm : ∀ x ∈ points, x.1 ≤ 1439) (h : curveDrop points 0 = some i) :
    doGroupSetCurve g.1 points s = (s, refuseAt .invalid 3 i 0) := by
  have hm := firstIdx_none (test := fun x : Nat × Nat => 1439 < x.1) (l := points) (fun x hx => by simpa using hm x hx) 0
  rw [doGroupSetCurve, fin?_val]
  simp only [if_neg hc, hm, h]

theorem doGroupSetCurve_valid (hc : ¬(points.length = 1 ∨ 16 < points.length)) (hm : ∀ x ∈ points, x.1 ≤ 1439)
    (h : points.Pairwise fun a b => a.1 < b.1) : doGroupSetCurve g.1 points s =
      if points = [] ∧ (s.light.groups.get g).mode = .curve then (s, refuse .wrongState)
      else (s.modGroup g fun r => { r with curve := points.map fun x => (x.1, min 4095 x.2) },
        okay.clampedBy (points.any fun x => 4095 < x.2)) := by
  have hm := firstIdx_none (test := fun x : Nat × Nat => 1439 < x.1) (l := points) (fun x hx => by simpa using hm x hx) 0
  have ho : curveDrop points 0 = none := (curveDrop_eq _ _).trans (firstBreak_none (by simpa using h) 0)
  rw [doGroupSetCurve, fin?_val]
  simp only [if_neg hc, hm, ho]

end

/-! ## GAMMA_WRITE (R27) -/

section
variable {t : Fin 4} {entries : List Nat}

theorem doGammaWrite_range {i : Nat} (h : firstIdx (fun x => 1023 < x) entries 0 = some i) :
    doGammaWrite t.1 entries s = (s, refuseAt .outOfRange 1 i 0) := by
  rw [doGammaWrite, fin?_val]
  simp only [h]

theorem doGammaWrite_falls {i : Nat} (hm : ∀ x ∈ entries, x ≤ 1023) (h : gammaDrop entries 0 = some i) :
    doGammaWrite t.1 entries s = (s, refuseAt .invalid 2 i 0) := by
  have hm := firstIdx_none (test := fun x => 1023 < x) (l := entries) (fun x hx => by simpa using hm x hx) 0
  rw [doGammaWrite, fin?_val]
  simp only [hm, h]

theorem doGammaWrite_stored (hm : ∀ x ∈ entries, x ≤ 1023) (h : gammaDrop entries 0 = none) :
    doGammaWrite t.1 entries s = (s.modLight fun l => { l with gammas := l.gammas.set t entries }, okay) := by
  have hm := firstIdx_none (test := fun x => 1023 < x) (l := entries) (fun x hx => by simpa using hm x hx) 0
  rw [doGammaWrite, fin?_val]
  simp only [hm, h]

end

end Sys2Proof.Machine
end

section
/-! SUPPORT. How long a blink phase and the cooling of a sodium lamp last (R26, R31). -/

namespace Sys2Proof.Machine

/-! ## Blink generators (R26) -/

/-- A generator whose counter runs counts down by one. -/
theorem Blink.advance_counting {b : Blink} (h : 0 < b.counter) : b.advance = (some { b with counter := b.counter - 1 }, false) := if_pos h

/-- An ON phase ends by entering OFF. -/
theorem Blink.advance_on {b : Blink} (h : b.counter = 0) (hp : b.phaseOn = true) :
    b.advance = (some { b with phaseOn := false, counter := b.offFrames - 1 }, true) := by simp [Blink.advance, h, hp]

/-- An OFF phase without end enters ON. -/
theorem Blink.advance_off {b : Blink} (h : b.counter = 0) (hp : b.phaseOn = false) (hb : b.burst = 0) :
    b.advance = (some { b with phaseOn := true, counter := b.onFrames - 1 }, true) := by simp [Blink.advance, h, hp, hb]

/-- The last OFF phase of a burst turns the generator off. -/
theorem Blink.advance_last {b : Blink} (h : b.counter = 0) (hp : b.phaseOn = false) (hb : b.burst = 1) :
    b.advance = (none, true) := by simp [Blink.advance, h, hp, hb]

/-- An earlier OFF phase of a burst enters ON with one phase less to come. -/
theorem Blink.advance_burst {b : Blink} (h : b.counter = 0) (hp : b.phaseOn = false) (hb : 2 ≤ b.burst) :
    b.advance = (some { b with phaseOn := true, counter := b.onFrames - 1, burst := b.burst - 1 }, true) := by
  have h0 : b.burst ≠ 0 := by omega
  have h1 : b.burst ≠ 1 := by omega
  simp [Blink.advance, h, hp, h0, h1]

/-- Through its phase a generator counts its counter down to 0. -/
theorem Blink.counts_down {b : Blink} {frames : Nat → Option Blink} (h0 : frames 0 = some b)
    (hf : ∀ k, frames (k + 1) = (frames k).bind fun x => x.advance.1) :
    ∀ k, k ≤ b.counter → frames k = some { b with counter := b.counter - k } := by
  intro k
  induction k with
  | zero => exact fun _ => h0
  | succ k ih =>
    intro hk
    have hpos : 0 < b.counter - k := by omega
    rw [hf, ih (by omega), Option.bind_some, Blink.advance_counting hpos, Nat.sub_sub]

/-! ## The sodium lamp (R31) -/

/-- A lit lamp without a level goes out: COLD without restrike frames, else COOLING for them. -/
theorem sodiumStep_out {warm restrike : Nat} {x : Sodium} (h : x = .warm ∨ ∃ k, x = .warming k) (hr : 0 < restrike) :
    sodiumStep warm restrike 0 x = .cooling restrike := by
  have hr : restrike ≠ 0 := by omega
  obtain rfl | ⟨k, rfl⟩ := h <;> simp [sodiumStep, hr]

/-- Through its restrike frames a lamp stays dark, whatever the levels. -/
theorem sodium_cools {warm restrike f : Nat} {levels : Nat → Nat} {lamp : Nat → Sodium}
    (hs : ∀ f, lamp (f + 1) = sodiumStep warm restrike (levels f) (lamp f)) (h0 : lamp (f + 1) = .cooling restrike) :
    ∀ j, j < restrike → lamp (f + 1 + j) = .cooling (restrike - j) := by
  intro j
  induction j with
  | zero => exact fun _ => h0
  | succ j ih =>
    intro hj
    have hleft : 1 < restrike - j := by omega
    rw [← Nat.add_assoc, hs, ih (by omega), sodiumStep, if_pos hleft, Nat.sub_sub]

end Sys2Proof.Machine
end

section
/-! SUPPORT. The channels' settings and the output places (R28, R29, R33, R34): what a run of positions or channels clashes with. -/

namespace Sys2Proof.Machine

variable {s : State}

/-! ## CHANNEL_CONFIG (R29; log entry 31) -/

/-- A channel's record with the settings of a CHANNEL_CONFIG whose fields are in range. -/
def Channel.configured (g : Fin 32) (k : ChannelKind) (trim : Int) (warm restrike : Nat) (x : Channel) : Channel :=
  { x with group := g, kind := k, trim := max (-512) (min 511 trim), warmFrames := min 1000 warm, restrikeFrames := min 1000 restrike
           sodium := if x.kind = .sodium ∧ k = .sodium then x.sodium else .cold }

section
variable {kind : Nat} {b : RawBinding}

theorem doChannelConfig_stored (c : Fin 512) (g : Fin 32) {k : ChannelKind} (trim : Int) (warm restrike : Nat)
    (h : channelKindOf kind b = .ok k) : doChannelConfig c.1 g.1 kind trim b warm restrike s =
      (s.modChannel c (Channel.configured g k trim warm restrike),
        okay.clampedBy (decide (trim < -512) || decide (511 < trim) || decide (1000 < warm) || decide (1000 < restrike))) := by
  simp only [doChannelConfig, fin?_val, h]
  rfl

theorem doChannelConfig_field (c : Fin 512) (g : Fin 32) {field : Nat} (trim : Int) (warm restrike : Nat)
    (h : channelKindOf kind b = .error field) :
    doChannelConfig c.1 g.1 kind trim b warm restrike s = (s, refuseAt .outOfRange field 0 0) := by
  simp only [doChannelConfig, fin?_val, h]

theorem doChannelConfig_beyond {channel group : Nat} (trim : Int) (warm restrike : Nat) (h : 511 < channel ∨ 31 < group) :
    doChannelConfig channel group kind trim b warm restrike s = (s, refuseAt .outOfRange (if 511 < channel then 0 else 1) 0 0) := by
  by_cases hc : 511 < channel
  · rw [doChannelConfig, fin?_of_le hc, if_pos hc]
  · rw [doChannelConfig, fin?_of_lt (n := 512) (by omega), fin?_of_le (h.resolve_left hc), if_neg hc]

/-- A SIGNAL binding names a section and an aspect (R28). -/
theorem channelKindOf_signal {x : Fin 48} {a : Aspect} (hx : b.item = x.1) (ha : b.aspect = a.code) :
    channelKindOf 2 b = .ok (.signal x a) := by
  simp only [channelKindOf, hx, ha, fin?_val, aspectOf_code]

/-- A CHASE binding names an axis and a window (R28). -/
theorem channelKindOf_chase {a : Fin 8} (ha : b.item = a.1) (hw : 0 < b.width) : channelKindOf 3 b = .ok (.chase a b.start b.width) := by
  simp only [channelKindOf, ha, fin?_val, if_neg (Nat.pos_iff_ne_zero.mp hw)]

/-- A GATE binding names a crossing (R28). -/
theorem channelKindOf_gate {x : Fin 4} (hx : b.item = x.1) : channelKindOf 4 b = .ok (.gate x) := by
  simp only [channelKindOf, hx, fin?_val]

theorem channelKindOf_noSection (h : 47 < b.item) : channelKindOf 2 b = .error 3 := by
  simp only [channelKindOf, fin?_of_le (n := 48) h]

theorem channelKindOf_noAspect (h : b.item ≤ 47) (ha : 2 < b.aspect) : channelKindOf 2 b = .error 4 := by
  simp only [channelKindOf, fin?_of_lt (n := 48) (Nat.lt_succ_of_le h), aspectOf_beyond ha]

theorem channelKindOf_noAxis (h : 7 < b.item) : channelKindOf 3 b = .error 5 := by
  simp only [channelKindOf, fin?_of_le (n := 8) h]

theorem channelKindOf_noWidth (h : b.item ≤ 7) (hw : b.width = 0) : channelKindOf 3 b = .error 6 := by
  simp only [channelKindOf, fin?_of_lt (n := 8) (Nat.lt_succ_of_le h), if_pos hw]

theorem channelKindOf_noCrossing (h : 3 < b.item) : channelKindOf 4 b = .error 7 := by
  simp only [channelKindOf, fin?_of_le (n := 4) h]

theorem channelKindOf_beyond (h : 4 < kind) : channelKindOf kind b = .error 2 := by
  obtain ⟨n, rfl⟩ := Nat.exists_eq_add_of_le' (show 5 ≤ kind from h)
  rfl

end

/-! ## PWM_MAP and CHAIN_LENGTH (R33, R34) -/

section
variable {o : Fin 16} {c : Fin 512}

theorem doPwmMap_free (h : s.light.placeOf c.1 = .none) :
    doPwmMap o.1 (some c.1) s = (s.modLight fun l => { l with pwm := l.pwm.set o (some c) }, okay) := by
  simp only [doPwmMap, fin?_val, h]

theorem doPwmMap_carried (h : s.light.placeOf c.1 = .pwm o) : doPwmMap o.1 (some c.1) s = (s, okay) := by
  simp only [doPwmMap, fin?_val, h, if_true]

theorem doPwmMap_elsewhere {o' : Fin 16} (ho : o' ≠ o) (h : s.light.placeOf c.1 = .pwm o') :
    doPwmMap o.1 (some c.1) s = (s, refuseAt .inUse 0 o'.1 0) := by
  simp only [doPwmMap, fin?_val, h, if_neg ho]

theorem doPwmMap_chain {i : Fin 16} {n : Nat} (h : s.light.placeOf c.1 = .chain i n) :
    doPwmMap o.1 (some c.1) s = (s, refuseAt .inUse 1 i.1 0) := by
  simp only [doPwmMap, fin?_val, h]

end

theorem doPwmMap_beyond {output : Nat} {channel : Option Nat} (h : 15 < output ∨ ∃ n, channel = some n ∧ 511 < n) :
    doPwmMap output channel s = (s, refuse .outOfRange) := by
  unfold doPwmMap
  split
  · rfl
  · next o ho =>
    obtain h | ⟨n, rfl, hn⟩ := h
    · rw [fin?_of_le h] at ho; cases ho
    · simp only [fin?_of_le (n := 512) hn]

theorem doChainLength_stored (k : Fin 4) {n : Nat} (h : n ≤ 128) :
    doChainLength k.1 n s = (s.modLight fun l => { l with chainLen := l.chainLen.set k n }, okay) := by
  rw [doChainLength, fin?_val]
  exact if_neg (Nat.not_lt.mpr h)

theorem doChainLength_beyond {chain n : Nat} (h : 3 < chain ∨ 128 < n) : doChainLength chain n s = (s, refuse .outOfRange) := by
  unfold doChainLength
  split
  · rfl
  · next c hc =>
    refine if_pos (h.resolve_left fun hchain => ?_)
    rw [fin?_of_le hchain] at hc
    cases hc

/-! ## The clashes of SEGMENT_SET (R34; log entry 16) -/

/-- A position of a run of a chain is mapped by a segment other than the one being set. -/
def Light.runMapped (l : Light) (seg : Fin 16) (chain : Fin 4) (first count : Nat) (i : Fin 16) (n : Nat) : Prop :=
  i ≠ seg ∧ first ≤ n ∧ n < first + count ∧
    ∃ d, l.segments.get i = some d ∧ d.chain = chain ∧ d.first ≤ n ∧ n < d.first + d.count

/-- A channel of a run is carried by a PWM output or a segment other than the one being set. -/
def Light.runPlaced (l : Light) (seg : Fin 16) (channel count n : Nat) : Prop :=
  channel ≤ n ∧ n < channel + count ∧ ((∃ (o : Fin 16) (x : Fin 512), l.pwm.get o = some x ∧ x.1 = n) ∨
    ∃ (i : Fin 16) (d : Segment), i ≠ seg ∧ l.segments.get i = some d ∧ d.channel ≤ n ∧ n < d.channel + d.count)

theorem Segment.maps_iff (d : Segment) (chain : Fin 4) (n : Nat) :
    d.maps chain n = true ↔ d.chain = chain ∧ d.first ≤ n ∧ n < d.first + d.count := by
  simp [Segment.maps, and_assoc]

theorem Segment.carries_iff (d : Segment) (n : Nat) : d.carries n = true ↔ d.channel ≤ n ∧ n < d.channel + d.count := by
  simp [Segment.carries]

section
variable (l : Light) (seg : Fin 16)

theorem Light.runMapped_iff (chain : Fin 4) (first count : Nat) (i : Fin 16) (n : Nat) :
    l.runMapped seg chain first count i n ↔
      n ∈ List.range' first count ∧ (i != seg && (l.segments.get i).any fun d => d.maps chain n) = true := by
  rw [List.mem_range'_1, Bool.and_eq_true, Option.any_eq_true, bne_iff_ne]
  simp only [Segment.maps_iff, Light.runMapped]
  tauto

theorem Light.runPlaced_iff (channel count n : Nat) :
    l.runPlaced seg channel count n ↔ n ∈ List.range' channel count ∧
      ((l.pwmOf n).isSome || (indices 16).any fun i => i != seg && (l.segments.get i).any fun d => d.carries n) = true := by
  simp [Light.runPlaced, Light.pwmOf, List.find?_isSome, Segment.carries_iff, Option.any_eq_true, and_assoc]

/-- The segment a SEGMENT_SET's run clashes with: the lowest that maps the lowest clashing position. -/
theorem segmentClash_eq_some (chain : Fin 4) (first count : Nat) (j : Fin 16) :
    segmentClash l seg chain first count = some j ↔ ∃ n, l.runMapped seg chain first count j n ∧
      (∀ i m, l.runMapped seg chain first count i m → n ≤ m) ∧ ∀ i, l.runMapped seg chain first count i n → j ≤ i := by
  rw [segmentClash, findSome?_ascending List.pairwise_lt_range']
  simp only [find?_ascending (indices_ascending 16), List.find?_isSome, Light.runMapped_iff, mem_indices, true_and, forall_const]
  constructor
  · rintro ⟨n, hn, ⟨hj, hlow⟩, hmin⟩
    exact ⟨n, ⟨hn, hj⟩, fun i m hm => hmin m hm.1 ⟨i, hm.2⟩, fun i hi => hlow i hi.2⟩
  · rintro ⟨n, ⟨hn, hj⟩, hmin, hlow⟩
    exact ⟨n, hn, ⟨hj, fun i hi => hlow i ⟨hn, hi⟩⟩, fun m hm ⟨i, hi⟩ => hmin i m ⟨hm, hi⟩⟩

theorem segmentClash_eq_none (chain : Fin 4) (first count : Nat) :
    segmentClash l seg chain first count = none ↔ ∀ i n, ¬l.runMapped seg chain first count i n := by
  simp only [segmentClash, List.findSome?_eq_none_iff, List.find?_eq_none, Light.runMapped_iff, mem_indices, true_imp_iff, not_and]
  exact ⟨fun h i n hn => h n hn i, fun h n hn i => h i n hn⟩

/-- The channel a SEGMENT_SET's run clashes with: the lowest that has a place. -/
theorem channelClash_eq_some (channel count n : Nat) :
    channelClash l seg channel count = some n ↔
      l.runPlaced seg channel count n ∧ ∀ m, l.runPlaced seg channel count m → n ≤ m := by
  rw [channelClash, find?_ascending List.pairwise_lt_range']
  simp only [Light.runPlaced_iff, and_assoc, and_imp]

theorem channelClash_eq_none (channel count : Nat) :
    channelClash l seg channel count = none ↔ ∀ n, ¬l.runPlaced seg channel count n := by
  simp only [channelClash, List.find?_eq_none, Light.runPlaced_iff, not_and]

/-- A run apart from every other segment's run of the chain clashes with none. -/
theorem segmentClash_apart {chain : Fin 4} {first count : Nat}
    (h : ∀ i : Fin 16, i ≠ seg → ∀ d, l.segments.get i = some d → d.chain = chain → d.first + d.count ≤ first ∨ first + count ≤ d.first) :
    segmentClash l seg chain first count = none := by
  rw [segmentClash_eq_none]
  rintro i n ⟨hi, h1, h2, d, hd, hc, h3, h4⟩
  have := h i hi d hd hc
  omega

/-- A run apart from every PWM output's channel and every other segment's channels clashes with none. -/
theorem channelClash_apart {channel count : Nat}
    (hs : ∀ i : Fin 16, i ≠ seg → ∀ d, l.segments.get i = some d → d.channel + d.count ≤ channel ∨ channel + count ≤ d.channel)
    (hp : ∀ (o : Fin 16) (x : Fin 512), l.pwm.get o = some x → x.1 < channel ∨ channel + count ≤ x.1) :
    channelClash l seg channel count = none := by
  rw [channelClash_eq_none]
  rintro n ⟨h1, h2, ⟨o, x, hx, rfl⟩ | ⟨i, d, hi, hd, h3, h4⟩⟩
  · have := hp o x hx
    omega
  · have := hs i hi d hd
    omega

end

/-- SEGMENT_SET of a run within the chain and the channels, by its clashes. -/
theorem doSegmentSet_inRange (i : Fin 16) (c : Fin 4) {first count channel : Nat} (h1 : 1 ≤ count) (h2 : first + count ≤ 128)
    (h3 : channel + count ≤ 512) : doSegmentSet i.1 c.1 first count channel s =
      match segmentClash s.light i c first count, channelClash s.light i channel count with
      | some j, _ => (s, refuseAt .inUse 5 j.1 0)
      | none, some n => (s, refuseAt .inUse 6 n 0)
      | none, none => (s.modLight fun l =>
          { l with segments := l.segments.set i (some { chain := c, first := first, count := count, channel := channel }) }, okay) := by
  simp only [doSegmentSet, fin?_val]
  rw [if_neg (by omega), if_neg (by omega), if_neg (by omega)]
  cases segmentClash s.light i c first count <;> cases channelClash s.light i channel count <;> rfl

theorem doSegmentSet_beyond {seg chain first count channel : Nat}
    (h : 15 < seg ∨ 3 < chain ∨ count < 1 ∨ 128 < count ∨ 128 < first + count ∨ 512 < channel + count) :
    doSegmentSet seg chain first count channel s = (s, refuse .outOfRange) := by
  unfold doSegmentSet
  split
  · rfl
  next i hi =>
  split
  · rfl
  next c hc =>
  have hseg : ¬15 < seg := fun hb => by rw [fin?_of_le hb] at hi; cases hi
  have hchain : ¬3 < chain := fun hb => by rw [fin?_of_le hb] at hc; cases hc
  split
  · rfl
  split
  · rfl
  exact if_pos (by omega)

end Sys2Proof.Machine
end

section
/-! SUPPORT. The light frame (R18, R26, R30 to R36, R38, R46 to R50): its rows, its parts, what it makes of a channel, and what it sends. -/

namespace Sys2Proof.Machine

variable {s : State}

/-! ## The rows (log entry 2) -/

/-- The frame ends a lamp's COOLING when at most one frame of it is left (R31). -/
theorem State.endsCooling_eq (s : State) (c : Fin 512) : s.endsCooling c = ((s.light.channels.get c).kind == .sodium &&
    ((s.light.channels.get c).sodium == .cooling 0 || (s.light.channels.get c).sodium == .cooling 1)) := by
  rw [Bool.eq_iff_iff]
  unfold State.endsCooling
  split
  · next n hk hn =>
    simp only [hk, hn, decide_eq_true_eq, Bool.and_eq_true, Bool.or_eq_true, beq_iff_eq, Sodium.cooling.injEq, true_and]
    omega
  · next h =>
    simp only [Bool.false_eq_true, Bool.and_eq_true, Bool.or_eq_true, beq_iff_eq, false_iff, not_and, not_or]
    exact fun hk => ⟨h 0 hk, h 1 hk⟩

/-! ## The blink generators (R26) -/

theorem advanceBlink_off {g : Fin 32} (h : (s.light.groups.get g).blink = none) : advanceBlink g s = s := by
  simp only [advanceBlink, h]

theorem advanceBlink_moves {g : Fin 32} {b b' : Blink} {ended : Bool} (h : (s.light.groups.get g).blink = some b)
    (e : b.advance = (some b', ended)) : advanceBlink g s = s.modGroup g fun r => { r with blink := some b' } := by
  simp only [advanceBlink, h, e]

theorem advanceBlink_done {g : Fin 32} {b : Blink} {ended : Bool} (h : (s.light.groups.get g).blink = some b) (e : b.advance = (none, ended)) :
    advanceBlink g s = (s.modGroup g fun r => { r with blink := none }).raise (.blinkDone g) := by
  simp only [advanceBlink, h, e]

/-! ## The composition of a channel (R30, R38, R46, R47, R49) -/

/-- A channel's group's generator lets it through and its binding is lit (R46). -/
def State.passes (s : State) (x : Channel) : Prop :=
  (∀ b, (s.light.groups.get x.group).blink = some b → b.phaseOn = true) ∧ s.lit x.kind = true

theorem Group.blinkPasses_iff (g : Group) : g.blinkPasses = true ↔ ∀ b, g.blink = some b → b.phaseOn = true :=
  Option.all_eq_true _ _

theorem State.passes_iff (s : State) (x : Channel) :
    ((s.light.groups.get x.group).blinkPasses && s.lit x.kind) = true ↔ s.passes x := by
  rw [Bool.and_eq_true, Group.blinkPasses_iff]
  rfl

/-- Every channel is composed from its own group's C and G. -/
theorem composeAll_channel (s : State) (c : Fin 512) : (composeAll s).light.channels.get c =
    s.composeChannel (s.groupValues (s.light.channels.get c).group) (s.light.channels.get c) := by
  simp only [composeAll, State.modLight_light, Table.get_map, Table.get_ofFn]

section
variable (s : State) (cg : Nat × Nat) (x : Channel)

theorem State.composeChannel_lastW_passes (h : s.passes x) :
    (s.composeChannel cg x).lastW = trimmed (s.composeChannel cg x).lastV x.trim := if_pos ((s.passes_iff x).mpr h)

theorem State.composeChannel_lastW_gated (h : ¬s.passes x) : (s.composeChannel cg x).lastW = 0 := if_neg fun hp => h ((s.passes_iff x).mp hp)

theorem State.composeChannel_sodium (h : x.kind = .sodium) : (s.composeChannel cg x).sodium =
    sodiumStep x.warmFrames x.restrikeFrames (if s.supply.rails.lights then (s.composeChannel cg x).lastW else 0) x.sodium := if_pos h

theorem State.composeChannel_sodium_other (h : x.kind ≠ .sodium) : (s.composeChannel cg x).sodium = x.sodium := if_neg h

/-- D comes from W, and for a sodium lamp from what the lamp gives after its update (R47, R48). -/
theorem State.composeChannel_lastD : (s.composeChannel cg x).lastD =
    gammaDuty (s.light.groups.get x.group).rounding (s.light.gammas.get (s.light.groups.get x.group).gamma)
      (if x.kind = .sodium then sodiumLevel (s.light.groups.get x.group).rounding x.warmFrames (s.composeChannel cg x).lastW
        (s.composeChannel cg x).sodium else (s.composeChannel cg x).lastW) := rfl

end

/-! ## The bindings (R30) -/

/-- A section as a lamp sees it in service. -/
theorem State.lampSec_served {x : Fin 48} (h : s.track.config = .operational ∧ (s.track.defs.get x).present = true) :
    s.lampSec x = s.sec x := if_pos h

theorem State.lampSec_absent {x : Fin 48} (h : ¬(s.track.config = .operational ∧ (s.track.defs.get x).present = true)) :
    s.lampSec x = .none := if_neg h

theorem aspectLit_proceed_iff (st : SecState) : aspectLit .proceed st = true ↔ ∃ t, st = .reserved t := by
  cases st <;> simp [aspectLit]

theorem aspectLit_occupied_iff (st : SecState) : aspectLit .occupied st = true ↔ st = .stray ∨ ∃ t, st = .occupied t := by
  cases st <;> simp [aspectLit]

theorem aspectLit_stop_iff (st : SecState) : aspectLit .stop st = true ↔
    st = .none ∨ st = .free ∨ (∃ t, st = .pending t) ∨ ∃ ms, st = .clearing ms := by
  cases st <;> simp [aspectLit]

/-- A SIGNAL lamp is lit in service for its aspect's section states; out of service it sees no state. -/
theorem State.lit_signal_iff (x : Fin 48) {a : Aspect} (hnone : aspectLit a .none = false) : s.lit (.signal x a) = true ↔
    (s.track.config = .operational ∧ (s.track.defs.get x).present = true) ∧ aspectLit a (s.sec x) = true := by
  change aspectLit a (s.lampSec x) = true ↔ _
  by_cases h : s.track.config = .operational ∧ (s.track.defs.get x).present = true
  · rw [State.lampSec_served h]; simp only [h, true_and, and_self]
  · rw [State.lampSec_absent h, hnone]; simp only [h, false_and, Bool.false_eq_true]

theorem State.lit_chase_iff (a : Fin 8) (start width : Nat) : s.lit (.chase a start width) = true ↔
    (s.axes.get a).kind = .rotary ∧ (s.axes.get a).homed = true ∧ ((s.axes.get a).pos - start) % (s.axes.get a).spr < width := by
  simp [State.lit, Axis.inWindow, and_assoc]

theorem State.lit_gate_iff (k : Fin 4) : s.lit (.gate k) = true ↔
    s.track.config = .operational ∧ ∃ d, (s.track.crossings.get k).defn = some d ∧ (s.axes.get d.axis).gateState ≠ .open_ := by
  change s.gateLit k = true ↔ _
  unfold State.gateLit
  cases (s.track.crossings.get k).defn <;> simp

/-! ## The duties (R35, R36, R50) -/

/-- The one segment that maps a position gives its channel. -/
theorem Light.channelAt_mapped {l : Light} {k : Fin 4} {n : Nat} {i : Fin 16} {d : Segment} {c : Fin 512}
    (hd : l.segments.get i = some d) (hm : d.maps k n = true)
    (hu : ∀ j e, l.segments.get j = some e → e.maps k n = true → j = i) (hc : c.1 = d.channel + (n - d.first)) :
    l.channelAt k n = some c := by
  rw [Light.channelAt, findSome?_ascending (indices_ascending 16)]
  refine ⟨i, mem_indices i, ?_, fun j _ hj => ?_⟩
  · simp only [hd, hm, if_true, ← hc, fin?_val]
  · cases he : l.segments.get j with
    | none => simp [he] at hj
    | some e =>
      refine (hu j e he ?_).ge
      by_contra hne
      simp [he, hne] at hj

theorem Light.channelAt_unmapped {l : Light} {k : Fin 4} {n : Nat} (h : ∀ i d, l.segments.get i = some d → d.maps k n = false) :
    l.channelAt k n = none := by
  rw [Light.channelAt, List.findSome?_eq_none_iff]
  intro i _
  cases hd : l.segments.get i with
  | none => rfl
  | some d => simp [h i d hd]

@[simp] theorem sendDuties_pwm (o : Fin 16) : (sendDuties s).outs.pwm.get o = s.pwmDuty o := Table.get_ofFn _ o

@[simp] theorem sendDuties_chain (k : Fin 4) :
    (sendDuties s).outs.chains.get k = (List.range (s.light.chainLen.get k)).map (s.chainWord k) := Table.get_ofFn _ k

theorem sendDuties_word {k : Fin 4} {n : Nat} (h : n < s.light.chainLen.get k) :
    ((sendDuties s).outs.chains.get k)[n]? = some (s.chainWord k n) := by
  simp [h]

/-! ## The bits of a chain (R35) -/

@[simp] theorem wordBits_length (w : BitVec 16) : (wordBits w).length = 16 := by simp [wordBits]

/-- A word's bits are sent from the most significant. -/
theorem wordBits_get (w : BitVec 16) {b : Nat} (h : b < 16) : (wordBits w)[b]? = some (w.getLsbD (15 - b)) := by
  simp [wordBits, h, BitVec.getMsbD]

theorem flatMap_wordBits_length (l : List (BitVec 16)) : (l.flatMap wordBits).length = 16 * l.length := by
  induction l with
  | nil => rfl
  | cons w l ih => simp only [List.flatMap_cons, List.length_append, wordBits_length, ih, List.length_cons]; omega

theorem flatMap_wordBits_get {l : List (BitVec 16)} {n b : Nat} {w : BitVec 16} (hw : l[n]? = some w) (hb : b < 16) :
    (l.flatMap wordBits)[16 * n + b]? = some (w.getLsbD (15 - b)) := by
  induction l generalizing n with
  | nil => simp at hw
  | cons v l ih =>
    rw [List.flatMap_cons]
    cases n with
    | zero =>
      obtain rfl : v = w := by simpa using hw
      rw [List.getElem?_append_left (by simpa using hb), Nat.mul_zero, Nat.zero_add, wordBits_get v hb]
    | succ n =>
      rw [List.getElem?_append_right (by rw [wordBits_length]; omega), wordBits_length,
        show 16 * (n + 1) + b - 16 = 16 * n + b by omega]
      exact ih (by simpa using hw)

/-! ## The LIGHTS rail goes DOWN (R32) -/

theorem Channel.railDown_lit {x : Channel} (hk : x.kind = .sodium) (h : x.sodium = .warm ∨ ∃ k, x.sodium = .warming k) :
    x.railDown = { x with sodium := x.cool } := by
  obtain h | ⟨k, h⟩ := h <;> simp only [Channel.railDown, hk, h]

theorem Channel.railDown_dark {x : Channel} (h : ¬(x.kind = .sodium ∧ (x.sodium = .warm ∨ ∃ k, x.sodium = .warming k))) :
    x.railDown = x := by
  unfold Channel.railDown
  split
  · next k hk hs => exact absurd ⟨hk, .inr ⟨k, hs⟩⟩ h
  · next hk hs => exact absurd ⟨hk, .inl hs⟩ h
  · rfl

end Sys2Proof.Machine
end

section
/-! SUPPORT. What the release of PENDING sections at a WARM reset can do (R68, R72, R74, R77): the properties that its steps keep, and
what it makes of the sections and of the held lists. -/

namespace Sys2Proof.Machine

variable {P : State → Prop} {s u : State}

/-! ## An event, step by step (R167 to R169) -/

/-- A property that neither the Show Link's records nor an offer to the blocks breaks is kept by an event: it offers itself, and
NOTICES_LOST where notices were lost. -/
theorem State.raise_keeps {e : Event} (link : ∀ s f, P s → P (s.modLink f))
    (offer : ∀ s e', (e' = e ∨ ∃ n, e' = .noticesLost n) → P s → P (s.offerBlocks e')) (hs : P s) : P (s.raise e) := by
  have hreport (v : State) (hv : P v) : P (reportLost v) := by
    unfold reportLost
    split
    · exact offer _ _ (.inr ⟨_, rfl⟩) (link _ _ hv)
    · exact hv
  have hannounce : P (s.announce e) := by
    unfold State.announce
    split
    · extract_lets s1
      have h1 : P s1 := by
        unfold s1
        split
        · exact offer _ _ (.inr ⟨_, rfl⟩) hs
        · exact hs
      exact offer _ _ (.inl rfl) (link s1 (fun _ => _) h1)
    · exact offer _ _ (.inl rfl) hs
  obtain ⟨-, h⟩ | ⟨-, h⟩ := State.raise_cases s e
  · rw [h]; exact hannounce
  · rw [h, pick]
    split
    · exact link _ _ hannounce
    · split
      · exact hreport _ (link _ _ hannounce)
      · exact link _ _ hannounce

/-! ## What a crossing's demand can lead to (R77, R79) -/

/-- A demand acted on changes the coupling record, and commands the gate only for a demand of CLOSE or at an open delay of 0. -/
theorem actOnDemand_cases (c : Fin 4) (d : CrossingDef) (k : Coupling) (s : State) : ∃ k' : Coupling, k'.demand = k.demand ∧
    (actOnDemand c d k s = s.setCoupling c (some k') ∨
      ((k.demand = .close ∨ (s.track.crossings.get c).openDelay = 0) ∧
        ∃ w, actOnDemand c d k s = gateCommand d.axis w (s.setCoupling c (some k')))) := by
  unfold actOnDemand
  split
  · next hk =>
    extract_lets k1
    split
    · exact ⟨k1, rfl, .inl rfl⟩
    · refine ⟨_, ?_, .inr ⟨.inl hk, _, rfl⟩⟩
      rfl
  · unfold startOpenDelay
    extract_lets n
    split
    · next hn =>
      unfold openNow
      split
      · refine ⟨_, ?_, .inl rfl⟩
        rfl
      · refine ⟨_, ?_, .inr ⟨.inr hn, _, rfl⟩⟩
        rfl
    · refine ⟨_, ?_, .inl rfl⟩
      rfl

/-- A demand worked out again: nothing, or the demand is another and is recorded and acted on. -/
theorem redemand_cases (c : Fin 4) (s : State) : redemand c s = s ∨ ∃ d k k', (s.track.crossings.get c).defn = some d ∧
    s.track.couplings.get c = some k ∧ demandOf s d.members ≠ k.demand ∧ k'.demand = demandOf s d.members ∧
    (redemand c s = s.setCoupling c (some k') ∨
      ((demandOf s d.members = .close ∨ (s.track.crossings.get c).openDelay = 0) ∧
        ∃ w, redemand c s = gateCommand d.axis w (s.setCoupling c (some k')))) := by
  unfold redemand
  split
  · next d k hd hk =>
    extract_lets w
    split
    · exact .inl rfl
    · next hw =>
      refine .inr ⟨d, k, ?_⟩
      split
      · exact ⟨{ k with demand := w }, hd, hk, hw, rfl, .inl rfl⟩
      · obtain ⟨k', hk', h⟩ := actOnDemand_cases c d { k with demand := w } s
        exact ⟨k', hd, hk, hw, hk', h⟩
  · exact .inl rfl

/-! ## Properties that a changed gate state, a gate command and a release keep -/

/-- A property that the report of a changed gate state keeps (R118). -/
structure SyncStable (P : State → Prop) : Prop where
  report : ∀ {s} a, P s → P (s.modAxis a fun x => { x with reported := x.gateState })
  gate : ∀ {s} c st, P s → P (s.raise (.gateState c st))
  later : ∀ {s} t, P s → P (s.later t)

/-- A property that a crossing's command and coupling record keep too (R77, R117). -/
structure GateStable (P : State → Prop) : Prop extends SyncStable P where
  coupling : ∀ {s} c k, P s → P (s.setCoupling c k)
  command : ∀ {s : State} a w, P s → P (s.modAxis a (Axis.command s.supply.rails.motion w))

/-- A property that the steps of a release keep (R72): a section's new state makes no demand that its old one did not make. -/
structure ReleaseStable (P : State → Prop) : Prop where
  run : ∀ {s : State} x st, (st.demandsClose = true → (s.sec x).demandsClose = true) → P s → P (s.modRun x fun r => { r with state := st })
  redemand : ∀ {s} c, P s → P (Machine.redemand c s)
  held : ∀ {s} t p, P s → P (s.modTrain t fun y => { y with held := y.held.filter p })
  aim : ∀ {s} t d, P s → P (s.modTrain t (Train.aim d))
  queue : ∀ {s} q, P s → P (s.setQueue q)
  unserve : ∀ {s} t, P s → P (Machine.unserve t s)
  later : ∀ {s} t, P s → P (s.later t)

theorem SyncStable.syncGate (h : SyncStable P) (a : Fin 8) (hs : P s) : P (Machine.syncGate a s) := by
  unfold Machine.syncGate
  extract_lets x s1
  split
  · exact hs
  · split
    · exact keeps_forEach (fun c _ hs => h.later _ (h.gate c _ hs)) _ (h.report a hs)
    · exact h.report a hs

/-- Every axis is changed and each changed gate state is reported. -/
theorem SyncStable.stopAxes (h : SyncStable P) {f : Axis → Axis} (hs : P (s.modAxes f)) : P (Machine.stopAxes f [] s) :=
  keeps_forEach (fun a _ hs => h.syncGate a hs) _ hs

theorem GateStable.gateCommand (h : GateStable P) (a : Fin 8) (w : GateWish) (hs : P s) : P (Machine.gateCommand a w s) :=
  h.syncGate a (h.command a w hs)

theorem GateStable.redemand (h : GateStable P) (c : Fin 4) (hs : P s) : P (Machine.redemand c s) := by
  obtain e | ⟨d, k, k', -, -, -, -, e | ⟨-, w, e⟩⟩ := redemand_cases c s
  · rw [e]; exact hs
  · rw [e]; exact h.coupling c _ hs
  · rw [e]; exact h.gateCommand _ w (h.coupling c _ hs)

theorem GateStable.redemandOf (h : GateStable P) (x : Fin 48) (hs : P s) : P (Machine.redemandOf x s) := by
  unfold Machine.redemandOf
  split
  · exact h.redemand _ hs
  · exact hs

section
variable (h : ReleaseStable P)
include h

theorem ReleaseStable.setSec {x : Fin 48} {st : SecState} (hst : st.demandsClose = true → (s.sec x).demandsClose = true) (hs : P s) :
    P (Machine.setSec x st s) := by
  unfold Machine.setSec Machine.redemandOf
  split
  · exact h.redemand _ (h.run x st hst hs)
  · exact h.run x st hst hs

theorem ReleaseStable.dropGrantThrow (x : Fin 48) (hs : P s) : P (Machine.dropGrantThrow x s) := by
  unfold Machine.dropGrantThrow dropThrows
  extract_lets s1
  split
  · exact h.later _ (h.queue _ hs)
  · exact h.queue _ hs

theorem ReleaseStable.clearSec (x : Fin 48) (hs : P s) : P (Machine.clearSec x s) := by
  have h1 : P (Machine.setSec x (.clearing (s.track.defs.get x).clearance) s) := h.setSec (fun hd => by cases hd) hs
  unfold Machine.clearSec
  extract_lets n s1
  split
  · exact h.later _ h1
  · exact h1

theorem ReleaseStable.releaseSec (t : Fin 8) (x : Fin 48) (hs : P s) : P (Machine.releaseSec t x s) :=
  h.aim t _ (h.dropGrantThrow x (h.clearSec x (h.later _ (h.held t _ hs))))

theorem ReleaseStable.keepPrev {t : Fin 8} {x : Fin 48} (hx : s.sec x = .pending t) (hs : P s) : P (Machine.keepPrev t x s) :=
  h.aim t _ (h.dropGrantThrow x (h.setSec (fun _ => by rw [hx]; rfl) hs))

end

/-! ## The two shapes of a train's release (R72) -/

/-- A section is the one a WARM reset leaves its train: the rearmost of a train that holds none but PENDING sections. -/
def State.keepsLast (s : State) (t : Fin 8) (x : Fin 48) : Prop :=
  (∀ y ∈ (s.heldOf t).map Prod.fst, s.sec y = .pending t) ∧ ((s.heldOf t).map Prod.fst).head? = some x

theorem mem_pendingOf {t : Fin 8} {x : Fin 48} : x ∈ s.pendingOf t ↔ x ∈ (s.heldOf t).map Prod.fst ∧ s.sec x = .pending t := by
  simp only [State.pendingOf, List.mem_filter, beq_iff_eq]

/-- The PENDING sections are as many as the held ones only when every held section is PENDING. -/
theorem pendingOf_all {t : Fin 8} (h : (s.pendingOf t).length = (s.heldOf t).length) : s.pendingOf t = (s.heldOf t).map Prod.fst :=
  List.filter_eq_self.mpr (List.length_filter_eq_length_iff.mp (h.trans (List.length_map _).symm))

/-- A release of a train's PENDING sections: of all of them when it holds another section, of all but the rearmost when it holds none. -/
theorem releasePending_cases (t : Fin 8) (s : State) :
    (s.heldOf t = [] ∧ releasePending t s = s) ∨
    (∃ prev rest, (s.heldOf t).map Prod.fst = prev :: rest ∧ (∀ y ∈ prev :: rest, s.sec y = .pending t) ∧
      releasePending t s = unserve t (forEach rest (releaseSec t) (keepPrev t prev s))) ∨
    ((∃ y ∈ (s.heldOf t).map Prod.fst, s.sec y ≠ .pending t) ∧
      releasePending t s = unserve t (forEach (s.pendingOf t) (releaseSec t) s)) := by
  unfold releasePending
  generalize hl : s.pendingOf t = l
  dsimp only
  split
  · next hlen =>
    have hall : l = (s.heldOf t).map Prod.fst := hl ▸ pendingOf_all (hl ▸ hlen)
    cases l with
    | nil => exact .inl ⟨List.map_eq_nil_iff.mp hall.symm, rfl⟩
    | cons prev rest => exact .inr (.inl ⟨prev, rest, hall.symm, fun y hy => (mem_pendingOf.mp (hl ▸ hy)).2, rfl⟩)
  · next hlen =>
    refine .inr (.inr ⟨?_, rfl⟩)
    by_contra hno
    push Not at hno
    have hall : s.pendingOf t = (s.heldOf t).map Prod.fst := List.filter_eq_self.mpr fun y hy => beq_iff_eq.mpr (hno y hy)
    exact hlen (by rw [← hl, hall, List.length_map])

theorem ReleaseStable.releasePending (h : ReleaseStable P) (t : Fin 8) (hs : P s) : P (Machine.releasePending t s) := by
  have hloop (l : List (Fin 48)) {v : State} (hv : P v) : P (forEach l (Machine.releaseSec t) v) :=
    keeps_forEach (fun x _ hs => h.releaseSec t x hs) l hv
  obtain ⟨-, e⟩ | ⟨prev, rest, -, hp, e⟩ | ⟨-, e⟩ := releasePending_cases t s
  · rw [e]; exact hs
  · rw [e]; exact h.unserve t (hloop rest (h.keepPrev (hp prev List.mem_cons_self) hs))
  · rw [e]; exact h.unserve t (hloop _ hs)

/-! ## Sections and held lists, step by step -/

/-- A crossing's work touches no section's running record and no train. -/
theorem gateStable_runs (v : State) : GateStable fun u => u.track.runs = v.track.runs ∧ u.trains = v.trains ∧ u.track.defs = v.track.defs where
  report _ h := h
  gate c st h := by simpa using h
  later _ h := h
  coupling _ _ h := h
  command _ _ h := h

theorem setSec_runs (x : Fin 48) (st : SecState) (s : State) :
    (setSec x st s).track.runs = s.track.runs.modify x (fun r => { r with state := st }) ∧ (setSec x st s).trains = s.trains ∧
      (setSec x st s).track.defs = s.track.defs :=
  (gateStable_runs (s.modRun x fun r => { r with state := st })).redemandOf x ⟨rfl, rfl, rfl⟩

/-- A section's state and each train's held list after a section took a state. -/
theorem setSec_sec (x : Fin 48) (st : SecState) (s : State) (y : Fin 48) : (setSec x st s).sec y = if y = x then st else s.sec y := by
  rw [State.sec, (setSec_runs x st s).1, Table.modify, Table.get_set]
  split
  · rfl
  · rfl

@[simp] theorem setSec_heldOf (x : Fin 48) (st : SecState) (s : State) (k : Fin 8) : (setSec x st s).heldOf k = s.heldOf k := by
  rw [State.heldOf, (setSec_runs x st s).2.1]
  rfl

@[simp] theorem setSec_defs (x : Fin 48) (st : SecState) (s : State) : (setSec x st s).track.defs = s.track.defs := (setSec_runs x st s).2.2

theorem Train.aim_held (d : RampDir) (x : Train) : (x.aim d).held = x.held := by
  unfold Train.aim
  split <;> rfl

/-- A train's needed step worked out again changes no held list. -/
@[simp] theorem resync_heldOf (t : Fin 8) (s : State) (k : Fin 8) : (resync t s).heldOf k = s.heldOf k := by
  rw [State.heldOf, resync, State.modTrain_trains, Table.modify, Table.get_set]
  split
  · next h => rw [Train.aim_held, h]; rfl
  · rfl

theorem leaveHeld_heldOf (t : Fin 8) (x : Fin 48) (s : State) (k : Fin 8) :
    (leaveHeld t x s).heldOf k = if k = t then (s.heldOf t).filter (fun e => e.1 != x) else s.heldOf k := by
  rw [State.heldOf, leaveHeld, State.later_trains, State.modTrain_trains, Table.modify, Table.get_set]
  split <;> rfl

/-- Throws that leave the queue change no section, no train and no definition. -/
theorem dropGrantThrow_track (x : Fin 48) (s : State) :
    (dropGrantThrow x s).track.runs = s.track.runs ∧ (dropGrantThrow x s).trains = s.trains ∧ (dropGrantThrow x s).track.defs = s.track.defs := by
  unfold dropGrantThrow dropThrows
  extract_lets s1
  split <;> exact ⟨rfl, rfl, rfl⟩

@[simp] theorem dropGrantThrow_sec (x : Fin 48) (s : State) (y : Fin 48) : (dropGrantThrow x s).sec y = s.sec y := by
  rw [State.sec, (dropGrantThrow_track x s).1]
  rfl

@[simp] theorem dropGrantThrow_heldOf (x : Fin 48) (s : State) (k : Fin 8) : (dropGrantThrow x s).heldOf k = s.heldOf k := by
  rw [State.heldOf, (dropGrantThrow_track x s).2.1]
  rfl

@[simp] theorem dropGrantThrow_defs (x : Fin 48) (s : State) : (dropGrantThrow x s).track.defs = s.track.defs := (dropGrantThrow_track x s).2.2

theorem clearSec_sec (x : Fin 48) (s : State) (y : Fin 48) :
    (clearSec x s).sec y = if y = x then .clearing (s.track.defs.get x).clearance else s.sec y := by
  unfold clearSec
  extract_lets n s1
  split <;> exact setSec_sec x _ s y

@[simp] theorem clearSec_heldOf (x : Fin 48) (s : State) (k : Fin 8) : (clearSec x s).heldOf k = s.heldOf k := by
  unfold clearSec
  extract_lets n s1
  split <;> exact setSec_heldOf x _ s k

@[simp] theorem clearSec_defs (x : Fin 48) (s : State) : (clearSec x s).track.defs = s.track.defs := by
  unfold clearSec
  extract_lets n s1
  split <;> exact setSec_defs x _ s

/-- A released section is CLEARING with its clearance time. -/
theorem releaseSec_sec (t : Fin 8) (x : Fin 48) (s : State) (y : Fin 48) :
    (releaseSec t x s).sec y = if y = x then .clearing (s.track.defs.get x).clearance else s.sec y := by
  change (dropGrantThrow x (clearSec x (leaveHeld t x s))).sec y = _
  rw [dropGrantThrow_sec, clearSec_sec]
  rfl

/-- A released section leaves its train's held list, and no other train's. -/
theorem releaseSec_heldOf (t : Fin 8) (x : Fin 48) (s : State) (k : Fin 8) :
    (releaseSec t x s).heldOf k = if k = t then (s.heldOf t).filter (fun e => e.1 != x) else s.heldOf k := by
  rw [releaseSec, resync_heldOf, dropGrantThrow_heldOf, clearSec_heldOf, leaveHeld_heldOf]

theorem releaseSec_defs (t : Fin 8) (x : Fin 48) (s : State) : (releaseSec t x s).track.defs = s.track.defs := by
  change (dropGrantThrow x (clearSec x (leaveHeld t x s))).track.defs = _
  rw [dropGrantThrow_defs, clearSec_defs]
  rfl

theorem keepPrev_sec (t : Fin 8) (x : Fin 48) (s : State) (y : Fin 48) : (keepPrev t x s).sec y = if y = x then .reserved t else s.sec y := by
  change (dropGrantThrow x (setSec x (.reserved t) s)).sec y = _
  rw [dropGrantThrow_sec, setSec_sec]

theorem keepPrev_heldOf (t : Fin 8) (x : Fin 48) (s : State) (k : Fin 8) : (keepPrev t x s).heldOf k = s.heldOf k := by
  rw [keepPrev, resync_heldOf, dropGrantThrow_heldOf, setSec_heldOf]

theorem keepPrev_defs (t : Fin 8) (x : Fin 48) (s : State) : (keepPrev t x s).track.defs = s.track.defs := by
  change (dropGrantThrow x (setSec x (.reserved t) s)).track.defs = _
  rw [dropGrantThrow_defs, setSec_defs]

/-- A pulse that serves a grant no more: the discharge unit alone changes. -/
theorem unserve_cases (t : Fin 8) (s : State) : unserve t s = s ∨
    ∃ p w ms o, s.track.unit_ = .pulsing p w ms o ∧ unserve t s = s.setUnit (.pulsing p w ms none) := by
  unfold unserve
  split
  · next p w ms o hu =>
    split
    · exact .inr ⟨p, w, ms, _, hu, rfl⟩
    · exact .inl rfl
  · exact .inl rfl

@[simp] theorem unserve_sec (t : Fin 8) (s : State) (y : Fin 48) : (unserve t s).sec y = s.sec y := by
  obtain h | ⟨p, w, ms, o, -, h⟩ := unserve_cases t s
  · rw [h]
  · rw [h]; rfl

@[simp] theorem unserve_heldOf (t : Fin 8) (s : State) (k : Fin 8) : (unserve t s).heldOf k = s.heldOf k := by
  obtain h | ⟨p, w, ms, o, -, h⟩ := unserve_cases t s
  · rw [h]
  · rw [h]; rfl

/-! ## The release of several sections -/

theorem releaseAll_sec (t : Fin 8) (l : List (Fin 48)) (s : State) (y : Fin 48) :
    (forEach l (releaseSec t) s).sec y = if y ∈ l then .clearing (s.track.defs.get y).clearance else s.sec y := by
  induction l generalizing s with
  | nil => rfl
  | cons x l ih =>
    refine (ih (releaseSec t x s)).trans ?_
    rw [releaseSec_sec, releaseSec_defs]
    by_cases hl : y ∈ l
    · rw [if_pos hl, if_pos (List.mem_cons_of_mem x hl)]
    · rw [if_neg hl]
      by_cases hx : y = x
      · rw [if_pos hx, if_pos (hx ▸ List.mem_cons_self), hx]
      · rw [if_neg hx, if_neg (by simp [hx, hl])]

theorem releaseAll_heldOf (t : Fin 8) (l : List (Fin 48)) (s : State) (k : Fin 8) :
    (forEach l (releaseSec t) s).heldOf k = if k = t then (s.heldOf t).filter (fun e => decide (e.1 ∉ l)) else s.heldOf k := by
  induction l generalizing s with
  | nil => by_cases h : k = t <;> simp [forEach, h]
  | cons x l ih =>
    refine (ih (releaseSec t x s)).trans ?_
    rw [releaseSec_heldOf, releaseSec_heldOf, if_pos rfl]
    split
    · rw [List.filter_filter]
      exact List.filter_congr fun e _ => by rw [Bool.eq_iff_iff]; simp [and_comm]
    · rfl

/-! ## The release of a train's PENDING sections (R72) -/

/-- Only a section that is PENDING for the train changes, and none becomes PENDING. -/
theorem releasePending_sec (t : Fin 8) (s : State) (y : Fin 48) :
    (releasePending t s).sec y = s.sec y ∨ s.sec y = .pending t ∧ ∀ j, (releasePending t s).sec y ≠ .pending j := by
  obtain ⟨-, e⟩ | ⟨prev, rest, -, hp, e⟩ | ⟨-, e⟩ := releasePending_cases t s
  · exact .inl (by rw [e])
  · rw [e, unserve_sec, releaseAll_sec, keepPrev_sec]
    by_cases hy : y ∈ prev :: rest
    · refine .inr ⟨hp y hy, fun j => ?_⟩
      split
      · simp
      · next hr => rw [if_pos ((List.mem_cons.mp hy).resolve_right hr)]; simp
    · obtain ⟨hne, hr⟩ := not_or.mp (mt List.mem_cons.mpr hy)
      rw [if_neg hr, if_neg hne]
      exact .inl rfl
  · rw [e, unserve_sec, releaseAll_sec]
    by_cases hy : y ∈ s.pendingOf t
    · rw [if_pos hy]
      exact .inr ⟨(mem_pendingOf.mp hy).2, fun j => by simp⟩
    · exact .inl (if_neg hy)

theorem releasePending_heldOf_other {t k : Fin 8} (hk : k ≠ t) (s : State) : (releasePending t s).heldOf k = s.heldOf k := by
  obtain ⟨-, e⟩ | ⟨prev, rest, -, -, e⟩ | ⟨-, e⟩ := releasePending_cases t s
  · rw [e]
  · rw [e, unserve_heldOf, releaseAll_heldOf, if_neg hk, keepPrev_heldOf]
  · rw [e, unserve_heldOf, releaseAll_heldOf, if_neg hk]

/-- Every PENDING section of a train is released to CLEARING, but for the one it keeps RESERVED. -/
theorem releasePending_own_sec {t : Fin 8} (hn : ((s.heldOf t).map Prod.fst).Nodup) {x : Fin 48} (hx : x ∈ (s.heldOf t).map Prod.fst)
    (hp : s.sec x = .pending t) : (s.keepsLast t x → (releasePending t s).sec x = .reserved t) ∧
      (¬s.keepsLast t x → (releasePending t s).sec x = .clearing (s.track.defs.get x).clearance) := by
  obtain ⟨hnil, -⟩ | ⟨prev, rest, hl, hall, e⟩ | ⟨⟨z, hz, hzp⟩, e⟩ := releasePending_cases t s
  · simp [hnil] at hx
  · rw [hl] at hn hx
    have hkept : s.keepsLast t x ↔ x = prev := by
      simp only [State.keepsLast, hl, List.head?_cons, Option.some_inj]
      exact ⟨fun h => h.2.symm, fun h => ⟨hall, h.symm⟩⟩
    have hprev : prev ∉ rest := (List.nodup_cons.mp hn).1
    rw [hkept, e, unserve_sec, releaseAll_sec, keepPrev_sec, keepPrev_defs]
    refine ⟨fun h => ?_, fun h => ?_⟩
    · subst h
      rw [if_neg hprev, if_pos rfl]
    · rw [if_pos ((List.mem_cons.mp hx).resolve_left h)]
  · refine ⟨fun h => absurd (h.1 z hz) hzp, fun _ => ?_⟩
    rw [e, unserve_sec, releaseAll_sec, if_pos (mem_pendingOf.mpr ⟨hx, hp⟩)]

/-- A train's held list keeps its other sections and the one that stays RESERVED. -/
theorem releasePending_own_held {t : Fin 8} (hn : ((s.heldOf t).map Prod.fst).Nodup) :
    (∀ e, e ∈ (releasePending t s).heldOf t ↔ e ∈ s.heldOf t ∧ (s.sec e.1 = .pending t → s.keepsLast t e.1)) ∧
      ((releasePending t s).heldOf t).Sublist (s.heldOf t) := by
  obtain ⟨hnil, e⟩ | ⟨prev, rest, hl, hall, e⟩ | ⟨⟨z, hz, hzp⟩, e⟩ := releasePending_cases t s
  · rw [e, hnil]
    simp
  · have hprev : prev ∉ rest := (List.nodup_cons.mp (hl ▸ hn)).1
    rw [e, unserve_heldOf, releaseAll_heldOf, if_pos rfl, keepPrev_heldOf]
    refine ⟨fun a => ?_, List.filter_sublist⟩
    rw [List.mem_filter, decide_eq_true_eq]
    refine and_congr_right fun ha => ?_
    have hmem : a.1 ∈ prev :: rest := hl ▸ List.mem_map_of_mem ha
    simp only [State.keepsLast, hl, List.head?_cons, Option.some_inj, hall a.1 hmem, true_imp_iff]
    exact ⟨fun h => ⟨hall, ((List.mem_cons.mp hmem).resolve_right h).symm⟩, fun h => h.2 ▸ hprev⟩
  · rw [e, unserve_heldOf, releaseAll_heldOf, if_pos rfl]
    refine ⟨fun a => ?_, List.filter_sublist⟩
    rw [List.mem_filter, decide_eq_true_eq, mem_pendingOf]
    refine and_congr_right fun ha => ?_
    have hno : ¬s.keepsLast t a.1 := fun h => hzp (h.1 z hz)
    simp only [List.mem_map_of_mem ha, true_and, hno, imp_false]

end Sys2Proof.Machine
end

section
/-! SUPPORT. What a WARM reset leaves of the records (R68, R72, R74, R85, R117, R121, R170): what no block changes, the sections and
held lists of all trains, and the axes with and without a gate command. -/

namespace Sys2Proof.Machine

variable {s u : State}

/-! ## What a gate command and a release leave alone -/

theorem markSeen_nil {p : Player} (e : Event) (h : p.repeats = []) : markSeen e p = p := by
  simp only [markSeen, h, List.map_nil]
  rw [← h]

/-- What an event changes at the Cue Engine and the Trigger Unit, when the events are GATE_STATE and NOTICES_LOST: a player without repeat
frames is left as it is, and the events join those that wait. -/
structure Heard (c : Cue) (es : List Event) (c' : Cue) (es' : List Event) : Prop where
  lists : c'.lists = c.lists
  holders : c'.holders = c.holders
  players : ∀ p, (c.players.get p).repeats = [] → c'.players.get p = c.players.get p
  events : ∀ e ∈ es', e ∈ es ∨ (∃ c st, e = .gateState c st) ∨ ∃ n, e = .noticesLost n

section
variable {c : Cue} {es : List Event}

theorem Heard.offer (h : Heard c es u.cue u.work.events) {e : Event} (he : (∃ c st, e = .gateState c st) ∨ ∃ n, e = .noticesLost n) :
    Heard c es (u.offerBlocks e).cue (u.offerBlocks e).work.events where
  lists := h.lists
  holders := h.holders
  players p hp := by
    have hget : (u.offerBlocks e).cue.players.get p = markSeen e (u.cue.players.get p) := Table.get_map _ _ p
    rw [hget, h.players p hp, markSeen_nil e hp]
  events e' he' := by
    obtain he' | he' := List.mem_append.mp he'
    · exact h.events e' he'
    · obtain rfl := List.mem_singleton.mp he'
      exact .inr he

theorem Heard.gate (h : Heard c es u.cue u.work.events) (x : Fin 4) (st : GateState) :
    Heard c es (u.raise (.gateState x st)).cue (u.raise (.gateState x st)).work.events :=
  State.raise_keeps (P := fun u => Heard c es u.cue u.work.events) (fun _ _ h => h)
    (fun _ _ he h => h.offer (he.imp_left fun he => ⟨x, st, he⟩)) h

end

/-- What no block's WARM reset changes after the Cue Engine's, the Light Engine's and the Train Controller's own records are reset: it
may end the service of a pulse, and of a train it changes the held list and the ramp's bookkeeping alone. -/
structure WarmKept (s u : State) : Prop where
  clock : u.clock = s.clock
  supply : u.supply = s.supply
  pins : u.pins = s.pins
  light : u.light = s.light
  trig : u.trig = s.trig
  mask : u.link.mask = s.link.mask
  slots : u.link.slots = s.link.slots
  replies : u.link.replies = s.link.replies
  rx : u.link.rx = s.link.rx
  config : u.track.config = s.track.config
  defs : u.track.defs = s.track.defs
  points : u.track.points = s.track.points
  crossings : u.track.crossings = s.track.crossings
  detectors : u.track.detectors = s.track.detectors
  unit : u.track.unit_ = s.track.unit_ ∨ ∃ p w ms o, s.track.unit_ = .pulsing p w ms o ∧ u.track.unit_ = .pulsing p w ms none
  trains : ∀ k, ∃ held timer dir due, u.trains.get k = { s.trains.get k with held := held, timer := timer, dir := dir, stepDue := due }
  heard : Heard s.cue s.work.events u.cue u.work.events

theorem WarmKept.refl (s : State) : WarmKept s s where
  clock := rfl
  supply := rfl
  pins := rfl
  light := rfl
  trig := rfl
  mask := rfl
  slots := rfl
  replies := rfl
  rx := rfl
  config := rfl
  defs := rfl
  points := rfl
  crossings := rfl
  detectors := rfl
  unit := .inl rfl
  trains _ := ⟨_, _, _, _, rfl⟩
  heard := ⟨rfl, rfl, fun _ _ => rfl, fun _ he => .inl he⟩

theorem WarmKept.gate (h : WarmKept s u) (c : Fin 4) (st : GateState) : WarmKept s (u.raise (.gateState c st)) where
  clock := (State.raise_clock u _).trans h.clock
  supply := (State.raise_supply u _).trans h.supply
  pins := (State.raise_pins u _).trans h.pins
  light := (State.raise_light u _).trans h.light
  trig := (State.raise_trig u _).trans h.trig
  mask := (State.raise_link_mask u _).trans h.mask
  slots := (State.raise_link_slots u _).trans h.slots
  replies := (State.raise_link_replies u _).trans h.replies
  rx := (State.raise_link_rx u _).trans h.rx
  config := by rw [State.raise_track]; exact h.config
  defs := by rw [State.raise_track]; exact h.defs
  points := by rw [State.raise_track]; exact h.points
  crossings := by rw [State.raise_track]; exact h.crossings
  detectors := by rw [State.raise_track]; exact h.detectors
  unit := by rw [State.raise_track]; exact h.unit
  trains := by rw [State.raise_trains]; exact h.trains
  heard := h.heard.gate c st

theorem WarmKept.train (h : WarmKept s u) (t : Fin 8) {f : Train → Train}
    (hf : ∀ x, ∃ held timer dir due, f x = { x with held := held, timer := timer, dir := dir, stepDue := due }) :
    WarmKept s (u.modTrain t f) :=
  { h with
    trains := fun k => by
      rw [State.modTrain_trains, Table.modify, Table.get_set]
      split
      · next hk =>
        subst hk
        obtain ⟨held, timer, dir, due, e⟩ := h.trains k
        obtain ⟨held', timer', dir', due', e'⟩ := hf (u.trains.get k)
        exact ⟨held', timer', dir', due', by rw [e', e]⟩
      · exact h.trains k }

theorem WarmKept.unserve (h : WarmKept s u) (t : Fin 8) : WarmKept s (Machine.unserve t u) := by
  obtain e | ⟨p, w, ms, o, hu, e⟩ := unserve_cases t u
  · rw [e]; exact h
  · rw [e]
    have hs : ∃ o', s.track.unit_ = .pulsing p w ms o' := by
      obtain hsame | ⟨p', w', ms', o', hs, hu'⟩ := h.unit
      · exact ⟨o, hsame.symm.trans hu⟩
      · obtain ⟨rfl, rfl, rfl, -⟩ := ThrowUnit.pulsing.inj (hu.symm.trans hu')
        exact ⟨o', hs⟩
    obtain ⟨o', hs⟩ := hs
    exact { h with unit := .inr ⟨p, w, ms, o', hs, rfl⟩ }

theorem gateStable_warmKept (s : State) : GateStable (WarmKept s) where
  report _ h := { h with }
  gate c st h := h.gate c st
  later _ h := { h with }
  coupling _ _ h := { h with }
  command _ _ h := { h with }

theorem releaseStable_warmKept (s : State) : ReleaseStable (WarmKept s) where
  run _ _ _ h := { h with }
  redemand c h := (gateStable_warmKept s).redemand c h
  held t _ h := h.train t fun _ => ⟨_, _, _, _, rfl⟩
  aim t d h := h.train t fun x => by
    unfold Train.aim
    split
    · exact ⟨_, _, _, _, rfl⟩
    · exact ⟨_, _, _, _, rfl⟩
  queue _ h := { h with }
  unserve t h := h.unserve t
  later _ h := (gateStable_warmKept s).later _ h

/-! ## The release of every train's PENDING sections (R68) -/

theorem forEach_append {α : Type} (l₁ l₂ : List α) (f : α → State → State) (s : State) :
    forEach (l₁ ++ l₂) f s = forEach l₂ f (forEach l₁ f s) := List.foldl_append

/-- What the releases of other trains leave of a train's held list and of its PENDING sections. -/
structure ReleasedApart (k : Fin 8) (s u : State) : Prop where
  held : u.heldOf k = s.heldOf k
  sec : ∀ y, u.sec y = s.sec y ∨ (∃ j, j ≠ k ∧ s.sec y = .pending j) ∧ ∀ j, u.sec y ≠ .pending j
  defs : u.track.defs = s.track.defs

theorem ReleasedApart.trans {k : Fin 8} {v : State} (h : ReleasedApart k s u) (h' : ReleasedApart k u v) : ReleasedApart k s v where
  held := h'.held.trans h.held
  sec y := by
    obtain e | ⟨hj, hn⟩ := h.sec y
    · exact e ▸ h'.sec y
    · obtain e' | ⟨⟨j, -, hj'⟩, -⟩ := h'.sec y
      · exact .inr ⟨hj, e' ▸ hn⟩
      · exact absurd hj' (hn j)
  defs := h'.defs.trans h.defs

/-- A section is PENDING for the train before the other trains' releases exactly when it is after them. -/
theorem ReleasedApart.pending_iff {k : Fin 8} (h : ReleasedApart k s u) (y : Fin 48) : u.sec y = .pending k ↔ s.sec y = .pending k := by
  obtain e | ⟨⟨j, hj, hs⟩, hn⟩ := h.sec y
  · rw [e]
  · exact ⟨fun hu => absurd hu (hn k), fun hk => absurd (SecState.pending.inj (hs.symm.trans hk)) hj⟩

/-- A section that is not PENDING is left as it is. -/
theorem ReleasedApart.sec_eq {k : Fin 8} (h : ReleasedApart k s u) {y : Fin 48} (hy : ∀ j, s.sec y ≠ .pending j) : u.sec y = s.sec y :=
  (h.sec y).resolve_right fun ⟨⟨j, _, hj⟩, _⟩ => hy j hj

theorem ReleasedApart.keepsLast_iff {k : Fin 8} (h : ReleasedApart k s u) (x : Fin 48) : u.keepsLast k x ↔ s.keepsLast k x := by
  simp only [State.keepsLast, h.held, h.pending_iff]

theorem releaseTrains_apart {k : Fin 8} {l : List (Fin 8)} (hk : k ∉ l) (s : State) : ReleasedApart k s (forEach l releasePending s) := by
  induction l generalizing s with
  | nil => exact ⟨rfl, fun _ => .inl rfl, rfl⟩
  | cons t l ih =>
    obtain ⟨hkt, hkl⟩ := not_or.mp (mt List.mem_cons.mpr hk)
    have ht : ReleasedApart k s (releasePending t s) :=
      ⟨releasePending_heldOf_other hkt s,
        fun y => (releasePending_sec t s y).imp_right fun ⟨hy, hn⟩ => ⟨⟨t, Ne.symm hkt, hy⟩, hn⟩,
        ((releaseStable_warmKept s).releasePending t (.refl s)).defs⟩
    exact ht.trans (ih hkl (releasePending t s))

/-- Every train's turn comes once: before it and after it only other trains' sections are released. -/
theorem releaseTrains_turn (k : Fin 8) (s : State) : ∃ u, ReleasedApart k s u ∧
    ReleasedApart k (releasePending k u) (forEach (indices 8) releasePending s) := by
  obtain ⟨before, after, hl⟩ := List.append_of_mem (mem_indices k)
  have hn : (before ++ k :: after).Nodup := hl ▸ List.nodup_finRange 8
  obtain ⟨hk, -⟩ := List.nodup_cons.mp (List.nodup_middle.mp hn)
  obtain ⟨hb, ha⟩ := not_or.mp (mt List.mem_append.mpr hk)
  rw [hl, forEach_append]
  exact ⟨_, releaseTrains_apart hb s, releaseTrains_apart ha _⟩

/-- A section that is not PENDING keeps its state. -/
theorem releaseTrains_sec (s : State) {x : Fin 48} (hx : ∀ k, s.sec x ≠ .pending k) : (forEach (indices 8) releasePending s).sec x = s.sec x := by
  refine keeps_forEach (P := fun u => u.sec x = s.sec x) (fun t u hu => ?_) _ rfl
  exact ((releasePending_sec t u x).resolve_right fun ⟨hp, _⟩ => hx t (hu ▸ hp)).trans hu

/-- A train's PENDING sections after all releases. -/
theorem releaseTrains_own_sec {k : Fin 8} (hn : ((s.heldOf k).map Prod.fst).Nodup) {x : Fin 48} (hx : x ∈ (s.heldOf k).map Prod.fst)
    (hp : s.sec x = .pending k) : (s.keepsLast k x → (forEach (indices 8) releasePending s).sec x = .reserved k) ∧
      (¬s.keepsLast k x → (forEach (indices 8) releasePending s).sec x = .clearing (s.track.defs.get x).clearance) := by
  obtain ⟨u, hu, hv⟩ := releaseTrains_turn k s
  obtain ⟨hkept, hreleased⟩ := releasePending_own_sec (hu.held ▸ hn) (hu.held ▸ hx) ((hu.pending_iff x).mpr hp)
  rw [hu.keepsLast_iff] at hkept hreleased
  rw [hu.defs] at hreleased
  exact ⟨fun h => (hv.sec_eq (by simp [hkept h])).trans (hkept h), fun h => (hv.sec_eq (by simp [hreleased h])).trans (hreleased h)⟩

/-- A train's held list after all releases. -/
theorem releaseTrains_own_held {k : Fin 8} (hn : ((s.heldOf k).map Prod.fst).Nodup) :
    (∀ e, e ∈ (forEach (indices 8) releasePending s).heldOf k ↔ e ∈ s.heldOf k ∧ (s.sec e.1 = .pending k → s.keepsLast k e.1)) ∧
      ((forEach (indices 8) releasePending s).heldOf k).Sublist (s.heldOf k) := by
  obtain ⟨u, hu, hv⟩ := releaseTrains_turn k s
  obtain ⟨hmem, hsub⟩ := releasePending_own_held (hu.held ▸ hn)
  rw [hv.held]
  refine ⟨fun e => ?_, hu.held ▸ hsub⟩
  rw [hmem, hu.held, hu.pending_iff, hu.keepsLast_iff]

/-! ## What a crossing's command leaves of an axis (R117) -/

/-- A crossing's commands leave an axis's position, home and travel, keep a HELD axis HELD and one in FAULT in FAULT, and bring none
under way to rest. -/
structure Axis.Commanded (x y : Axis) : Prop where
  pos : y.pos = x.pos
  homed : y.homed = x.homed
  travel : y.travel = x.travel
  armed : y.armed = x.armed
  held : x.state = .held → y.state = .held ∧ y.fault = x.fault
  fault : x.state = .fault → y.state = .fault
  underWay : x.underWay = true → y.underWay = true

theorem Axis.Commanded.refl (x : Axis) : x.Commanded x := ⟨rfl, rfl, rfl, rfl, fun h => ⟨h, rfl⟩, id, id⟩

theorem Axis.Commanded.trans {x y z : Axis} (h : x.Commanded y) (h' : y.Commanded z) : x.Commanded z where
  pos := h'.pos.trans h.pos
  homed := h'.homed.trans h.homed
  travel := h'.travel.trans h.travel
  armed := h'.armed.trans h.armed
  held hx := ⟨(h'.held (h.held hx).1).1, (h'.held (h.held hx).1).2.trans (h.held hx).2⟩
  fault hx := h'.fault (h.fault hx)
  underWay hx := h'.underWay (h.underWay hx)

/-- An axis that is neither HELD nor in FAULT and is set under way. -/
theorem Axis.commanded_of_underWay {x y : Axis} (hheld : x.state ≠ .held) (hfault : x.state ≠ .fault) (hpos : y.pos = x.pos)
    (hhomed : y.homed = x.homed) (htravel : y.travel = x.travel) (harmed : y.armed = x.armed) (hy : y.underWay = true) : x.Commanded y :=
  ⟨hpos, hhomed, htravel, harmed, fun h => absurd h hheld, fun h => absurd h hfault, fun _ => hy⟩

theorem Axis.retarget_commanded {x : Axis} (hheld : x.state ≠ .held) (hfault : x.state ≠ .fault) (p : Int) : x.Commanded (x.retarget p) := by
  unfold Axis.retarget
  extract_lets y ahead
  split
  · exact Axis.commanded_of_underWay hheld hfault rfl rfl rfl rfl rfl
  · split
    · exact Axis.commanded_of_underWay hheld hfault rfl rfl rfl rfl rfl
    · exact Axis.commanded_of_underWay hheld hfault rfl rfl rfl rfl rfl

theorem Axis.enterHoming_commanded {x : Axis} (hheld : x.state ≠ .held) (hfault : x.state ≠ .fault) (hh : x.homed = false) :
    x.Commanded x.enterHoming := by
  unfold Axis.enterHoming
  extract_lets y
  split
  · exact Axis.commanded_of_underWay hheld hfault rfl hh.symm rfl rfl rfl
  · split
    · exact Axis.commanded_of_underWay hheld hfault rfl hh.symm rfl rfl rfl
    · exact Axis.commanded_of_underWay hheld hfault rfl hh.symm rfl rfl rfl

theorem Axis.command_commanded (railUp : Bool) (w : GateWish) (x : Axis) : x.Commanded (x.command railUp w) := by
  have hgoal : x.Commanded { x with goal := w.goal } := ⟨rfl, rfl, rfl, rfl, fun h => ⟨h, rfl⟩, id, id⟩
  unfold Axis.command
  split
  · exact .refl x
  next hk =>
  extract_lets y
  have hfault : y.state ≠ .fault := fun h => hk (.inr h)
  split
  · exact hgoal
  next hheld =>
  have hheld : y.state ≠ .held := fun h => hheld (.inl h)
  split
  · exact hgoal
  split
  · next hh => exact hgoal.trans (Axis.enterHoming_commanded hheld hfault hh)
  split
  · exact hgoal
  · exact hgoal.trans (Axis.retarget_commanded hheld hfault _)

/-- A command is for a GATE axis only. -/
theorem Axis.command_other {x : Axis} (h : x.kind ≠ .gate) (railUp : Bool) (w : GateWish) : x.command railUp w = x := if_pos (.inl h)

theorem State.modAxis_commanded {x : Axis} {a b : Fin 8} {f : Axis → Axis} (hf : ∀ y : Axis, y.Commanded (f y)) (h : x.Commanded (u.axes.get a)) :
    x.Commanded ((u.modAxis b f).axes.get a) := by
  rw [State.modAxis_axes, Table.modify, Table.get_set]
  split
  · next hab => exact hab ▸ h.trans (hf _)
  · exact h

theorem Axis.report_commanded (y : Axis) : y.Commanded { y with reported := y.gateState } :=
  ⟨rfl, rfl, rfl, rfl, fun h => ⟨h, rfl⟩, id, id⟩

theorem gateStable_commanded (x : Axis) (a : Fin 8) : GateStable fun u => x.Commanded (u.axes.get a) where
  report _ h := State.modAxis_commanded Axis.report_commanded h
  gate _ _ h := by rw [State.raise_axes]; exact h
  later _ h := h
  coupling _ _ h := h
  command _ w h := State.modAxis_commanded (Axis.command_commanded _ w) h

theorem unserve_axes (t : Fin 8) (s : State) : (unserve t s).axes = s.axes := by
  obtain h | ⟨p, w, ms, o, -, h⟩ := unserve_cases t s
  · rw [h]
  · rw [h]; rfl

theorem releaseStable_commanded (x : Axis) (a : Fin 8) : ReleaseStable fun u => x.Commanded (u.axes.get a) where
  run _ _ _ h := h
  redemand c h := (gateStable_commanded x a).redemand c h
  held _ _ h := h
  aim _ _ h := h
  queue _ h := h
  unserve t h := by rw [unserve_axes]; exact h
  later _ h := h

/-! ## An axis that no crossing commands (R77, R79) -/

theorem demandOf_close_iff (s : State) (l : List (Fin 48)) : demandOf s l = .close ↔ ∃ x ∈ l, (s.sec x).demandsClose = true := by
  unfold demandOf
  split
  · next h => simpa using h
  · next h => simpa using h

theorem demandOf_congr (h : ∀ x, u.sec x = s.sec x) (l : List (Fin 48)) : demandOf u l = demandOf s l := by
  have h : u.sec = s.sec := funext h
  unfold demandOf
  rw [h]

/-- An axis as it was but for the gate state it last reported, and the crossings of a GATE one such that a release commands none of
them: an open delay is to run first, and no demand can rise to CLOSE. -/
structure Uncommanded (a : Fin 8) (x : Axis) (u : State) : Prop where
  axis : ∃ r, u.axes.get a = { x with reported := r }
  calm : x.kind = .gate → ∀ c d k, (u.track.crossings.get c).defn = some d → d.axis = a → u.track.couplings.get c = some k →
    0 < (u.track.crossings.get c).openDelay ∧ (demandOf u d.members = .close → k.demand = .close)

section
variable {a : Fin 8} {x : Axis}

/-- Only the axes, the crossings with their coupling records, and the sections' states count. -/
theorem Uncommanded.congr {v : State} (h : Uncommanded a x u) (haxes : v.axes = u.axes) (hcross : v.track.crossings = u.track.crossings)
    (hcoup : v.track.couplings = u.track.couplings) (hsec : ∀ y, v.sec y = u.sec y) : Uncommanded a x v where
  axis := haxes ▸ h.axis
  calm hg c d k hd ha hk := by
    rw [demandOf_congr hsec, hcross]
    exact h.calm hg c d k (hcross ▸ hd) ha (hcoup ▸ hk)

theorem Uncommanded.modAxis (h : Uncommanded a x u) {b : Fin 8} {f : Axis → Axis}
    (hf : b = a → ∀ r, ∃ r', f { x with reported := r } = { x with reported := r' }) : Uncommanded a x (u.modAxis b f) where
  axis := by
    rw [State.modAxis_axes, Table.modify, Table.get_set]
    obtain ⟨r, hr⟩ := h.axis
    split
    · next hab =>
      obtain ⟨r', hr'⟩ := hf hab.symm r
      exact ⟨r', by rw [← hab, hr, hr']⟩
    · exact ⟨r, hr⟩
  calm := h.calm

theorem syncStable_uncommanded (a : Fin 8) (x : Axis) : SyncStable (Uncommanded a x) where
  report _ h := h.modAxis fun _ _ => ⟨_, rfl⟩
  gate _ _ h := h.congr (State.raise_axes _ _) (by rw [State.raise_track]) (by rw [State.raise_track])
    fun _ => by rw [State.sec, State.sec, State.raise_track]
  later _ h := ⟨h.axis, h.calm⟩

theorem Uncommanded.gateCommand (h : Uncommanded a x u) {b : Fin 8} (hb : b = a → x.kind ≠ .gate) (w : GateWish) :
    Uncommanded a x (Machine.gateCommand b w u) :=
  (syncStable_uncommanded a x).syncGate b (h.modAxis fun hab r => ⟨r, Axis.command_other (x := { x with reported := r }) (hb hab) _ w⟩)

theorem Uncommanded.setCoupling (h : Uncommanded a x u) {c : Fin 4} {d : CrossingDef} {k k' : Coupling}
    (hd : (u.track.crossings.get c).defn = some d) (hk : u.track.couplings.get c = some k) (hk' : k'.demand = demandOf u d.members) :
    Uncommanded a x (u.setCoupling c (some k')) where
  axis := h.axis
  calm hg c' d' k'' hd' ha hk'' := by
    change (u.track.couplings.set c (some k')).get c' = some k'' at hk''
    rw [Table.get_set] at hk''
    split at hk''
    · next hc =>
      subst hc
      obtain rfl := Option.some.inj (hd.symm.trans hd')
      obtain rfl := Option.some.inj hk''
      exact ⟨(h.calm hg c' d k hd ha hk).1, fun hclose => hk'.trans hclose⟩
    · exact h.calm hg c' d' k'' hd' ha hk''

theorem Uncommanded.redemand (h : Uncommanded a x u) (c : Fin 4) : Uncommanded a x (Machine.redemand c u) := by
  obtain e | ⟨d, k, k', hd, hk, hne, hk', e | ⟨hwhy, w, e⟩⟩ := redemand_cases c u
  · rw [e]; exact h
  · rw [e]; exact h.setCoupling hd hk hk'
  · rw [e]
    refine (h.setCoupling hd hk hk').gateCommand (fun ha hg => ?_) w
    obtain ⟨hdelay, hclose⟩ := h.calm hg c d k hd ha hk
    obtain hw | hw := hwhy
    · exact hne (hw.trans (hclose hw).symm)
    · omega

theorem releaseStable_uncommanded (a : Fin 8) (x : Axis) : ReleaseStable (Uncommanded a x) where
  run {u} y st hst h := by
    refine ⟨h.axis, fun hg c d k hd ha hk => ?_⟩
    obtain ⟨hdelay, hclose⟩ := h.calm hg c d k hd ha hk
    refine ⟨hdelay, fun hnew => hclose ?_⟩
    obtain ⟨z, hz, hzc⟩ := (demandOf_close_iff _ _).mp hnew
    refine (demandOf_close_iff _ _).mpr ⟨z, hz, ?_⟩
    rw [State.sec, State.modRun_track, Table.modify, Table.get_set] at hzc
    split at hzc
    · next hzy => exact hzy ▸ hst hzc
    · exact hzc
  redemand c h := h.redemand c
  held _ _ h := ⟨h.axis, h.calm⟩
  aim _ _ h := ⟨h.axis, h.calm⟩
  queue _ h := ⟨h.axis, h.calm⟩
  unserve {u} t h := by
    obtain e | ⟨p, w, ms, o, -, e⟩ := unserve_cases t u
    · rw [e]; exact h
    · rw [e]; exact h.congr rfl rfl rfl fun _ => rfl
  later _ h := ⟨h.axis, h.calm⟩

end

end Sys2Proof.Machine
end

section
/-! SUPPORT. The WARM reset block by block (R19, R24, R85, R121, R129, R142, R170; log entry 3). -/

namespace Sys2Proof.Machine

variable {s u : State}

/-! ## The blocks in their order -/

/-- The blocks whose own records are reset first: the Cue Engine, the Light Engine and the Train Controller. -/
def warmFirst (s : State) : State := warmTrains (warmLight (warmCue s))

/-- Up to the Track Controller's reset. -/
def warmTracked (s : State) : State := warmTrack (warmFirst s)

theorem warmReset_eq (s : State) : warmReset s = warmTrig (warmAxes (warmTracked s)) := rfl

/-- What the Track Controller's release keeps is kept by its whole reset, which then empties the waiting lists and the throw queue. -/
theorem ReleaseStable.warmTrack {P : State → Prop} (h : ReleaseStable P)
    (clear : ∀ {s : State}, P s → P (s.modTrack fun k => { k with runs := k.runs.map fun r => { r with waiting := [] }, queue := [] }))
    (hs : P s) : P (Machine.warmTrack s) :=
  clear (keeps_forEach (fun t _ hs => h.releasePending t hs) _ hs)

theorem warmTrack_run (s : State) (x : Fin 48) :
    (warmTrack s).track.runs.get x = { (forEach (indices 8) releasePending s).track.runs.get x with waiting := [] } := by
  rw [warmTrack, State.modTrack_track, Table.get_map]

theorem warmTrack_sec (s : State) (x : Fin 48) : (warmTrack s).sec x = (forEach (indices 8) releasePending s).sec x := by
  rw [State.sec, State.sec, warmTrack_run]

theorem warmTrack_heldOf (s : State) (k : Fin 8) : (warmTrack s).heldOf k = (forEach (indices 8) releasePending s).heldOf k := by
  rw [State.heldOf, State.heldOf, warmTrack, State.modTrack_trains]

/-- The Motion Controller's reset changes no record of the Track Controller and no train. -/
theorem warmAxes_track (s : State) : (warmAxes s).track = s.track ∧ (warmAxes s).trains = s.trains := by
  have h : SyncStable fun u => u.track = s.track ∧ u.trains = s.trains :=
    { report := fun _ h => h, gate := fun _ _ h => by simpa using h, later := fun _ h => h }
  exact h.stopAxes ⟨rfl, rfl⟩

/-- The Motion Controller's reset makes each axis's warm record, with the gate state it then reports. -/
theorem warmAxes_axis (s : State) (a : Fin 8) : ∃ r, (warmAxes s).axes.get a = { (s.axes.get a).warm with reported := r } := by
  have h : SyncStable fun u => ∃ r, u.axes.get a = { (s.axes.get a).warm with reported := r } :=
    { report := fun {u} b ⟨r, hr⟩ => by
        rw [State.modAxis_axes, Table.modify, Table.get_set]
        split
        · next hab => exact ⟨_, by rw [← hab, hr]⟩
        · exact ⟨r, hr⟩
      gate := fun _ _ h => by rw [State.raise_axes]; exact h
      later := fun _ h => h }
  exact h.stopAxes ⟨_, Table.get_map _ _ a⟩

theorem warmKept_warmAxes (h : WarmKept u s) : WarmKept u (warmAxes s) := (gateStable_warmKept u).stopAxes { h with }

/-- The records that no block resets, and those whose own reset stands since the first three blocks. -/
theorem warmReset_kept (s : State) : WarmKept (warmFirst s) (warmAxes (warmTracked s)) :=
  warmKept_warmAxes ((releaseStable_warmKept _).warmTrack (fun h => { h with }) (.refl _))

/-! ## Records after their reset -/

theorem warmFirst_player (s : State) (p : Fin 8) : (warmFirst s).cue.players.get p = Player.initial (s.cue.players.get p).priority :=
  Table.get_map _ _ p

theorem warmFirst_group (s : State) (g : Fin 32) : (warmFirst s).light.groups.get g = (s.light.groups.get g).warm := Table.get_map _ _ g

theorem warmFirst_train (s : State) (k : Fin 8) : (warmFirst s).trains.get k = (s.trains.get k).warm := Table.get_map _ _ k

theorem warmFirst_heldOf (s : State) (k : Fin 8) : (warmFirst s).heldOf k = s.heldOf k := by
  rw [State.heldOf, warmFirst_train]
  rfl

theorem warmFirst_keepsLast (s : State) (k : Fin 8) (x : Fin 48) : (warmFirst s).keepsLast k x ↔ s.keepsLast k x := by
  rw [State.keepsLast, warmFirst_heldOf]
  rfl

section
variable {k : Fin 8} (hn : ((s.heldOf k).map Prod.fst).Nodup)
include hn

/-- A train's PENDING sections after the Track Controller's reset. -/
theorem warmTracked_own_sec {x : Fin 48} (hx : x ∈ (s.heldOf k).map Prod.fst) (hp : s.sec x = .pending k) :
    (s.keepsLast k x → (warmTracked s).sec x = .reserved k) ∧
      (¬s.keepsLast k x → (warmTracked s).sec x = .clearing (s.track.defs.get x).clearance) := by
  rw [← warmFirst_heldOf] at hn hx
  rw [warmTracked, warmTrack_sec, ← warmFirst_keepsLast]
  exact releaseTrains_own_sec hn hx hp

/-- A train's held list after the Track Controller's reset. -/
theorem warmTracked_own_held : (∀ e, e ∈ (warmTracked s).heldOf k ↔ e ∈ s.heldOf k ∧ (s.sec e.1 = .pending k → s.keepsLast k e.1)) ∧
    ((warmTracked s).heldOf k).Sublist (s.heldOf k) := by
  rw [← warmFirst_heldOf] at hn
  rw [warmTracked, warmTrack_heldOf, ← warmFirst_heldOf s k]
  obtain ⟨hmem, hsub⟩ := releaseTrains_own_held hn
  exact ⟨fun e => (hmem e).trans (and_congr_right fun _ => imp_congr_right fun _ => warmFirst_keepsLast s k e.1), hsub⟩

end

/-- A train at rest with no halt fault stands where it is placed (R86). -/
theorem Train.state_rest {x : Train} (hv : x.speed = 0) (hh : x.halt = none) :
    x.state = if x.placed = true then .standing else .unplaced := by
  cases hp : x.placed <;> simp [Train.state, hv, hh, hp]

theorem Axis.warm_held {x : Axis} (h : x.state = .held) : x.warm.state = .held ∧ x.warm.fault = x.fault := by
  simp [Axis.warm, h]

theorem Axis.warm_fault {x : Axis} (h : x.state = .fault) : x.warm.state = .unhomed ∧ x.warm.fault = none := by
  simp [Axis.warm, h]

theorem Axis.warm_underWay {x : Axis} (h : x.underWay = true) : x.warm.state = if x.homed = true then .idle else .unhomed := by
  have h : x.state = .moving ∨ x.state = .homing := by simpa [Axis.underWay] using h
  obtain h | h := h
  · simp only [Axis.warm, h]; rfl
  · simp only [Axis.warm, h]; rfl

/-- After a WARM reset no axis is under way. -/
theorem Axis.warm_rests (x : Axis) : x.warm.underWay = false := by
  cases hx : x.underWay with
  | true =>
    rw [Axis.underWay, Axis.warm_underWay hx]
    cases x.homed <;> rfl
  | false =>
    cases hs : x.state <;> simp [Axis.underWay, Axis.warm, hs] at hx ⊢

/-- What a WARM reset changes of an axis's record, but for its state and its fault code. -/
theorem Axis.warm_eq (x : Axis) : x.warm = { x with
    v := 0, f := 0, motion := .none, phase := .cruise, met := false, indexRun := 0, homeRun := 0, homeTravel := 0, state := x.warm.state
    fault := x.warm.fault, resume := decide (x.kind = .gate ∧ x.goal ≠ .none) } := by
  have hresume : (x.kind == .gate && x.goal != .none) = decide (x.kind = .gate ∧ x.goal ≠ .none) := by
    rw [Bool.eq_iff_iff]; simp
  rw [← hresume]
  rfl

/-- Through the Track Controller's reset an axis takes commands at most (R117). -/
theorem warmTracked_commanded (s : State) (a : Fin 8) : (s.axes.get a).Commanded ((warmTracked s).axes.get a) :=
  (releaseStable_commanded (s.axes.get a) a).warmTrack (fun h => h) (.refl _)

/-- An axis of another kind, and a gate whose crossings all wait before they open it and ask for no close, takes none. -/
theorem warmTracked_uncommanded {a : Fin 8} (h : (s.axes.get a).kind ≠ .gate ∨ ∀ c d k, (s.track.crossings.get c).defn = some d →
      d.axis = a → s.track.couplings.get c = some k → 0 < (s.track.crossings.get c).openDelay ∧ k.demand = demandOf s d.members) :
    ∃ r, (warmTracked s).axes.get a = { s.axes.get a with reported := r } := by
  have h0 : Uncommanded a (s.axes.get a) (warmFirst s) := ⟨⟨_, rfl⟩, fun hg c d k hd ha hk => by
    obtain ⟨hdelay, hdemand⟩ := h.resolve_left (not_not.mpr hg) c d k hd ha hk
    exact ⟨hdelay, fun hclose => hdemand.trans hclose⟩⟩
  refine ((releaseStable_uncommanded a _).warmTrack (fun hu => hu.congr rfl rfl rfl fun x => ?_) h0).axis
  rw [State.sec, State.modTrack_track, Table.get_map]
  rfl

/-! ## A gate goal kept over a WARM reset (R121) -/

theorem updateAxis_resumes {a : Fin 8} (hu : (u.axes.get a).updates = false) (hr : (u.axes.get a).resume = true) :
    updateAxis a u = carryGoal a (((u.modSched fun d => { d with axes := d.axes &&& ~~~(1#8 <<< a.1) }).modAxis a fun k =>
      { k with resume := false }).modOuts fun o => { o with pulses := o.pulses.set a 0 }) := by
  unfold updateAxis
  extract_lets s0 x s1
  rw [if_neg (by rw [hu]; decide), if_pos hr]

theorem carryGoal_open {a : Fin 8} (h : (u.axes.get a).goal = .open_) : carryGoal a u = gateCommand a .open_ u := by
  simp only [carryGoal, h]

theorem carryGoal_closed {a : Fin 8} (h : (u.axes.get a).goal = .closed) : carryGoal a u = gateCommand a .close u := by
  simp only [carryGoal, h]

/-- After a WARM reset a GATE axis carries its goal out at its next update. -/
theorem updateAxis_warm {a : Fin 8} {x : Axis} {r : GateState} (hu : u.axes.get a = { x.warm with reported := r }) (hk : x.kind = .gate) :
    let due := ((u.modSched fun d => { d with axes := d.axes &&& ~~~(1#8 <<< a.1) }).modAxis a fun k =>
      { k with resume := false }).modOuts fun o => { o with pulses := o.pulses.set a 0 }
    (x.goal = .open_ → updateAxis a u = gateCommand a .open_ due) ∧ (x.goal = .closed → updateAxis a u = gateCommand a .close due) := by
  intro due
  have hgoal : (due.axes.get a).goal = x.goal := by
    change ((u.axes.modify a _).get a).goal = _
    rw [Table.get_modify_self, hu]
    rfl
  have hrests : (u.axes.get a).updates = false := by
    rw [hu, Axis.updates]
    change (x.warm.underWay || _) = false
    rw [Axis.warm_rests]
    exact Bool.and_false _
  have hcarries (hg : x.goal ≠ .none) : updateAxis a u = carryGoal a due := by
    refine updateAxis_resumes hrests ?_
    rw [hu, Axis.warm_eq]
    exact decide_eq_true ⟨hk, hg⟩
  refine ⟨fun hg => ?_, fun hg => ?_⟩
  · rw [hcarries (by rw [hg]; decide), carryGoal_open (hgoal.trans hg)]
  · rw [hcarries (by rw [hg]; decide), carryGoal_closed (hgoal.trans hg)]

end Sys2Proof.Machine
end

section
/-! SUPPORT. The statements of the lamps' family settled: each by its lemmas above. -/

namespace Sys2Proof.Lamp

open Sys2Proof.Machine

/-- Settles O19: each request by its checks; an index or word of its list is read as itself. -/
theorem groupSettings : Obligations.GroupSettings := by
  refine ⟨fun tag g m w table s h => ⟨fun hm => ?_, fun hc => ?_, ?_, fun group mode hb => ?_, fun group word index hb => ?_⟩,
    fun tag g on off burst s h => ⟨?_, ?_, fun group form hb => ?_⟩⟩
  · exact exec_served h rfl rfl (doGroupSetMode_stored hm)
  · exact exec_query h rfl rfl (doGroupSetMode_noCurve hc)
  · exact exec_served h rfl rfl (doGroupConfig_stored g w table)
  · exact exec_query h rfl rfl (doGroupSetMode_beyond hb)
  · exact exec_query h rfl rfl (doGroupConfig_beyond hb)
  · exact exec_served h rfl rfl (by rw [handle, doGroupSetBlink, fin?_val]; rfl)
  · refine exec_served h rfl rfl ?_
    rw [handle, doGroupSetBlink, fin?_val]
    rfl
  · exact exec_query h rfl rfl (doGroupSetBlink_beyond on off burst hb)

/-- Settles O20: GROUP_SET_CURVE and GAMMA_WRITE check by check, each check by the first item it names. -/
theorem curveAndGammaWrites : Obligations.CurveAndGammaWrites := by
  refine ⟨fun tag g points s h => ⟨fun h1 h16 hm ho he => ?_, fun hc => ?_, fun he hmode => ?_,
      fun before x after hp h1 h16 hb hx => ?_, fun group hg => ?_, fun before after a b hp h16 hm ho hba => ?_⟩,
    fun tag t entries s h => ⟨fun hm ho => ?_, fun before after a b he hm ho hba => ?_, fun before after a he hb ha => ?_,
      fun table ht => ?_⟩⟩
  · exact exec_served h rfl rfl ((doGroupSetCurve_valid (by omega) hm ho).trans (if_neg fun hc => he hc.1 hc.2))
  · exact exec_query h rfl rfl (doGroupSetCurve_count hc)
  · subst he
    exact exec_query h rfl rfl ((doGroupSetCurve_valid (by simp) (by simp) .nil).trans (if_pos ⟨rfl, hmode⟩))
  · refine exec_query h rfl rfl (doGroupSetCurve_minute (by omega) ?_)
    rw [hp, firstIdx_append (fun y hy => by simpa using hb y hy) (by simpa using hx), Nat.zero_add]
  · exact exec_query h rfl rfl (by rw [handle, doGroupSetCurve, fin?_of_le hg])
  · have hlen : points.length ≠ 1 := by rw [hp, List.length_append, List.length_cons, List.length_cons]; omega
    refine exec_query h rfl rfl (doGroupSetCurve_order (by omega) hm ?_)
    rw [hp, curveDrop_eq, firstBreak_append (by simpa using ho) (by simpa using hba), Nat.zero_add]
  · refine exec_served h rfl rfl (doGammaWrite_stored hm ?_)
    rw [gammaDrop_eq, firstBreak_none (by simpa using ho)]
  · refine exec_query h rfl rfl (doGammaWrite_falls hm ?_)
    rw [he, gammaDrop_eq, firstBreak_append (by simpa using ho) (by simpa using hba), Nat.zero_add]
  · refine exec_query h rfl rfl (doGammaWrite_range ?_)
    rw [he, firstIdx_append (fun y hy => by simpa using hb y hy) (by simpa using ha), Nat.zero_add]
  · exact exec_query h rfl rfl (by rw [handle, doGammaWrite, fin?_of_le ht])

/-- Settles O21, by the duration. -/
theorem groupSetLevel : Obligations.GroupSetLevel := by
  intro tag g level duration b s h r ended
  refine ⟨fun hd => exec_served h rfl rfl ?_, fun hd => exec_served h rfl rfl ?_, fun group base hb => ?_⟩
  · rw [handle, doGroupSetLevel, fin?_val, fadeBaseOf_code]
    exact if_pos hd
  · rw [handle, doGroupSetLevel, fin?_val, fadeBaseOf_code]
    exact if_neg (by omega)
  · exact exec_query h rfl rfl (doGroupSetLevel_beyond level duration hb)

/-- Settles O25: the count down of a phase or of the cooling by induction, then the frame that ends it. -/
theorem blinkAndSodium : Obligations.BlinkAndSodium := by
  refine ⟨fun b frames h0 hf => ?_, fun warm restrike levels lamp hr hs f hlit hdark => ?_⟩
  · have hcount := Blink.counts_down h0 hf
    have hend : frames (b.counter + 1) = ({ b with counter := 0 } : Blink).advance.1 := by
      rw [hf, hcount _ le_rfl, Nat.sub_self, Option.bind_some]
    refine ⟨hcount, fun hp => ?_, fun hp hb => ?_, fun hp hb => ?_, fun hp hb => ?_⟩
    · rw [hend, Blink.advance_on (b := { b with counter := 0 }) rfl hp]
    · rw [hend, Blink.advance_off (b := { b with counter := 0 }) rfl hp hb]
    · rw [hend, Blink.advance_last (b := { b with counter := 0 }) rfl hp hb]
    · rw [hend, Blink.advance_burst (b := { b with counter := 0 }) rfl hp hb]
  · have hout : lamp (f + 1) = .cooling restrike := by rw [hs, hdark, sodiumStep_out hlit hr]
    have hcool := sodium_cools hs hout
    have hend : lamp (f + 1 + restrike) = sodiumStep warm restrike (levels (f + restrike)) (.cooling 1) := by
      have hlast := hcool (restrike - 1) (by omega)
      rw [show f + 1 + (restrike - 1) = f + restrike by omega, show restrike - (restrike - 1) = 1 by omega] at hlast
      rw [show f + 1 + restrike = f + restrike + 1 by omega, hs, hlast]
    refine ⟨hcool, fun h0 => ?_, fun hpos => ?_⟩
    · rw [hend, h0]; rfl
    · have hne : levels (f + restrike) ≠ 0 := by omega
      simp [hend, sodiumStep, hne, warmingAt]

/-- Settles O22: CHANNEL_CONFIG by the kind its fields name, the output places by the place a channel or a run has already. -/
theorem channelsAndPlaces : Obligations.ChannelsAndPlaces := by
  refine ⟨fun tag c g kind trim bind warm restrike s h => ?_, fun tag o c k s h => ?_⟩
  · intro r store reply
    have stored {k : ChannelKind} (hk : channelKindOf kind bind = .ok k) :
        exec (.channelConfig tag c.1 g.1 kind trim bind warm restrike) s = .next (s.served tag r (store k) reply) :=
      exec_served h rfl rfl (doChannelConfig_stored c g trim warm restrike hk)
    have fails {n : Nat} (hk : channelKindOf kind bind = .error n) :
        exec (.channelConfig tag c.1 g.1 kind trim bind warm restrike) s = .next (s.served tag r id (refuseAt .outOfRange n 0 0)) :=
      exec_query h rfl rfl (doChannelConfig_field c g trim warm restrike hk)
    refine ⟨fun hk => stored (by rw [hk]; rfl), fun hk => stored (by rw [hk]; rfl),
      fun x a hk hx ha => stored (hk ▸ channelKindOf_signal hx ha), fun a hk ha hw => stored (hk ▸ channelKindOf_chase ha hw),
      fun x hk hx => stored (hk ▸ channelKindOf_gate hx), ⟨fun hk => ⟨fun hx => ?_, fun hx ha => ?_⟩, fun hk => ⟨fun hx => ?_, fun hx hw => ?_⟩,
        fun hk hx => ?_⟩, fun hk => fails (channelKindOf_beyond hk), fun channel group hb => ?_⟩
    · exact fails (hk ▸ channelKindOf_noSection hx)
    · exact fails (hk ▸ channelKindOf_noAspect hx ha)
    · exact fails (hk ▸ channelKindOf_noAxis hx)
    · exact fails (hk ▸ channelKindOf_noWidth hx hw)
    · exact fails (hk ▸ channelKindOf_noCrossing hx)
    · exact exec_query h rfl rfl (doChannelConfig_beyond trim warm restrike hb)
  · refine ⟨fun hp => ?_, fun o' ho hp => ?_, fun i n hp => ?_, fun hp => ?_, fun output channel hb => ?_,
      fun seg chain first count channel hb => ?_, fun seg hb => ?_, ?_, fun n hn => ?_, fun chain n hb => ?_,
      fun first count channel h1 h2 h3 hs hp => ?_, fun first count channel h1 h2 h3 => ⟨fun j hj => ?_, fun n hj hn => ?_⟩,
      fun first count channel => ?_, ?_⟩
    · exact exec_served h rfl rfl (doPwmMap_free hp)
    · exact exec_query h rfl rfl (doPwmMap_elsewhere ho hp)
    · exact exec_query h rfl rfl (doPwmMap_chain hp)
    · exact exec_query h rfl rfl (doPwmMap_carried hp)
    · exact exec_query h rfl rfl (doPwmMap_beyond hb)
    · exact exec_query h rfl rfl (doSegmentSet_beyond hb)
    · exact exec_query h rfl rfl (by rw [handle, doSegmentClear, fin?_of_le hb])
    · exact exec_served h rfl rfl (by rw [handle, doPwmMap, fin?_val])
    · exact exec_served h rfl rfl (doChainLength_stored k hn)
    · exact exec_query h rfl rfl (doChainLength_beyond hb)
    · have hseg := segmentClash_apart s.light o fun i hi d hd => (hs i hi d hd).1
      have hch := channelClash_apart s.light o (fun i hi d hd => (hs i hi d hd).2) hp
      exact exec_served h rfl rfl ((doSegmentSet_inRange o k h1 h2 h3).trans (by rw [State.taking_light, hseg, hch]))
    · exact exec_query h rfl rfl ((doSegmentSet_inRange o k h1 h2 h3).trans (by rw [State.taking_light, hj]))
    · exact exec_query h rfl rfl ((doSegmentSet_inRange o k h1 h2 h3).trans (by rw [State.taking_light, hj, hn]))
    · exact ⟨segmentClash_eq_some s.light o k first count, segmentClash_eq_none s.light o k first count,
        channelClash_eq_some s.light o channel count, channelClash_eq_none s.light o channel count⟩
    · exact exec_served h rfl rfl (by rw [handle, doSegmentClear, fin?_val])

/-- Settles O23, part by part of the frame: its rows, generators, composition, bindings, duties, and the LIGHTS rail. -/
theorem lightFrame : Obligations.LightFrame := by
  refine ⟨fun g c s h => ?_, fun g s => ?_, fun c s => ?_, fun x a k start width s => ?_, fun o k n s => ?_, fun c s => ?_⟩
  -- The rows
  · intro frame lamp
    refine ⟨perform_clear h _, ?_, ?_, ?_⟩
    · exact (perform_clear h _).trans (congrArg _ (forItem_val g _ s))
    · exact (perform_clear h _).trans (congrArg _ (forItem_val c _ s))
    · refine (perform_clear h _).trans (congrArg _ ((forItem_val c _ s).trans ?_))
      rw [coolingStep, State.endsCooling_eq]
      rfl
  -- The blink generators
  · intro shown
    refine ⟨rfl, advanceBlink_off, fun b hb => ⟨fun hc => ?_, fun hc hp => ?_, fun hc hp hz => ?_, fun hc hp h2 => ?_, fun hc hp h1 => ?_⟩⟩
    · exact advanceBlink_moves hb (Blink.advance_counting hc)
    · exact advanceBlink_moves hb (Blink.advance_on hc hp)
    · exact advanceBlink_moves hb (Blink.advance_off hc hp hz)
    · exact advanceBlink_moves hb (Blink.advance_burst hc hp h2)
    · exact advanceBlink_done hb (Blink.advance_last hc hp h1)
  -- The composition
  · intro x y g passes duty
    have hy : y = s.composeChannel (s.groupValues x.group) x := composeAll_channel s c
    clear_value y
    subst hy
    refine ⟨rfl, State.composeChannel_lastW_passes s _ x, State.composeChannel_lastW_gated s _ x,
      fun hk => ⟨State.composeChannel_sodium_other s _ x hk, ?_⟩,
      fun hk => ⟨State.composeChannel_sodium s _ x hk, fun hs => ?_, fun hs => ?_, fun k hs => ?_⟩, rfl, rfl⟩
    · rw [State.composeChannel_lastD, if_neg hk]
    · rw [State.composeChannel_lastD, if_pos hk]
      obtain hs | ⟨k, hs⟩ := hs <;> rw [hs] <;> rfl
    · rw [State.composeChannel_lastD, if_pos hk, hs]
      rfl
    · rw [State.composeChannel_lastD, if_pos hk, hs]
      rfl
  -- The bindings
  · intro served
    refine ⟨rfl, rfl, ?_, ?_, fun h => ?_, fun hserved h => ?_, State.lit_chase_iff a start width, State.lit_gate_iff k⟩
    · rw [State.lit_signal_iff x rfl, aspectLit_proceed_iff]
    · rw [State.lit_signal_iff x rfl, aspectLit_occupied_iff]
    · change aspectLit .stop (s.lampSec x) = true
      rw [aspectLit_stop_iff]
      by_cases hserved : served
      · rw [State.lampSec_served hserved]
        exact .inr (h.resolve_left (not_not.mpr hserved))
      · exact .inl (State.lampSec_absent hserved)
    · change aspectLit .stop (s.lampSec x) = false
      rw [State.lampSec_served hserved]
      obtain ⟨t, h | h⟩ | h := h <;> rw [h] <;> rfl
  -- The duties
  · intro duty t word
    refine ⟨rfl, fun c hc => ?_, fun hn => ?_, ?_, fun i d c hn hd hm hu hc => ?_, fun hn hu => ?_, fun w b hw hb => ?_, ?_⟩
    · exact (sendDuties_pwm o).trans (by simp only [State.pwmDuty, hc]; rfl)
    · exact (sendDuties_pwm o).trans (by simp only [State.pwmDuty, hn])
    · exact (congrArg List.length (sendDuties_chain k)).trans (by simp)
    · refine (sendDuties_word hn).trans (congrArg some ?_)
      simp only [State.chainWord, Light.channelAt_mapped hd hm hu hc]
      rfl
    · refine (sendDuties_word hn).trans (congrArg some ?_)
      simp only [State.chainWord, Light.channelAt_unmapped hu]
    · exact flatMap_wordBits_get hw hb
    · exact (flatMap_wordBits_length _).trans (by rw [sendDuties_chain, List.length_map, List.length_range])
  -- The LIGHTS rail
  · intro x lit
    have hx : (sodiumRailDown s).light.channels.get c = x.railDown := Table.get_map _ _ c
    exact ⟨fun h => hx.trans (Channel.railDown_lit h.1 h.2), fun h => hx.trans (Channel.railDown_dark h)⟩

/-- Settles O10: the row by the transmitter's reply; then the blocks in their order, each clause by the block that decides it last: the
release for sections and held lists, the crossings' commands and the reset's own record for an axis, and for the rest the first
three blocks, since the others leave it alone. -/
theorem warmResetKeeps : Obligations.WarmResetKeeps := by
  refine ⟨fun r s hw htx hr => ?_, fun s => ?_⟩
  · have hidle : s.link.tx ≠ .idle := by rw [htx]; exact fun h => by cases h
    refine (perform_clear hw _).trans (congrArg _ ?_)
    rw [frameEnd, if_neg hidle, afterFrame, htx]
    simp only [hr]
    rfl
  · have K := warmReset_kept s
    have haxes := warmAxes_axis (warmTracked s)
    have htrack := warmAxes_track (warmTracked s)
    have hsec (x : Fin 48) : (warmAxes (warmTracked s)).sec x = (warmTracked s).sec x := by rw [State.sec, State.sec, htrack.1]
    have hheld (k : Fin 8) : (warmAxes (warmTracked s)).heldOf k = (warmTracked s).heldOf k := by rw [State.heldOf, State.heldOf, htrack.2]
    rw [warmReset_eq]
    generalize warmAxes (warmTracked s) = w at K haxes htrack hsec hheld
    intro t
    refine ⟨K.clock, K.supply, K.pins, K.mask, K.slots, K.replies, K.rx, K.config, K.defs, K.points, K.crossings, K.detectors, ?_, ?_, ?_, ?_, ?_, ?_,
      ?_, ?_, ?_, ?_, ?_, ?_, ?_, ?_, ?_, ?_, ?_, ?_, ?_⟩
    · exact congrArg Track.queue htrack.1
    · intro p v ms serves hu
      obtain e | ⟨p', v', ms', o, hs, e⟩ := K.unit
      · exact ⟨serves, e.trans hu⟩
      · obtain ⟨rfl, rfl, rfl, -⟩ := ThrowUnit.pulsing.inj (hs.symm.trans hu)
        exact ⟨none, e⟩
    · exact fun hu => K.unit.resolve_right fun ⟨p, v, ms, o, hs, _⟩ => hu p v ms o hs
    · intro x
      have hrun : t.track.runs.get x = (warmTracked s).track.runs.get x := congrArg (fun k : Track => k.runs.get x) htrack.1
      rw [hrun, warmTracked, warmTrack_run]
    · intro x hx
      refine (hsec x).trans ?_
      rw [warmTracked, warmTrack_sec]
      exact releaseTrains_sec (warmFirst s) hx
    · intro k names kept hn
      obtain ⟨hmem, hsub⟩ := warmTracked_own_held hn
      refine ⟨fun x hx hp => ?_, fun e => ?_, ?_⟩
      · obtain ⟨hkept, hreleased⟩ := warmTracked_own_sec hn hx hp
        exact ⟨fun h => (hsec x).trans (hkept h), fun h => (hsec x).trans (hreleased h)⟩
      · exact (hheld k).symm ▸ hmem e
      · exact (hheld k).symm ▸ hsub
    · exact (congrArg Light.channels K.light :)
    · exact (congrArg Light.gammas K.light :)
    · exact (congrArg Light.pwm K.light :)
    · exact fun g => (congrArg (fun l : Light => l.groups.get g) K.light).trans (warmFirst_group s g)
    · exact fun p => (K.heard.players p (by rw [warmFirst_player]; rfl)).trans (warmFirst_player s p)
    · exact fun x => (congrArg (fun h : Table (Option (Fin 8)) 57 => h.get x) K.heard.holders).trans (Table.get_replicate _ x)
    · exact K.heard.lists
    · intro k x y
      obtain ⟨held, timer, dir, due, e⟩ := K.trains k
      rw [warmFirst_train] at e
      change y = _ at e
      clear_value y
      subst e
      exact ⟨rfl, rfl, rfl, rfl, rfl, rfl, rfl, rfl, Train.state_rest rfl rfl, rfl, rfl, rfl, rfl⟩
    · intro a x y
      obtain ⟨r, hy⟩ := haxes a
      have hz := warmTracked_commanded s a
      have hfree := warmTracked_uncommanded (s := s) (a := a)
      generalize (warmTracked s).axes.get a = z at hy hz hfree
      change y = _ at hy
      clear_value y
      subst hy
      refine ⟨rfl, rfl, hz.pos, hz.homed, rfl, rfl, hz.travel, hz.armed, rfl, rfl, rfl, fun h => ?_, fun h => Axis.warm_fault (hz.fault h),
        fun h => ?_, fun h => ?_⟩
      · obtain ⟨hstate, hfault⟩ := hz.held h
        obtain ⟨hstate', hfault'⟩ := Axis.warm_held hstate
        exact ⟨hstate', hfault'.trans hfault⟩
      · have hway : x.underWay = true := by simpa [Axis.underWay] using h
        exact (Axis.warm_underWay (hz.underWay hway)).trans (by rw [hz.homed])
      · obtain ⟨r', rfl⟩ := hfree h
        refine ⟨?_, fun u hu hk => updateAxis_warm hu hk⟩
        rw [Axis.warm_eq]
    · exact fun i => (congrArg Counter.count (Table.get_map _ _ i)).trans (congrArg (fun g : Trig => (g.counters.get i).reload) K.trig)
    · exact (congrArg Trig.aux K.trig :)
    · exact (congrArg Trig.triggers K.trig :)
    · exact K.heard.events

end Sys2Proof.Lamp
end

section
/-! SUPPORT. The arithmetic of the composition: rounded division's four modes (R39), the product and the trim (R44, R45), and the straight
runs of a gamma table and of a day curve (R41, R42, R48). -/

namespace Sys2Proof.Machine

variable {mode : Rounding}

/-! ## The four modes (R39) -/

theorem roundDiv_down_bounds (num : Int) {den : Nat} (hd : 0 < den) :
    roundDiv .down num den * den ≤ num ∧ num < (roundDiv .down num den + 1) * den := by
  have hden : (0 : Int) < den := by omega
  exact ⟨Int.ediv_mul_le num hden.ne', Int.lt_ediv_add_one_mul_self num hden⟩

/-- Rounding up is rounding the opposite number down. -/
theorem roundDiv_up_bounds (num : Int) {den : Nat} (hd : 0 < den) :
    (roundDiv .up num den - 1) * den < num ∧ num ≤ roundDiv .up num den * den := by
  obtain ⟨hle, hlt⟩ := roundDiv_down_bounds (-num) hd
  simp only [roundDiv, Int.sub_mul, Int.add_mul, Int.neg_mul] at hle hlt ⊢
  omega

/-- The nearest integer leaves a remainder of at most half the divisor, and of exactly half only when it is even: by the branch taken. -/
theorem roundDiv_nearestEven_dist (num : Int) {den : Nat} (hd : 0 < den) :
    |2 * (num - roundDiv .nearestEven num den * den)| ≤ den ∧
      (|2 * (num - roundDiv .nearestEven num den * den)| = den → roundDiv .nearestEven num den % 2 = 0) := by
  have hden : (0 : Int) < den := by omega
  have hsum := Int.ediv_mul_add_emod num (den : Int)
  have hpos := Int.emod_nonneg num hden.ne'
  have hlt := Int.emod_lt_of_pos num hden
  rw [abs_le, abs_eq hden.le]
  simp only [roundDiv]
  split_ifs with hbelow habove heven
  · omega
  · rw [Int.add_mul]
    omega
  · omega
  · rw [Int.add_mul]
    omega

/-! ## S3 and S4 (R44, R45) -/

/-- What a mode adds to a numerator of at least 0 before it drops the fraction of a division by 4095. -/
def Rounding.bias4095 : Rounding → Nat
  | .down | .towardZero => 0
  | .up => 4094
  | .nearestEven => 2047

theorem Rounding.bias4095_lt (mode : Rounding) : mode.bias4095 < 4095 := by cases mode <;> decide

/-- 4095 is odd, so no quotient is a tie and each mode is one division. -/
theorem roundDiv_4095 (mode : Rounding) (n : Nat) : roundDiv mode (n : Int) 4095 = ((n + mode.bias4095) / 4095 : Nat) := by
  cases mode with
  | down => simp only [roundDiv, Rounding.bias4095]; omega
  | up => simp only [roundDiv, Rounding.bias4095]; omega
  | towardZero =>
    rw [roundDiv_towardZero, if_pos (Int.natCast_nonneg n)]
    simp only [roundDiv, Rounding.bias4095]
    omega
  | nearestEven =>
    simp only [roundDiv, Rounding.bias4095]
    split_ifs <;> omega

theorem product_eq (mode : Rounding) (c g : Nat) : product mode c g = (c * g + mode.bias4095) / 4095 := by
  rw [product, ← Int.natCast_mul, roundDiv_4095, Int.toNat_natCast]

theorem product_cast (mode : Rounding) (c g : Nat) : (product mode c g : Int) = roundDiv mode ((c : Int) * g) 4095 := by
  rw [product_eq, ← Int.natCast_mul, roundDiv_4095]

theorem product_full (mode : Rounding) (c : Nat) : product mode c 4095 = c := by
  have := mode.bias4095_lt
  rw [product_eq]
  omega

theorem product_comm (mode : Rounding) (c g : Nat) : product mode c g = product mode g c := by
  rw [product_eq, product_eq, Nat.mul_comm]

theorem product_le (mode : Rounding) {c g : Nat} (hc : c ≤ 4095) (hg : g ≤ 4095) : product mode c g ≤ 4095 := by
  have := mode.bias4095_lt
  have : c * g ≤ 4095 * 4095 := Nat.mul_le_mul hc hg
  rw [product_eq]
  omega

theorem product_zero {c g : Nat} (h : c = 0 ∨ g = 0) : product mode c g = 0 := by
  rw [product_eq, Nat.mul_eq_zero.mpr h, Nat.zero_add]
  exact Nat.div_eq_of_lt mode.bias4095_lt

theorem trimmed_zero (trim : Int) : trimmed 0 trim = 0 := rfl

theorem trimmed_eq {v : Nat} (h : v ≠ 0) (trim : Int) : (trimmed v trim : Int) = max 0 (min 4095 (v + trim)) := by
  rw [trimmed, if_neg h, clampInt]
  omega

/-! ## A straight run between two values -/

/-- The value at step `k` of the `d` steps from `a` to `b`, the rise rounded by the mode: what a fade gives, so the bounds of a fade
hold of it. -/
def interpolate (mode : Rounding) (a b k d : Nat) : Nat := ((a : Int) + roundDiv mode (((b : Int) - a) * k) d).toNat

variable {a b k d : Nat}

theorem interpolate_cast (hd : 0 < d) (hk : k ≤ d) : (interpolate mode a b k d : Int) = a + roundDiv mode (((b : Int) - a) * k) d := by
  obtain ⟨hlow, -, -⟩ := fadeLevel_between mode (f := ⟨a, b, d, k, .real⟩) hd hk
  exact Int.toNat_of_nonneg (by dsimp only at hlow; omega)

theorem interpolate_between (hd : 0 < d) (hk : k ≤ d) :
    min a b ≤ interpolate mode a b k d ∧ interpolate mode a b k d ≤ max a b := by
  obtain ⟨hlow, hhigh, -⟩ := fadeLevel_between mode (f := ⟨a, b, d, k, .real⟩) hd hk
  have hcast := interpolate_cast (mode := mode) (a := a) (b := b) hd hk
  dsimp only at hlow hhigh
  omega

theorem interpolate_start (hd : 0 < d) : interpolate mode a b 0 d = a := by
  obtain ⟨-, -, hzero⟩ := fadeLevel_between mode (f := ⟨a, b, d, 0, .real⟩) hd (Nat.zero_le d)
  have hcast := interpolate_cast (mode := mode) (a := a) (b := b) hd (Nat.zero_le d)
  have := hzero rfl
  dsimp only at this
  omega

/-! ## S7: between two entries of a gamma table (R48) -/

theorem gammaDuty_zero (table : List Nat) : gammaDuty mode table 0 = 0 := rfl

theorem gammaDuty_full (table : List Nat) : gammaDuty mode table 4095 = table.getD 16 0 := rfl

theorem gammaDuty_inner {w : Nat} (table : List Nat) (h0 : 0 < w) (hw : w < 4095) :
    gammaDuty mode table w = interpolate mode (table.getD (16 * w / 4095) 0) (table.getD (16 * w / 4095 + 1) 0) (16 * w % 4095) 4095 := by
  have hk : ¬16 * w / 4095 = 16 := by omega
  rw [gammaDuty, if_neg (by omega)]
  exact if_neg hk

/-- A table that never falls has each entry at most the next. -/
theorem getD_le_getD_succ {table : List Nat} (hm : table.Pairwise (· ≤ ·)) {k : Nat} (hk : k + 1 < table.length) :
    table.getD k 0 ≤ table.getD (k + 1) 0 := by
  rw [List.getD_eq_getElem _ _ (by omega), List.getD_eq_getElem _ _ hk]
  exact List.pairwise_iff_getElem.mp hm k (k + 1) _ hk (by omega)

theorem getD_le_of_forall_le {table : List Nat} {n : Nat} (h : ∀ x ∈ table, x ≤ n) (k : Nat) : table.getD k 0 ≤ n := by
  obtain hk | hk := Nat.lt_or_ge k table.length
  · rw [List.getD_eq_getElem _ _ hk]
    exact h _ (List.getElem_mem hk)
  · rw [List.getD_eq_default _ _ hk]
    exact Nat.zero_le n

theorem gammaDuty_between {table : List Nat} {w : Nat} (hlen : table.length = 17) (hm : table.Pairwise (· ≤ ·)) (h0 : 0 < w) (hw : w < 4095) :
    table.getD (16 * w / 4095) 0 ≤ gammaDuty mode table w ∧ gammaDuty mode table w ≤ table.getD (16 * w / 4095 + 1) 0 := by
  have hle := getD_le_getD_succ hm (k := 16 * w / 4095) (by omega)
  have := interpolate_between (mode := mode) (a := table.getD (16 * w / 4095) 0) (b := table.getD (16 * w / 4095 + 1) 0)
    (d := 4095) (k := 16 * w % 4095) (by omega) (by omega)
  rw [gammaDuty_inner table h0 hw]
  omega

theorem gammaDuty_le {table : List Nat} {w : Nat} (hlen : table.length = 17) (hm : table.Pairwise (· ≤ ·)) (hmax : ∀ x ∈ table, x ≤ 1023)
    (hw : w ≤ 4095) : gammaDuty mode table w ≤ 1023 := by
  obtain rfl | h0 := Nat.eq_zero_or_pos w
  · exact Nat.zero_le 1023
  · obtain hlt | rfl := Nat.lt_or_eq_of_le hw
    · exact (gammaDuty_between hlen hm h0 hlt).2.trans (getD_le_of_forall_le hmax _)
    · exact getD_le_of_forall_le hmax 16

/-! ## S1: the segment of a day curve (R41) and its level (R42) -/

variable {x : Nat} {points : List (Nat × Nat)} {first last start : Nat × Nat}

/-- The segments before the one that holds `x` end at or before its start, so the search passes them over. -/
theorem innerSegment_append {before after : List (Nat × Nat)} {p q : Nat × Nat}
    (hinc : (before ++ p :: q :: after).Pairwise fun u v => u.1 < v.1) (hp : 60 * p.1 ≤ x) (hq : x < 60 * q.1) :
    innerSegment x (before ++ p :: q :: after) = some (p, q) := by
  induction before with
  | nil => exact if_pos ⟨hp, hq⟩
  | cons u rest ih =>
    obtain ⟨-, htail⟩ := List.pairwise_cons.mp hinc
    cases rest with
    | nil => exact (if_neg (by omega)).trans (ih htail)
    | cons v rest =>
      have hvp : v.1 < p.1 := (List.pairwise_cons.mp htail).1 p (by simp)
      exact (if_neg (by omega)).trans (ih htail)

theorem innerSegment_none (h : ∀ p ∈ points, 60 * p.1 ≤ x) : innerSegment x points = none := by
  induction points with
  | nil => rfl
  | cons u rest ih =>
    obtain ⟨-, hrest⟩ := List.forall_mem_cons.mp h
    cases rest with
    | nil => rfl
    | cons v rest =>
      have hv := hrest v (by simp)
      exact (if_neg (by omega)).trans (ih hrest)

theorem curveLevel_beforeFirst (hf : points.head? = some first) (hl : points.getLast? = some last) (h : x < 60 * first.1) :
    curveLevel mode points x = segmentLevel mode last (first.1 + 1440) first.2 (x + 86400) := by
  simp only [curveLevel, hf, hl, if_pos h]

theorem curveLevel_afterLast (hf : points.head? = some first) (hl : points.getLast? = some last) (h : ∀ p ∈ points, 60 * p.1 ≤ x) :
    curveLevel mode points x = segmentLevel mode last (first.1 + 1440) first.2 x := by
  have hfirst := h first (List.mem_of_head? hf)
  simp only [curveLevel, hf, hl, innerSegment_none h, if_neg (Nat.not_lt.mpr hfirst)]

theorem curveLevel_inner {before after : List (Nat × Nat)} {p q : Nat × Nat} (hs : points = before ++ p :: q :: after)
    (hinc : points.Pairwise fun u v => u.1 < v.1) (hp : 60 * p.1 ≤ x) (hq : x < 60 * q.1) :
    curveLevel mode points x = segmentLevel mode p q.1 q.2 x := by
  subst hs
  have hne : before ++ p :: q :: after ≠ [] := by simp
  have hfirst : ¬x < 60 * ((before ++ p :: q :: after).head hne).1 := by
    cases before with
    | nil => exact Nat.not_lt.mpr hp
    | cons u rest =>
      have hup : u.1 < p.1 := (List.pairwise_cons.mp hinc).1 p (by simp)
      simp only [List.cons_append, List.head_cons]
      omega
  simp only [curveLevel, List.head?_eq_some_head hne, List.getLast?_eq_some_getLast hne, if_neg hfirst, innerSegment_append hinc hp hq]

section
variable {endMinute endLevel : Nat}

theorem segmentLevel_eq (hx : 60 * start.1 ≤ x) :
    segmentLevel mode start endMinute endLevel x = interpolate mode start.2 endLevel (x - 60 * start.1) (60 * (endMinute - start.1)) := by
  rw [segmentLevel, interpolate, Int.natCast_sub hx, Int.natCast_mul, Nat.cast_ofNat]

theorem segmentLevel_cast (hx : 60 * start.1 ≤ x) (hend : x ≤ 60 * endMinute) (h : start.1 < endMinute) :
    (segmentLevel mode start endMinute endLevel x : Int) =
      start.2 + roundDiv mode (((endLevel : Int) - start.2) * ((x : Int) - 60 * start.1)) (60 * (endMinute - start.1)) := by
  rw [segmentLevel_eq hx, interpolate_cast (by omega) (by omega), Int.natCast_sub hx, Int.natCast_mul, Nat.cast_ofNat]

theorem segmentLevel_between (hx : 60 * start.1 ≤ x) (hend : x ≤ 60 * endMinute) (h : start.1 < endMinute) :
    min start.2 endLevel ≤ segmentLevel mode start endMinute endLevel x ∧
      segmentLevel mode start endMinute endLevel x ≤ max start.2 endLevel := by
  rw [segmentLevel_eq hx]
  exact interpolate_between (by omega) (by omega)

theorem segmentLevel_start (h : start.1 < endMinute) : segmentLevel mode start endMinute endLevel (60 * start.1) = start.2 := by
  rw [segmentLevel_eq le_rfl, Nat.sub_self]
  exact interpolate_start (by omega)

end

/-- In a list of increasing minutes no point comes after the last one. -/
theorem le_last_of_pairwise {before : List (Nat × Nat)} (hinc : (before ++ [last]).Pairwise fun u v => u.1 < v.1) :
    ∀ p ∈ before ++ [last], p.1 ≤ last.1 := by
  obtain ⟨-, -, hlast⟩ := List.pairwise_append.mp hinc
  intro p hp
  obtain hp | hp := List.mem_append.mp hp
  · exact (hlast p hp last (List.mem_singleton_self last)).le
  · rw [List.mem_singleton.mp hp]

/-- A point's own minute starts the segment to the next point, or the one across midnight. -/
theorem curveLevel_at_point (hinc : points.Pairwise fun u v => u.1 < v.1) (hday : ∀ p ∈ points, p.1 ≤ 1439) {p : Nat × Nat}
    (hp : p ∈ points) : curveLevel mode points (60 * p.1) = p.2 := by
  obtain ⟨before, after, rfl⟩ := List.append_of_mem hp
  cases after with
  | nil =>
    have hle := le_last_of_pairwise hinc
    have hne : before ++ [p] ≠ [] := List.ne_nil_of_mem hp
    have hpday := hday p hp
    rw [curveLevel_afterLast (List.head?_eq_some_head hne) List.getLast?_concat fun q hq => Nat.mul_le_mul_left 60 (hle q hq)]
    exact segmentLevel_start (by omega)
  | cons q after =>
    have hpq : p.1 < q.1 := (List.pairwise_cons.mp (List.pairwise_append.mp hinc).2.1).1 q (by simp)
    rw [curveLevel_inner rfl hinc le_rfl (by omega)]
    exact segmentLevel_start hpq

end Sys2Proof.Machine
end

section
/-! SUPPORT. The statements of the composition's arithmetic settled: each by its lemmas above. -/

namespace Sys2Proof.Composition

open Sys2Proof.Machine

/-- Settles O26, mode by mode. -/
theorem roundedDivision : Obligations.RoundedDivision := fun num den hd =>
  ⟨roundDiv_down_bounds num hd, roundDiv_up_bounds num hd, roundDiv_towardZero num den, roundDiv_nearestEven_dist num hd⟩

/-- Settles O27: the product as one division with the mode's bias, the trim as one clamp. -/
theorem levelStages : Obligations.LevelStages := by
  refine ⟨fun m c g hc hg => ?_, fun v trim => ?_⟩
  · refine ⟨product_cast m c g, product_le m hc hg, product_full m c, (product_comm m 4095 g).trans (product_full m g), product_zero, ?_⟩
    simp only [product_eq, Rounding.bias4095]
    generalize c * g = n
    omega
  · refine ⟨fun hv => hv ▸ trimmed_zero trim, fun hv => ?_, fun hv => ?_, fun hv => ?_⟩ <;>
      · have := trimmed_eq hv trim
        omega

/-- Settles O28: a gamma table between two entries, and a day curve by the segment that holds the town second. -/
theorem gammaAndCurve : Obligations.GammaAndCurve := by
  refine ⟨fun m table w hlen hm hmax hw => ?_, fun m points g x => ⟨fun h => by rw [Group.curveValue, h],
    fun h => by rw [Group.curveValue, h], fun h => by rw [Group.curveValue, h], fun hinc _ hday => ?_, fun first last mid hs hinc hday => ?_⟩⟩
  · refine ⟨gammaDuty_zero table, gammaDuty_full table, gammaDuty_le hlen hm hmax hw, fun h0 hlt => ?_⟩
    obtain ⟨hlow, hhigh⟩ := gammaDuty_between (mode := m) hlen hm h0 hlt
    refine ⟨hlow, hhigh, ?_⟩
    rw [gammaDuty_inner table h0 hlt]
    exact interpolate_cast (by omega) (by omega)
  · refine ⟨fun p hp => curveLevel_at_point hinc hday hp, fun before after a b hs ha hb => ?_⟩
    have hab : a.1 < b.1 := by omega
    rw [curveLevel_inner hs hinc ha hb]
    exact ⟨segmentLevel_cast ha hb.le hab, segmentLevel_between ha hb.le hab⟩
  · subst hs
    have hle := le_last_of_pairwise hinc
    have hlast := hday last (by simp)
    refine ⟨fun h hx => ?_, fun h => ?_⟩
    · rw [curveLevel_afterLast (first := first) rfl List.getLast?_concat fun p hp => (Nat.mul_le_mul_left 60 (hle p hp)).trans h]
      exact segmentLevel_cast h (by omega) (by omega)
    · rw [curveLevel_beforeFirst (first := first) rfl List.getLast?_concat h]
      exact segmentLevel_cast (by omega) (by omega) (by omega)

end Sys2Proof.Composition
end

section
/-! SUPPORT. The layout's opening and its close: the entry into service and the first failure of the validation (R53, R59, R60, R77). -/

namespace Sys2Proof.Machine

variable {s : State}

/-! ## LAYOUT_OPEN (R53) -/

/-- The lowest-numbered placed train is the one that no lower one precedes. -/
theorem firstPlaced_eq_some {t : Fin 8} (ht : (s.trains.get t).placed = true)
    (hmin : ∀ u : Fin 8, u < t → (s.trains.get u).placed = false) : firstPlaced s = some t := by
  refine (find?_ascending (indices_ascending 8) _ t).mpr ⟨mem_indices t, ht, fun u _ hu => ?_⟩
  by_contra hlt
  simp [hmin u (not_le.mp hlt)] at hu

theorem firstPlaced_eq_none (h : ∀ t : Fin 8, (s.trains.get t).placed = false) : firstPlaced s = none :=
  List.find?_eq_none.mpr fun t _ => by simp [h t]

theorem doLayoutOpen_placed {t : Fin 8} (h : firstPlaced s = some t) : doLayoutOpen s = (s, refuseAt .inUse 0 t.1 0) := by
  simp only [doLayoutOpen, h]

theorem doLayoutOpen_editing (h : firstPlaced s = none) (hc : s.track.config = .editing) : doLayoutOpen s = (s, okay) := by
  simp only [doLayoutOpen, h, hc]

theorem doLayoutOpen_unconfigured (h : firstPlaced s = none) (hc : s.track.config = .unconfigured) :
    doLayoutOpen s = (s.modTrack fun k => { k with config := .editing }, okay) := by
  simp only [doLayoutOpen, h, hc]

theorem doLayoutOpen_operational (h : firstPlaced s = none) (hc : s.track.config = .operational) :
    doLayoutOpen s = (s.modTrack fun k => { k with
      config := .editing, runs := .replicate 48 { state := .none, waiting := [] }, couplings := .replicate 4 none, queue := [] },
      okay) := by
  simp only [doLayoutOpen, h, hc]

/-! ## LAYOUT_CLOSE (R59) -/

theorem doLayoutClose_notEditing (h : s.track.config ≠ .editing) : doLayoutClose s = (s, refuse .wrongState) := if_pos h

theorem doLayoutClose_invalid {row index e : Nat} (h : s.track.config = .editing) (hf : layoutFailure s = some (row, index, e)) :
    doLayoutClose s = (s, refuseAt .invalid row index e) := by
  rw [doLayoutClose, if_neg (not_not.mpr h), hf]

theorem doLayoutClose_valid (h : s.track.config = .editing) (hf : layoutFailure s = none) : doLayoutClose s = (enterService s, okay) := by
  rw [doLayoutClose, if_neg (not_not.mpr h), hf]

/-- The validation does not see the Show Link. -/
theorem layoutFailure_taking (s : State) (tag : Nat) (r : Request) : layoutFailure (s.taking tag r) = layoutFailure s := rfl

/-! ## Into service (R60, R77) -/

/-- The layout OPERATIONAL with each section's state read from its detector, before the first STRAY_SEEN (R60). -/
def State.inService (s : State) : State :=
  s.modTrack fun k => { k with config := .operational, runs := .ofFn fun x => closeState (k.defs.get x) (k.detectors.get x) }

/-- The STRAY sections at the entry into service, in ascending order. -/
def State.straysOf (s : State) : List (Fin 48) := (indices 48).filter fun x => s.inService.sec x == .stray

theorem enterService_eq (s : State) :
    enterService s = startCoupling 3 (startCoupling 2 (startCoupling 1 (startCoupling 0
      (forEach s.straysOf (fun x => State.raise (.straySeen x)) s.inService)))) := by
  have four : indices 4 = [0, 1, 2, 3] := rfl
  rw [enterService, four]
  simp only [forEach, List.foldl_cons, List.foldl_nil]
  rfl

theorem inService_sec (s : State) (x : Fin 48) : s.inService.sec x =
    if (s.track.defs.get x).present = false then .none else if (s.track.detectors.get x).occupied then .stray else .free :=
  congrArg SectionRun.state (Table.get_ofFn _ x)

theorem inService_sec_stray_iff (s : State) (x : Fin 48) :
    s.inService.sec x = .stray ↔ (s.track.defs.get x).present = true ∧ (s.track.detectors.get x).occupied = true := by
  rw [inService_sec]
  cases (s.track.defs.get x).present <;> simp

/-- The STRAY sections are the only ascending list of the present sections with an OCCUPIED detector. -/
theorem straysOf_eq {strays : List (Fin 48)} (hasc : strays.Pairwise (· < ·))
    (hmem : ∀ x, x ∈ strays ↔ (s.track.defs.get x).present = true ∧ (s.track.detectors.get x).occupied = true) : s.straysOf = strays := by
  refine List.Pairwise.eq_of_mem_iff ((indices_ascending 48).filter _) hasc fun x => ?_
  rw [hmem, ← inService_sec_stray_iff, State.straysOf, List.mem_filter, beq_iff_eq]
  exact and_iff_right (mem_indices x)

theorem GateStable.startCoupling {P : State → Prop} (h : GateStable P) (c : Fin 4) (hs : P s) : P (Machine.startCoupling c s) := by
  unfold Machine.startCoupling
  split
  · exact h.coupling c _ hs
  · next d _ =>
    extract_lets k
    split
    · exact h.coupling c _ hs
    · obtain ⟨k', -, e | ⟨-, w, e⟩⟩ := actOnDemand_cases c d k s
      · rw [e]; exact h.coupling c _ hs
      · rw [e]; exact h.gateCommand _ w (h.coupling c _ hs)

/-- The crossings' coupling at the entry into service is a crossing's command and record, after the STRAY_SEEN events. -/
theorem GateStable.enterService {P : State → Prop} (h : GateStable P) (stray : ∀ {s} x, P s → P (s.raise (.straySeen x)))
    (hs : P s.inService) : P (Machine.enterService s) :=
  keeps_forEach (fun c _ hs => h.startCoupling c hs) (indices 4) (keeps_forEach (fun x _ hs => stray x hs) s.straysOf hs)

/-- Outside the couplings, the axes, the events and the work put off, the layout in service is as its close left it (R60). -/
theorem gateStable_service (v : State) : GateStable fun u =>
    u.track.config = v.track.config ∧ u.track.runs = v.track.runs ∧ u.track.defs = v.track.defs ∧ u.track.points = v.track.points ∧
      u.trains = v.trains ∧ u.light = v.light ∧ u.supply = v.supply where
  report _ h := h
  gate c st h := by simpa using h
  later _ h := h
  coupling _ _ h := h
  command _ _ h := h

theorem enterService_keeps (s : State) :
    (enterService s).track.config = .operational ∧ (enterService s).track.runs = s.inService.track.runs ∧
      (enterService s).track.defs = s.track.defs ∧ (enterService s).track.points = s.track.points ∧
      (enterService s).trains = s.trains ∧ (enterService s).light = s.light ∧ (enterService s).supply = s.supply :=
  (gateStable_service s.inService).enterService (fun x h => by simpa using h) ⟨rfl, rfl, rfl, rfl, rfl, rfl, rfl⟩

theorem enterService_sec (s : State) (x : Fin 48) : (enterService s).sec x =
    if (s.track.defs.get x).present = false then .none else if (s.track.detectors.get x).occupied then .stray else .free := by
  rw [State.sec, (enterService_keeps s).2.1]
  exact inService_sec s x

/-! ## A crossing starts its coupling (R77, R79) -/

/-- The coupling record with which a crossing starts: its demand alone. -/
def Coupling.start (w : GateWish) : Coupling := { demand := w, last := none, openDelay := none, timeout := .absent, retry := false }

section
variable {c : Fin 4} {d : CrossingDef} (hd : (s.track.crossings.get c).defn = some d)

theorem startCoupling_undefined (h : (s.track.crossings.get c).defn = none) : startCoupling c s = s.setCoupling c none := by
  simp only [startCoupling, h]

include hd

theorem startCoupling_engaged (h : s.engaged = true) :
    startCoupling c s = s.setCoupling c (some (.start (demandOf s d.members))) := by
  simp only [startCoupling, hd, h, if_true]
  rfl

theorem startCoupling_released (h : s.engaged = false) : startCoupling c s = actOnDemand c d (.start (demandOf s d.members)) s := by
  simp only [startCoupling, hd, h, Bool.false_eq_true, if_false]
  rfl

theorem startCoupling_close (h : s.engaged = false) (hw : demandOf s d.members = .close) :
    startCoupling c s = gateCommand d.axis .close (s.setCoupling c (some
      { Coupling.start .close with last := some .close, timeout := .running (s.track.crossings.get c).gateTimeout })) := by
  rw [startCoupling_released hd h, hw]
  rfl

theorem startCoupling_delayed (h : s.engaged = false) (hw : demandOf s d.members = .open_) (hn : 0 < (s.track.crossings.get c).openDelay) :
    startCoupling c s = s.setCoupling c (some { Coupling.start .open_ with openDelay := some (s.track.crossings.get c).openDelay }) := by
  rw [startCoupling_released hd h, hw]
  exact if_neg hn.ne'

theorem startCoupling_opens (h : s.engaged = false) (hw : demandOf s d.members = .open_) (hn : (s.track.crossings.get c).openDelay = 0) :
    startCoupling c s = if (s.axes.get d.axis).gateState = .unknown then s.setCoupling c (some (.start .open_))
      else gateCommand d.axis .open_ (s.setCoupling c (some { Coupling.start .open_ with last := some .open_ })) := by
  rw [startCoupling_released hd h, hw]
  exact if_pos hn

end

/-! ## The first failure of several checks (R59) -/

/-- A failure stands before another or is it: by its check, then its index, then its end. -/
def failsNoLater (a b : Nat × Nat × Nat) : Prop := a.1 < b.1 ∨ (a.1 = b.1 ∧ (a.2.1 < b.2.1 ∨ (a.2.1 = b.2.1 ∧ a.2.2 ≤ b.2.2)))

/-- What a search for failures finds: none when there is none, else the first. -/
structure FirstFailure (fails : Nat × Nat × Nat → Prop) (found : Option (Nat × Nat × Nat)) : Prop where
  none : found = none → ∀ a, ¬fails a
  some : ∀ a, found = some a → fails a ∧ ∀ b, fails b → failsNoLater a b

theorem failsNoLater_antisymm {a b : Nat × Nat × Nat} (h : failsNoLater a b) (h' : failsNoLater b a) : a = b := by
  obtain ⟨r, i, e⟩ := a
  obtain ⟨r', i', e'⟩ := b
  simp only [failsNoLater] at h h'
  simp only [Prod.mk.injEq]
  omega

theorem FirstFailure.congr {P Q : Nat × Nat × Nat → Prop} {o : Option (Nat × Nat × Nat)} (h : FirstFailure P o) (hpq : ∀ a, P a ↔ Q a) :
    FirstFailure Q o := by
  obtain rfl : P = Q := funext fun a => propext (hpq a)
  exact h

theorem FirstFailure.eq_none_iff {P : Nat × Nat × Nat → Prop} {o : Option (Nat × Nat × Nat)} (h : FirstFailure P o) :
    o = .none ↔ ∀ a, ¬P a := by
  refine ⟨h.none, fun hno => ?_⟩
  cases ho : o with
  | none => rfl
  | some a => exact absurd (h.some a ho).1 (hno a)

theorem FirstFailure.eq_some_iff {P : Nat × Nat × Nat → Prop} {o : Option (Nat × Nat × Nat)} (h : FirstFailure P o) (a : Nat × Nat × Nat) :
    o = .some a ↔ P a ∧ ∀ b, P b → failsNoLater a b := by
  refine ⟨h.some a, fun ⟨ha, hmin⟩ => ?_⟩
  cases ho : o with
  | none => exact absurd ha (h.none ho a)
  | some b =>
    obtain ⟨hb, hmin'⟩ := h.some b ho
    rw [failsNoLater_antisymm (hmin' a ha) (hmin b hb)]

/-- Checks in order: the later ones count only when the earlier find nothing. -/
theorem FirstFailure.or {P Q : Nat × Nat × Nat → Prop} {o o' : Option (Nat × Nat × Nat)} (h : FirstFailure P o) (h' : FirstFailure Q o')
    (hpq : ∀ a b, P a → Q b → failsNoLater a b) : FirstFailure (fun a => P a ∨ Q a) (o.or o') := by
  cases o with
  | none =>
    have hno := h.none rfl
    exact h'.congr fun a => by simp [hno a]
  | some a =>
    obtain ⟨ha, hmin⟩ := h.some a rfl
    refine ⟨nofun, fun b hb => ?_⟩
    obtain rfl : a = b := Option.some.inj hb
    exact ⟨.inl ha, fun b hb => hb.elim (hmin b) (hpq a b ha)⟩

/-- A search in ascending order finds the first failure when each item's own search does, and names the item. -/
theorem FirstFailure.findSome? {n : Nat} {P : Fin n → Nat × Nat × Nat → Prop} {f : Fin n → Option (Nat × Nat × Nat)} {row : Nat}
    (h : ∀ x, FirstFailure (P x) (f x)) (hrow : ∀ x a, P x a → a.1 = row ∧ a.2.1 = x.1) :
    FirstFailure (fun a => ∃ x, P x a) ((indices n).findSome? f) := by
  refine ⟨fun hnone a ⟨x, hx⟩ => ?_, fun a ha => ?_⟩
  · exact (h x).none (List.findSome?_eq_none_iff.mp hnone x (mem_indices x)) a hx
  · obtain ⟨x, -, hx, hmin⟩ := (findSome?_ascending (indices_ascending n) f a).mp ha
    obtain ⟨hxa, hfirst⟩ := (h x).some a hx
    refine ⟨⟨x, hxa⟩, fun b ⟨y, hy⟩ => ?_⟩
    have hle : x ≤ y := hmin y (mem_indices y) (by
      by_contra hno
      exact (h y).none (by simpa using hno) b hy)
    obtain ⟨hra, hia⟩ := hrow x a hxa
    obtain ⟨hrb, hib⟩ := hrow y b hy
    obtain rfl | hlt := eq_or_lt_of_le hle
    · exact hfirst b hy
    · exact .inr ⟨by rw [hra, hrb], .inl (by rw [hia, hib]; exact hlt)⟩

/-! ## The nine checks (R59) -/

/-- A present section's end at which a check fails. -/
def endFails (s : State) (row : Nat) (bad : Fin 48 → End → Bool) (a : Nat × Nat × Nat) : Prop :=
  ∃ (x : Fin 48) (f : End), (s.track.defs.get x).present = true ∧ bad x f = true ∧ a = (row, x.1, f.code)

/-- A defined point at which a check fails. -/
def pointFails (s : State) (row : Nat) (bad : Fin 24 → PointDef → Bool) (a : Nat × Nat × Nat) : Prop :=
  ∃ (p : Fin 24) (d : PointDef), s.pointDef p = some d ∧ bad p d = true ∧ a = (row, p.1, 0)

/-- A defined crossing at which a check fails. -/
def crossingFails (s : State) (row : Nat) (bad : CrossingDef → Bool) (a : Nat × Nat × Nat) : Prop :=
  ∃ (c : Fin 4) (d : CrossingDef), (s.track.crossings.get c).defn = some d ∧ bad d = true ∧ a = (row, c.1, 0)

/-- One item's check: its failure, if it fails. -/
theorem firstFailure_ite {b : Prop} [Decidable b] (a : Nat × Nat × Nat) :
    FirstFailure (fun a' => b ∧ a' = a) (if b then some a else none) := by
  by_cases hb : b
  · rw [if_pos hb]
    refine ⟨nofun, fun a' ha => ?_⟩
    obtain rfl := Option.some.inj ha
    exact ⟨⟨hb, rfl⟩, fun a' ⟨_, e⟩ => .inr ⟨by rw [e], .inr ⟨by rw [e], by rw [e]⟩⟩⟩
  · rw [if_neg hb]
    exact ⟨fun _ a' h => hb h.1, nofun⟩

theorem firstFailure_badEnd (s : State) (row : Nat) (bad : Fin 48 → End → Bool) :
    FirstFailure (endFails s row bad) (badEnd s row bad) := by
  refine FirstFailure.findSome? (row := row) (fun x => ?_) (by rintro x a ⟨f, -, -, rfl⟩; exact ⟨rfl, rfl⟩)
  have ends : FirstFailure (fun a => (bad x .a = true ∧ a = (row, x.1, 0)) ∨ (bad x .b = true ∧ a = (row, x.1, 1)))
      (if bad x .a = true then some (row, x.1, 0) else if bad x .b = true then some (row, x.1, 1) else none) := by
    have h := (firstFailure_ite (b := bad x .a = true) (row, x.1, 0)).or (firstFailure_ite (b := bad x .b = true) (row, x.1, 1))
      fun a b ⟨_, ha⟩ ⟨_, hb⟩ => by rw [ha, hb]; exact .inr ⟨rfl, .inr ⟨rfl, Nat.zero_le 1⟩⟩
    by_cases hb : bad x .a = true
    · rw [if_pos hb] at h ⊢; exact h
    · rw [if_neg hb] at h ⊢; exact h
  split
  · next hp =>
    refine ends.congr fun a => ⟨?_, ?_⟩
    · rintro (⟨hb, ha⟩ | ⟨hb, ha⟩)
      · exact ⟨.a, hp, hb, ha⟩
      · exact ⟨.b, hp, hb, ha⟩
    · rintro ⟨f, -, hb, ha⟩
      cases f
      · exact .inl ⟨hb, ha⟩
      · exact .inr ⟨hb, ha⟩
  · next hp => exact ⟨fun _ a ⟨_, h, _⟩ => hp h, nofun⟩

theorem firstFailure_badPoint (s : State) (row : Nat) (bad : Fin 24 → PointDef → Bool) :
    FirstFailure (pointFails s row bad) (badPoint s row bad) := by
  refine FirstFailure.findSome? (row := row) (fun p => ?_) (by rintro p a ⟨d, -, -, rfl⟩; exact ⟨rfl, rfl⟩)
  split
  · next d hd => exact (firstFailure_ite (b := bad p d = true) (row, p.1, 0)).congr fun a => by simp [hd]
  · next hd => exact ⟨fun _ a ⟨_, h, _⟩ => by simp [hd] at h, nofun⟩

theorem firstFailure_badCrossing (s : State) (row : Nat) (bad : CrossingDef → Bool) :
    FirstFailure (crossingFails s row bad) (badCrossing s row bad) := by
  refine FirstFailure.findSome? (row := row) (fun c => ?_) (by rintro c a ⟨d, -, -, rfl⟩; exact ⟨rfl, rfl⟩)
  split
  · next d hd => exact (firstFailure_ite (b := bad d = true) (row, c.1, 0)).congr fun a => by simp [hd]
  · next hd => exact ⟨fun _ a ⟨_, h, _⟩ => by simp [hd] at h, nofun⟩

/-- A check before others of higher numbers. -/
theorem FirstFailure.before {P Q : Nat × Nat × Nat → Prop} {o o' : Option (Nat × Nat × Nat)} {row : Nat} (h : FirstFailure P o)
    (hrow : ∀ a, P a → a.1 = row) (h' : FirstFailure Q o' ∧ ∀ a, Q a → row + 1 ≤ a.1) :
    FirstFailure (fun a => P a ∨ Q a) (o.or o') ∧ ∀ a, P a ∨ Q a → row ≤ a.1 :=
  ⟨h.or h'.1 fun a b ha hb => .inl (by rw [hrow a ha]; exact h'.2 b hb), fun a ha =>
    ha.elim (fun ha => (hrow a ha).ge) fun ha => Nat.le_of_succ_le (h'.2 a ha)⟩

theorem endFails_row {row : Nat} {bad : Fin 48 → End → Bool} (a : Nat × Nat × Nat) : endFails s row bad a → a.1 = row := by
  rintro ⟨x, f, -, -, rfl⟩; rfl

theorem pointFails_row {row : Nat} {bad : Fin 24 → PointDef → Bool} (a : Nat × Nat × Nat) : pointFails s row bad a → a.1 = row := by
  rintro ⟨p, d, -, -, rfl⟩; rfl

theorem crossingFails_row {row : Nat} {bad : CrossingDef → Bool} (a : Nat × Nat × Nat) : crossingFails s row bad a → a.1 = row := by
  rintro ⟨c, d, -, -, rfl⟩; rfl

/-- A check of section ends in the terms of its rule. -/
theorem endFails_iff {row : Nat} {bad : Fin 48 → End → Bool} {named : Fin 48 → End → Prop} (h : ∀ x f, bad x f = true ↔ named x f)
    (a : Nat × Nat × Nat) : endFails s row bad a ↔
      ∃ (x : Fin 48) (f : End), (s.track.defs.get x).present = true ∧ a.2.1 = x.1 ∧ a.2.2 = f.code ∧ a.1 = row ∧ named x f := by
  simp only [endFails, h, Prod.ext_iff]
  exact exists_congr fun x => exists_congr fun f => by tauto

theorem pointFails_iff {row : Nat} {bad : Fin 24 → PointDef → Bool} {named : Fin 24 → PointDef → Prop}
    (h : ∀ p d, bad p d = true ↔ named p d) (a : Nat × Nat × Nat) : pointFails s row bad a ↔
      ∃ (p : Fin 24) (d : PointDef), s.pointDef p = some d ∧ a.2.1 = p.1 ∧ a.2.2 = 0 ∧ a.1 = row ∧ named p d := by
  simp only [pointFails, h, Prod.ext_iff]
  exact exists_congr fun p => exists_congr fun d => by tauto

theorem crossingFails_iff {row : Nat} {bad : CrossingDef → Bool} {named : CrossingDef → Prop} (h : ∀ d, bad d = true ↔ named d)
    (a : Nat × Nat × Nat) : crossingFails s row bad a ↔
      ∃ (c : Fin 4) (d : CrossingDef), (s.track.crossings.get c).defn = some d ∧ a.2.1 = c.1 ∧ a.2.2 = 0 ∧ a.1 = row ∧ named d := by
  simp only [crossingFails, h, Prod.ext_iff]
  exact exists_congr fun c => exists_congr fun d => by tauto

/-! ## What each check names (R59) -/

/-- A link leads back to the end it is seen from: mirrored by a PLAIN link or by a leg of its point (R59, check 2). -/
def State.leadsTo (s : State) (y : Fin 48) (g : End) (x : Fin 48) (f : End) : Prop :=
  s.linkAt y g = .plain x f ∨ ∃ p d, s.linkAt y g = .point p ∧ s.pointDef p = some d ∧ (d.normal = ⟨x, f⟩ ∨ d.reverse = ⟨x, f⟩)

theorem mirrored_iff (x : Fin 48) (f : End) (y : Fin 48) (g : End) : mirrored s x f y g = true ↔ s.leadsTo y g x f := by
  unfold mirrored State.leadsTo
  cases s.linkAt y g with
  | buffer => simp
  | plain z e => simp
  | point p => cases hd : s.pointDef p <;> simp [hd]

/-- An end of a point's section carries the point as its toe; end A where both do (R57, R64). -/
def State.isToe (s : State) (d : PointDef) (p : Fin 24) (f : End) : Prop :=
  s.linkAt d.sec f = .point p ∧ (f = .b → s.linkAt d.sec .a ≠ .point p)

theorem toeEnd_eq_some_iff (p : Fin 24) (d : PointDef) (f : End) : toeEnd s p d = some f ↔ s.isToe d p f := by
  unfold toeEnd State.isToe
  cases f <;> split_ifs <;> simp_all

theorem toeEnd_eq_none_iff (p : Fin 24) (d : PointDef) : toeEnd s p d = none ↔ ∀ f, s.linkAt d.sec f ≠ .point p := by
  unfold toeEnd
  refine ⟨fun h f => ?_, fun h => by rw [if_neg (h .a), if_neg (h .b)]⟩
  split_ifs at h
  cases f <;> assumption

/-- A failure of the validation, in the terms of R59: its check's number, the item's index and the end. -/
def State.layoutFails (s : State) (a : Nat × Nat × Nat) : Prop :=
  (∃ (x : Fin 48) (f : End), (s.track.defs.get x).present = true ∧ a.2.1 = x.1 ∧ a.2.2 = f.code ∧
    ((a.1 = 0 ∧ ∃ y g, s.linkAt x f = .plain y g ∧ ¬(s.track.defs.get y).present = true) ∨
     (a.1 = 1 ∧ ∃ y g, s.linkAt x f = .plain y g ∧ ¬s.leadsTo y g x f) ∨
     (a.1 = 2 ∧ ∃ p, s.linkAt x f = .point p ∧ s.pointDef p = none) ∨
     (a.1 = 3 ∧ ∃ p d, s.linkAt x f = .point p ∧ s.pointDef p = some d ∧ d.sec ≠ x))) ∨
  (∃ (p : Fin 24) (d : PointDef), s.pointDef p = some d ∧ a.2.1 = p.1 ∧ a.2.2 = 0 ∧
    ((a.1 = 4 ∧ (¬(s.track.defs.get d.sec).present = true ∨ ∀ f, s.linkAt d.sec f ≠ .point p)) ∨
     (a.1 = 5 ∧ (¬(s.track.defs.get d.normal.sec).present = true ∨ ¬(s.track.defs.get d.reverse.sec).present = true)) ∨
     (a.1 = 6 ∧ ∃ leg, (leg = d.normal ∨ leg = d.reverse) ∧ ∀ f, s.isToe d p f → s.linkAt leg.sec leg.fin ≠ .plain d.sec f))) ∨
  ∃ (c : Fin 4) (d : CrossingDef), (s.track.crossings.get c).defn = some d ∧ a.2.1 = c.1 ∧ a.2.2 = 0 ∧
    ((a.1 = 7 ∧ ∃ x ∈ d.members, ¬(s.track.defs.get x).present = true) ∨ (a.1 = 8 ∧ (s.axes.get d.axis).kind ≠ .gate))

/-- A leg that does not lead to its point's toe (R59, check 7). -/
theorem legMissing_iff (p : Fin 24) (d : PointDef) (leg : Leg) :
    ((toeEnd s p d).any fun e => s.linkAt leg.sec leg.fin == .plain d.sec e) = false ↔
      ∀ f, s.isToe d p f → s.linkAt leg.sec leg.fin ≠ .plain d.sec f := by
  simp only [Option.any_eq_false, toeEnd_eq_some_iff, beq_eq_false_iff_ne, ne_eq]

/-- The validation finds its first failure by check, then by index, then by end (R59). -/
theorem firstFailure_layout (s : State) : FirstFailure s.layoutFails (layoutFailure s) := by
  have checks : FirstFailure _ (layoutFailure s) :=
    ((firstFailure_badEnd s 0 _).before endFails_row <| (firstFailure_badEnd s 1 _).before endFails_row <|
      (firstFailure_badEnd s 2 _).before endFails_row <| (firstFailure_badEnd s 3 _).before endFails_row <|
      (firstFailure_badPoint s 4 _).before pointFails_row <| (firstFailure_badPoint s 5 _).before pointFails_row <|
      (firstFailure_badPoint s 6 _).before pointFails_row <| (firstFailure_badCrossing s 7 _).before crossingFails_row
      ⟨firstFailure_badCrossing s 8 _, fun a ha => (crossingFails_row a ha).ge⟩).1
  refine checks.congr fun a => ?_
  rw [endFails_iff (named := fun x f => ∃ y g, s.linkAt x f = .plain y g ∧ ¬(s.track.defs.get y).present = true),
    endFails_iff (named := fun x f => ∃ y g, s.linkAt x f = .plain y g ∧ ¬s.leadsTo y g x f),
    endFails_iff (named := fun x f => ∃ p, s.linkAt x f = .point p ∧ s.pointDef p = none),
    endFails_iff (named := fun x f => ∃ p d, s.linkAt x f = .point p ∧ s.pointDef p = some d ∧ d.sec ≠ x),
    pointFails_iff (named := fun p d => ¬(s.track.defs.get d.sec).present = true ∨ ∀ f, s.linkAt d.sec f ≠ .point p),
    pointFails_iff (named := fun p d => ¬(s.track.defs.get d.normal.sec).present = true ∨ ¬(s.track.defs.get d.reverse.sec).present = true),
    pointFails_iff (named := fun p d => ∃ leg, (leg = d.normal ∨ leg = d.reverse) ∧
      ∀ f, s.isToe d p f → s.linkAt leg.sec leg.fin ≠ .plain d.sec f),
    crossingFails_iff (named := fun d => ∃ x ∈ d.members, ¬(s.track.defs.get x).present = true),
    crossingFails_iff (named := fun d => (s.axes.get d.axis).kind ≠ .gate)]
  · simp only [State.layoutFails, and_or_left, exists_or, or_assoc]
  · simp
  · simp
  · intro p d
    simp only [Bool.or_eq_true, Bool.not_eq_true', legMissing_iff, or_and_right, exists_or, exists_eq_left]
  · simp
  · simp [toeEnd_eq_none_iff]
  · intro x f; cases s.linkAt x f <;> simp [Option.any_eq_true]
  · intro x f; cases s.linkAt x f <;> simp
  · intro x f
    cases s.linkAt x f with
    | plain y g => simp [← mirrored_iff]
    | buffer => simp
    | point p => simp
  · intro x f; cases s.linkAt x f <;> simp

end Sys2Proof.Machine
end

section
/-! SUPPORT. The layout's definitions (R52, R55 to R58): links, members and ends as they are sent, and each request check by check. -/

namespace Sys2Proof

/-- A number is read as an index exactly when it is that index. -/
theorem fin?_eq_some_iff {n k : Nat} {i : Fin n} : fin? n k = some i ↔ k = i.1 := by
  refine ⟨fun h => ?_, fun h => h ▸ fin?_val i⟩
  unfold fin? at h
  split at h
  · exact congrArg Fin.val (Option.some.inj h)
  · cases h

theorem fin?_eq_none_iff {n k : Nat} : fin? n k = none ↔ n ≤ k := by
  refine ⟨fun h => ?_, fin?_of_le⟩
  by_contra hlt
  rw [fin?_of_lt (not_le.mp hlt)] at h
  cases h

end Sys2Proof

namespace Sys2Proof.Machine

variable {s : State}

/-! ## Numbers and words (R172) -/

@[simp] theorem endOf_code (e : End) : endOf e.code = some e := by cases e <;> rfl

@[simp] theorem senseOf_code (e : Sense) : senseOf e.code = some e := by cases e <;> rfl

@[simp] theorem reserveModeOf_code (m : ReserveMode) : reserveModeOf m.code = some m := by cases m <;> rfl

@[simp] theorem axisKindOf_code (k : AxisKind) : axisKindOf k.code = some k := by cases k <;> rfl

theorem endOf_beyond {n : Nat} (h : 1 < n) : endOf n = none := by
  obtain ⟨k, rfl⟩ := Nat.exists_eq_add_of_le' h
  rfl

theorem senseOf_beyond {n : Nat} (h : 1 < n) : senseOf n = none := by
  obtain ⟨k, rfl⟩ := Nat.exists_eq_add_of_le' h
  rfl

theorem reserveModeOf_beyond {n : Nat} (h : 1 < n) : reserveModeOf n = none := by
  obtain ⟨k, rfl⟩ := Nat.exists_eq_add_of_le' h
  rfl

theorem axisKindOf_beyond {n : Nat} (h : 2 < n) : axisKindOf n = none := by
  obtain ⟨k, rfl⟩ := Nat.exists_eq_add_of_le' h
  rfl

theorem End.code_injective {e f : End} (h : e.code = f.code) : e = f := Option.some.inj (by rw [← endOf_code, h, endOf_code])

theorem endOf_of_le {n : Nat} (h : n ≤ 1) : ∃ e : End, n = e.code := by
  obtain rfl | rfl := Nat.le_one_iff_eq_zero_or_eq_one.mp h
  · exact ⟨.a, rfl⟩
  · exact ⟨.b, rfl⟩

/-! ## Links as they are sent (R55) -/

theorem readLink_plain (x : Fin 48) (e : End) : readLink { kind := 1, index := x.1, fin := e.code } = .ok (.plain x e) := by
  simp only [readLink, fin?_val, endOf_code]

theorem readLink_point (p : Fin 24) (n : Nat) : readLink { kind := 2, index := p.1, fin := n } = .ok (.point p) := by
  simp only [readLink, fin?_val]

/-- A check of a link that R55 names: its kind, then what a PLAIN link or a POINT link leads to. -/
def linkFails (l : RawLink) (row : Nat) : Prop :=
  (row = 1 ∧ 2 < l.kind) ∨ (row = 2 ∧ l.kind = 1 ∧ (47 < l.index ∨ 1 < l.fin)) ∨ (row = 3 ∧ l.kind = 2 ∧ 23 < l.index)

/-- A link is refused by the one check it fails. -/
theorem readLink_eq_error_iff (l : RawLink) (row : Nat) : readLink l = .error row ↔ linkFails l row := by
  obtain ⟨kind, index, fin⟩ := l
  match kind with
  | 0 => simp [readLink, linkFails]
  | 1 =>
    by_cases hx : 47 < index
    · simp [readLink, linkFails, fin?_of_le (n := 48) hx, hx, eq_comm]
    · obtain ⟨x, rfl⟩ : ∃ x : Fin 48, index = x.1 := ⟨⟨index, by omega⟩, rfl⟩
      by_cases he : 1 < fin
      · simp [readLink, linkFails, endOf_beyond he, he, eq_comm]
      · obtain ⟨e, rfl⟩ := endOf_of_le (not_lt.mp he)
        simp [readLink_plain, linkFails, hx, he]
  | 2 =>
    by_cases hp : 23 < index
    · simp [readLink, linkFails, fin?_of_le (n := 24) hp, hp, eq_comm]
    · obtain ⟨p, rfl⟩ : ∃ p : Fin 24, index = p.1 := ⟨⟨index, by omega⟩, rfl⟩
      simp [readLink_point, linkFails, hp]
  | k + 3 => simp [readLink, linkFails, eq_comm]

theorem readLink_ok_or (l : RawLink) : (∃ k, readLink l = .ok k) ∨ ∃ row, readLink l = .error row ∧ linkFails l row := by
  cases h : readLink l with
  | ok k => exact .inl ⟨k, rfl⟩
  | error row => exact .inr ⟨row, rfl, (readLink_eq_error_iff l row).mp h⟩

/-! ## SECTION_DEFINE and SECTION_FORGET (R52, R55, R56) -/

section
variable {x : Fin 48} {a b : RawLink} {la lb : Link} {clearance filter : Nat}

theorem doSectionDefine_notEditing {sec : Nat} (h : s.track.config ≠ .editing) :
    doSectionDefine sec a b clearance filter s = (s, refuse .wrongState) := if_pos h

theorem doSectionForget_notEditing {sec : Nat} (h : s.track.config ≠ .editing) : doSectionForget sec s = (s, refuse .wrongState) := if_pos h

theorem doSectionDefine_beyond {sec : Nat} (h : s.track.config = .editing) (hx : 47 < sec) : doSectionDefine sec a b clearance filter s = (s, refuse .outOfRange) := by
  rw [doSectionDefine, if_neg (not_not.mpr h), fin?_of_le hx]

/-- Of two links that fail, end A's is named unless end B's fails an earlier check (log entry 59). -/
theorem doSectionDefine_failsA {row : Nat} (h : s.track.config = .editing) (ha : linkFails a row) (hb : ∀ row', linkFails b row' → row ≤ row') :
    doSectionDefine x.1 a b clearance filter s = (s, refuseAt .outOfRange row 0 0) := by
  rw [doSectionDefine, if_neg (not_not.mpr h), fin?_val, (readLink_eq_error_iff a row).mpr ha]
  obtain ⟨k, hk⟩ | ⟨row', hk, hf⟩ := readLink_ok_or b
  · simp only [hk]
  · simp only [hk, if_pos (hb row' hf)]

theorem doSectionDefine_failsB {row : Nat} (h : s.track.config = .editing) (hb : linkFails b row) (ha : ∀ row', linkFails a row' → row < row') :
    doSectionDefine x.1 a b clearance filter s = (s, refuseAt .outOfRange row 0 1) := by
  rw [doSectionDefine, if_neg (not_not.mpr h), fin?_val, (readLink_eq_error_iff b row).mpr hb]
  obtain ⟨k, hk⟩ | ⟨row', hk, hf⟩ := readLink_ok_or a
  · simp only [hk]
  · simp only [hk, if_neg (not_le.mpr (ha row' hf))]

/-- With both links read the checks of R55 that compare them follow. -/
theorem doSectionDefine_read (h : s.track.config = .editing) (ha : readLink a = .ok la) (hb : readLink b = .ok lb) :
    doSectionDefine x.1 a b clearance filter s =
      if la = .plain x .a then (s, refuseAt .invalid 4 0 0)
      else if lb = .plain x .b then (s, refuseAt .invalid 4 0 1)
      else if ∃ p, la = .point p ∧ lb = .point p then (s, refuseAt .invalid 5 0 1)
      else (s.modTrack fun k => { k with defs := k.defs.modify x fun d =>
          { d with present := true, linkA := la, linkB := lb, clearance := min 5000 clearance, filter := max 20 (min 2000 filter) } },
        { code := .ok, clamped := decide (5000 < clearance) || decide (filter < 20) || decide (2000 < filter), data := [] }) := by
  rw [doSectionDefine, if_neg (not_not.mpr h), fin?_val, ha, hb]
  refine if_congr Iff.rfl rfl (if_congr Iff.rfl rfl (if_congr ?_ rfl rfl))
  cases la with
  | buffer => simp
  | plain y e => simp
  | point p =>
    cases lb with
    | buffer => simp
    | plain y e => simp
    | point q => simpa using eq_comm

theorem doSectionDefine_ownEndA (h : s.track.config = .editing) (ha : readLink a = .ok (.plain x .a)) (hb : readLink b = .ok lb) :
    doSectionDefine x.1 a b clearance filter s = (s, refuseAt .invalid 4 0 0) :=
  (doSectionDefine_read h ha hb).trans (if_pos rfl)

theorem doSectionDefine_ownEndB (h : s.track.config = .editing) (ha : readLink a = .ok la) (hna : la ≠ .plain x .a)
    (hb : readLink b = .ok (.plain x .b)) : doSectionDefine x.1 a b clearance filter s = (s, refuseAt .invalid 4 0 1) :=
  (doSectionDefine_read h ha hb).trans ((if_neg hna).trans (if_pos rfl))

theorem doSectionDefine_samePoint {p : Fin 24} (h : s.track.config = .editing) (ha : readLink a = .ok (.point p))
    (hb : readLink b = .ok (.point p)) : doSectionDefine x.1 a b clearance filter s = (s, refuseAt .invalid 5 0 1) := by
  rw [doSectionDefine_read h ha hb, if_neg nofun, if_neg nofun, if_pos ⟨p, rfl, rfl⟩]

theorem doSectionDefine_stored (h : s.track.config = .editing) (ha : readLink a = .ok la) (hb : readLink b = .ok lb)
    (hna : la ≠ .plain x .a) (hnb : lb ≠ .plain x .b) (hp : ∀ p, la = .point p → lb ≠ .point p) :
    doSectionDefine x.1 a b clearance filter s =
      (s.modTrack fun k => { k with defs := k.defs.modify x fun d =>
          { d with present := true, linkA := la, linkB := lb, clearance := min 5000 clearance, filter := max 20 (min 2000 filter) } },
        { code := .ok, clamped := decide (5000 < clearance) || decide (filter < 20) || decide (2000 < filter), data := [] }) := by
  rw [doSectionDefine_read h ha hb, if_neg hna, if_neg hnb, if_neg fun ⟨p, hpa, hpb⟩ => hp p hpa hpb]

theorem doSectionForget_beyond {sec : Nat} (h : s.track.config = .editing) (hx : 47 < sec) : doSectionForget sec s = (s, refuse .outOfRange) := by
  rw [doSectionForget, if_neg (not_not.mpr h), fin?_of_le hx]

theorem doSectionForget_member {c : Fin 4} (h : s.track.config = .editing) (hm : (s.track.defs.get x).crossing = some c) :
    doSectionForget x.1 s = (s, refuseAt .inUse 0 c.1 0) := by
  rw [doSectionForget, if_neg (not_not.mpr h), fin?_val]
  simp only [hm]

theorem doSectionForget_forgets (h : s.track.config = .editing) (hm : (s.track.defs.get x).crossing = none) :
    doSectionForget x.1 s = (s.modTrack fun k => { k with defs := k.defs.set x SectionDef.initial }, okay) := by
  rw [doSectionForget, if_neg (not_not.mpr h), fin?_val]
  simp only [hm]

end

/-! ## Lists of sections as they are sent (R58, R88, R91) -/

theorem readSections_val (l : List (Fin 48)) (i : Nat) : readSections (l.map Fin.val) i = .ok l := by
  induction l generalizing i with
  | nil => rfl
  | cons x l ih => rw [List.map_cons, readSections, fin?_val]; simp only [ih]

/-- The first section beyond the part's is named (log entry 32). -/
theorem readSections_beyond {before : List Nat} (h : ∀ y ∈ before, y ≤ 47) {x : Nat} (hx : 47 < x) (after : List Nat) (i : Nat) :
    readSections (before ++ x :: after) i = .error (i + before.length) := by
  induction before generalizing i with
  | nil => rw [List.nil_append, readSections, fin?_of_le hx]; rfl
  | cons y before ih =>
    obtain ⟨hy, hb⟩ := List.forall_mem_cons.mp h
    rw [List.cons_append, readSections, fin?_of_lt (n := 48) (Nat.lt_succ_of_le hy)]
    simp only [ih hb, List.length_cons]
    congr 1
    omega

theorem readSections_of_le {l : List Nat} (h : ∀ y ∈ l, y ≤ 47) (i : Nat) : ∃ xs, readSections l i = .ok xs ∧ xs.map Fin.val = l := by
  refine ⟨l.pmap (fun y hy => ⟨y, Nat.lt_succ_of_le hy⟩) h, ?_, by simp [List.map_pmap]⟩
  rw [← readSections_val _ i, List.map_pmap]
  simp

/-- What is read as sections names them. -/
theorem readSections_ok {l : List Nat} {xs : List (Fin 48)} {i : Nat} (h : readSections l i = .ok xs) : l = xs.map Fin.val := by
  induction l generalizing i xs with
  | nil => cases h; rfl
  | cons k l ih =>
    rw [readSections] at h
    split at h
    · cases h
    · next x hx =>
      split at h
      · next ys hys =>
        cases h
        rw [List.map_cons, ← ih hys, fin?_eq_some_iff.mp hx]
      · cases h

/-! ## The first repeat of a list (R58, R88, R91; log entry 57) -/

/-- Of the numbers below `n` the first that passes a test is named. -/
theorem firstIdx_range {test : Nat → Bool} {n k : Nat} (hk : k < n) (hb : ∀ i < k, test i = false) (ht : test k = true) :
    firstIdx test (List.range n) 0 = some k := by
  have hsplit : List.range n = List.range k ++ k :: List.range' (k + 1) (n - (k + 1)) := by
    have hn : n = k + (n - (k + 1) + 1) := by omega
    rw [← List.range'_succ, List.range_eq_range', List.range_eq_range', ← Nat.zero_add k, Nat.zero_add k]
    conv_lhs => rw [hn]
    simpa using (List.range'_append (s := 0) (m := k) (n := n - (k + 1) + 1) (step := 1)).symm
  rw [hsplit, firstIdx_append (fun i hi => hb i (List.mem_range.mp hi)) ht, List.length_range, Nat.zero_add]

/-- An item of a list without repeats does not stand among those before it. -/
theorem getElem_notMem_take {α : Type} {l : List α} (hn : l.Nodup) {i : Nat} (hi : i < l.length) : l[i] ∉ l.take i := by
  intro hmem
  obtain ⟨j, hj, e⟩ := List.mem_take_iff_getElem.mp hmem
  have := (hn.getElem_inj_iff).mp e
  omega

/-- Whether the item at an index repeats one before it or is `bad` by itself. -/
def clashesAt (bad : Fin 48 → Bool) (l : List (Fin 48)) (i : Nat) : Bool := (l.take i).contains (l.getD i 0) || bad (l.getD i 0)

theorem clashesAt_eq_false {bad : Fin 48 → Bool} {before : List (Fin 48)} (hn : before.Nodup) (hb : ∀ y ∈ before, bad y = false)
    (rest : List (Fin 48)) {i : Nat} (hi : i < before.length) : clashesAt bad (before ++ rest) i = false := by
  have hget : (before ++ rest).getD i 0 = before[i] := by
    rw [List.getD_append _ _ _ _ hi, List.getD_eq_getElem _ _ hi]
  rw [clashesAt, hget, List.take_append_of_le_length hi.le, hb _ (List.getElem_mem hi), Bool.or_false]
  simpa using getElem_notMem_take hn hi

theorem clashesAt_eq_true {bad : Fin 48 → Bool} {before : List (Fin 48)} {x : Fin 48} (h : x ∈ before ∨ bad x = true)
    (after : List (Fin 48)) : clashesAt bad (before ++ x :: after) before.length = true := by
  simpa [clashesAt, List.getD] using h

/-- The first item that clashes is named. -/
theorem firstIdx_clash {bad : Fin 48 → Bool} {before : List (Fin 48)} {x : Fin 48} (hn : before.Nodup)
    (hb : ∀ y ∈ before, bad y = false) (hx : x ∈ before ∨ bad x = true) (after : List (Fin 48)) :
    firstIdx (clashesAt bad (before ++ x :: after)) (List.range (before ++ x :: after).length) 0 = some before.length :=
  firstIdx_range (by simp) (fun _ hi => clashesAt_eq_false hn hb _ hi) (clashesAt_eq_true hx after)

theorem firstIdx_noClash {bad : Fin 48 → Bool} {l : List (Fin 48)} (hn : l.Nodup) (hb : ∀ y ∈ l, bad y = false) :
    firstIdx (clashesAt bad l) (List.range l.length) 0 = none :=
  firstIdx_none (fun i hi => by simpa using clashesAt_eq_false hn hb [] (List.mem_range.mp hi)) 0

theorem firstRepeat_eq (l : List (Fin 48)) : firstRepeat l = firstIdx (clashesAt (fun _ => false) l) (List.range l.length) 0 := by
  refine congrArg (fun test => firstIdx test (List.range l.length) 0) (funext fun i => ?_)
  rw [clashesAt, Bool.or_false]

theorem firstRepeat_none {l : List (Fin 48)} (hn : l.Nodup) : firstRepeat l = none :=
  (firstRepeat_eq l).trans (firstIdx_noClash hn fun _ _ => rfl)

theorem firstRepeat_append {before : List (Fin 48)} {x : Fin 48} (hn : before.Nodup) (hx : x ∈ before) (after : List (Fin 48)) :
    firstRepeat (before ++ x :: after) = some before.length :=
  (firstRepeat_eq _).trans (firstIdx_clash hn (fun _ _ => rfl) (.inl hx) after)

/-! ## POINT_DEFINE (R52, R57) -/

theorem doPointDefine_notEditing {point : Nat} {d : Option RawPoint} (h : s.track.config ≠ .editing) :
    doPointDefine point d s = (s, refuse .wrongState) := if_pos h

theorem doCrossingDefine_notEditing {crossing : Nat} {d : Option RawCrossing} (h : s.track.config ≠ .editing) :
    doCrossingDefine crossing d s = (s, refuse .wrongState) := if_pos h

section
variable {p : Fin 24} {x n v : Fin 48} {ne ve : End}

theorem doPointDefine_beyond {point : Nat} {d : Option RawPoint} (h : s.track.config = .editing) (hp : 23 < point) : doPointDefine point d s = (s, refuse .outOfRange) := by
  rw [doPointDefine, if_neg (not_not.mpr h), fin?_of_le hp]

theorem doPointDefine_forgets (h : s.track.config = .editing) (hp : s.pulsing p = false) :
    doPointDefine p.1 none s = (s.modPoint p fun r => { r with defn := none, position := .unknown }, okay) := by
  rw [doPointDefine, if_neg (not_not.mpr h), fin?_val]
  exact if_neg (by simp [hp])

theorem doPointDefine_forgetPulsing (h : s.track.config = .editing) (hp : s.pulsing p = true) :
    doPointDefine p.1 none s = (s, refuse .inUse) := by
  rw [doPointDefine, if_neg (not_not.mpr h), fin?_val]
  exact if_pos hp

/-- A definition in range: the pulse, then the legs, then the record (log entry 52). -/
theorem doPointDefine_pulsing {pulse : Nat} (h : s.track.config = .editing) (hp : s.pulsing p = true) :
    doPointDefine p.1 (some ⟨x.1, n.1, ne.code, v.1, ve.code, pulse⟩) s = (s, refuse .inUse) := by
  rw [doPointDefine, if_neg (not_not.mpr h), fin?_val]
  simp only [fin?_val, endOf_code, hp, if_true]

theorem doPointDefine_equalLegs {pulse : Nat} (h : s.track.config = .editing) (hp : s.pulsing p = false) :
    doPointDefine p.1 (some ⟨x.1, n.1, ne.code, n.1, ne.code, pulse⟩) s = (s, refuse .invalid) := by
  rw [doPointDefine, if_neg (not_not.mpr h), fin?_val]
  simp only [fin?_val, endOf_code, hp, Bool.false_eq_true, if_false, if_true]

theorem doPointDefine_stored {pulse : Nat} (h : s.track.config = .editing) (hp : s.pulsing p = false) (hlegs : (n, ne) ≠ (v, ve)) :
    doPointDefine p.1 (some ⟨x.1, n.1, ne.code, v.1, ve.code, pulse⟩) s =
      (s.modPoint p fun r => { r with
          defn := some { sec := x, normal := ⟨n, ne⟩, reverse := ⟨v, ve⟩ }
          position := if r.defn.isSome then r.position else .unknown
          pulse := max 50 (min 1000 pulse) },
        { code := .ok, clamped := decide (pulse < 50) || decide (1000 < pulse), data := [] }) := by
  have hne : (⟨n, ne⟩ : Leg) ≠ ⟨v, ve⟩ := fun e => hlegs (by cases e; rfl)
  rw [doPointDefine, if_neg (not_not.mpr h), fin?_val]
  simp only [fin?_val, endOf_code, hp, Bool.false_eq_true, if_false, if_neg hne]
  rfl

theorem doPointDefine_outOfRange {d : RawPoint} (h : s.track.config = .editing)
    (hd : ¬(d.section_ ≤ 47 ∧ d.normalSection ≤ 47 ∧ d.normalEnd ≤ 1 ∧ d.reverseSection ≤ 47 ∧ d.reverseEnd ≤ 1)) :
    doPointDefine p.1 (some d) s = (s, refuse .outOfRange) := by
  rw [doPointDefine, if_neg (not_not.mpr h), fin?_val]
  dsimp only
  split
  · next x n ne v ve hx hn hne hv hve =>
    have hend {m : Nat} {e : End} (he : endOf m = some e) : m ≤ 1 := by
      by_contra hm
      rw [endOf_beyond (not_le.mp hm)] at he
      cases he
    rw [fin?_eq_some_iff] at hx hn hv
    exact absurd ⟨by omega, by omega, hend hne, by omega, hend hve⟩ hd
  · rfl

end

/-- A definition in range names a section, two legs and their ends. -/
theorem rawPoint_inRange {d : RawPoint}
    (hd : d.section_ ≤ 47 ∧ d.normalSection ≤ 47 ∧ d.normalEnd ≤ 1 ∧ d.reverseSection ≤ 47 ∧ d.reverseEnd ≤ 1) :
    ∃ (x n v : Fin 48) (ne ve : End), d = ⟨x.1, n.1, ne.code, v.1, ve.code, d.pulse⟩ := by
  obtain ⟨hx, hn, hne, hv, hve⟩ := hd
  obtain ⟨ne, hne⟩ := endOf_of_le hne
  obtain ⟨ve, hve⟩ := endOf_of_le hve
  refine ⟨⟨d.section_, by omega⟩, ⟨d.normalSection, by omega⟩, ⟨d.reverseSection, by omega⟩, ne, ve, ?_⟩
  rw [← hne, ← hve]

/-! ## CROSSING_DEFINE (R52, R58) -/

/-- A section is a member of another crossing than `c` (R58). -/
def State.memberElsewhere (s : State) (c : Fin 4) (x : Fin 48) : Prop := ∃ k, (s.track.defs.get x).crossing = some k ∧ k ≠ c

theorem memberElsewhere_iff (c : Fin 4) (x : Fin 48) :
    ((s.track.defs.get x).crossing.any fun k => k != c) = true ↔ s.memberElsewhere c x := by
  simp [State.memberElsewhere, Option.any_eq_true]

theorem memberTaken_append {c : Fin 4} {before : List (Fin 48)} {x : Fin 48} (hb : ∀ y ∈ before, ¬s.memberElsewhere c y)
    (hx : s.memberElsewhere c x) (after : List (Fin 48)) : memberTaken s c (before ++ x :: after) = some x := by
  have hnone : before.find? (fun x => (s.track.defs.get x).crossing.any fun k => k != c) = none :=
    List.find?_eq_none.mpr fun y hy => (memberElsewhere_iff c y).not.mpr (hb y hy)
  rw [memberTaken, List.find?_append, hnone, Option.none_or]
  exact List.find?_cons_of_pos ((memberElsewhere_iff c x).mpr hx)

theorem memberTaken_none {c : Fin 4} {l : List (Fin 48)} (h : ∀ x ∈ l, ¬s.memberElsewhere c x) : memberTaken s c l = none :=
  List.find?_eq_none.mpr fun x hx => (memberElsewhere_iff c x).not.mpr (h x hx)

/-- A crossing has an axis as its gate axis. -/
def State.gateAxisOf (s : State) (k : Fin 4) (a : Fin 8) : Prop := ∃ d, (s.track.crossings.get k).defn = some d ∧ d.axis = a

theorem gateAxisOf_iff (k : Fin 4) (a : Fin 8) :
    ((s.track.crossings.get k).defn.any fun d => d.axis == a) = true ↔ s.gateAxisOf k a := by
  simp [State.gateAxisOf, Option.any_eq_true]

theorem mem_crossingsOf {k : Fin 4} {a : Fin 8} : k ∈ s.crossingsOf a ↔ s.gateAxisOf k a := by
  rw [State.crossingsOf, List.mem_filter, gateAxisOf_iff]
  exact and_iff_right (mem_indices k)

/-- Of the other crossings with an axis the lowest is named (log entry 57). -/
theorem axisTaken_eq_some {c k : Fin 4} {a : Fin 8} (hk : s.gateAxisOf k a) (hne : k ≠ c)
    (hmin : ∀ j, j < k → j ≠ c → ¬s.gateAxisOf j a) : axisTaken s c a = some k := by
  refine (find?_ascending ((indices_ascending 4).filter _) _ k).mpr ⟨mem_crossingsOf.mpr hk, by simpa using hne, fun j hj hc => ?_⟩
  by_contra hlt
  exact hmin j (not_le.mp hlt) (by simpa using hc) (mem_crossingsOf.mp hj)

theorem axisTaken_none {c : Fin 4} {a : Fin 8} (h : ∀ k, s.gateAxisOf k a → k = c) : axisTaken s c a = none :=
  List.find?_eq_none.mpr fun k hk => by simpa using h k (mem_crossingsOf.mp hk)

section
variable {c : Fin 4} {a : Fin 8} {members : List (Fin 48)} {delay timeout : Nat}

theorem doCrossingDefine_beyond {crossing : Nat} {d : Option RawCrossing} (h : s.track.config = .editing) (hc : 3 < crossing) :
    doCrossingDefine crossing d s = (s, refuse .outOfRange) := by
  rw [doCrossingDefine, if_neg (not_not.mpr h), fin?_of_le hc]

theorem doCrossingDefine_none (h : s.track.config = .editing) : doCrossingDefine c.1 none s = (s.modTrack fun k => { k with
    defs := k.defs.map (unmember c), crossings := k.crossings.modify c fun r => { r with defn := none } }, okay) := by
  rw [doCrossingDefine, if_neg (not_not.mpr h), fin?_val]

theorem doCrossingDefine_outOfRange {d : RawCrossing} (h : s.track.config = .editing)
    (hd : 7 < d.axis ∨ d.members.length < 1 ∨ 4 < d.members.length ∨ ∃ x ∈ d.members, 47 < x) :
    doCrossingDefine c.1 (some d) s = (s, refuse .outOfRange) := by
  rw [doCrossingDefine, if_neg (not_not.mpr h), fin?_val]
  dsimp only
  split
  · rfl
  · next a ha =>
    rw [fin?_eq_some_iff] at ha
    split
    · rfl
    · have hlong : ∃ x ∈ d.members, 47 < x := by
        rcases hd with hd | hd | hd | hd
        · omega
        · omega
        · omega
        · exact hd
      split
      · rfl
      · next l hl =>
        obtain ⟨x, hx, hbad⟩ := hlong
        rw [readSections_ok hl] at hx
        obtain ⟨y, -, rfl⟩ := List.mem_map.mp hx
        omega

theorem doCrossingDefine_repeat {i : Nat} (h : s.track.config = .editing) (h1 : 1 ≤ members.length) (h4 : members.length ≤ 4) (hr : firstRepeat members = some i) :
    doCrossingDefine c.1 (some ⟨a.1, delay, timeout, members.map Fin.val⟩) s = (s, refuseAt .invalid 3 i 0) := by
  rw [doCrossingDefine, if_neg (not_not.mpr h), fin?_val]
  simp only [fin?_val, readSections_val, List.length_map, if_neg (show ¬(members.length < 1 ∨ 4 < members.length) by omega), hr]

theorem doCrossingDefine_memberTaken {x : Fin 48} (h : s.track.config = .editing) (h1 : 1 ≤ members.length) (h4 : members.length ≤ 4)
    (hr : firstRepeat members = none) (hm : memberTaken s c members = some x) :
    doCrossingDefine c.1 (some ⟨a.1, delay, timeout, members.map Fin.val⟩) s = (s, refuseAt .inUse 4 x.1 0) := by
  rw [doCrossingDefine, if_neg (not_not.mpr h), fin?_val]
  simp only [fin?_val, readSections_val, List.length_map, if_neg (show ¬(members.length < 1 ∨ 4 < members.length) by omega), hr, hm]

theorem doCrossingDefine_axisTaken {k : Fin 4} (h : s.track.config = .editing) (h1 : 1 ≤ members.length) (h4 : members.length ≤ 4)
    (hr : firstRepeat members = none) (hm : memberTaken s c members = none) (ha : axisTaken s c a = some k) :
    doCrossingDefine c.1 (some ⟨a.1, delay, timeout, members.map Fin.val⟩) s = (s, refuseAt .inUse 5 k.1 0) := by
  rw [doCrossingDefine, if_neg (not_not.mpr h), fin?_val]
  simp only [fin?_val, readSections_val, List.length_map, if_neg (show ¬(members.length < 1 ∨ 4 < members.length) by omega), hr, hm, ha]

/-- A crossing takes its members, and only those, and its axis (R58). -/
theorem doCrossingDefine_stored (h : s.track.config = .editing) (h1 : 1 ≤ members.length) (h4 : members.length ≤ 4)
    (hr : firstRepeat members = none) (hm : memberTaken s c members = none) (ha : axisTaken s c a = none) :
    doCrossingDefine c.1 (some ⟨a.1, delay, timeout, members.map Fin.val⟩) s =
      (s.modTrack fun k => { k with
          defs := .ofFn fun x => { k.defs.get x with
            crossing := if x ∈ members then some c else if (k.defs.get x).crossing = some c then none else (k.defs.get x).crossing }
          crossings := k.crossings.set c { defn := some { axis := a, members := members }, openDelay := min 10000 delay
                                           gateTimeout := max 500 (min 20000 timeout) } },
        { code := .ok, clamped := decide (10000 < delay) || decide (timeout < 500) || decide (20000 < timeout), data := [] }) := by
  have hdefs (t : Table SectionDef 48) :
      ((t.map (unmember c)).mapIdx fun x r => if members.contains x then { r with crossing := some c } else r) =
        .ofFn fun x => { t.get x with
          crossing := if x ∈ members then some c else if (t.get x).crossing = some c then none else (t.get x).crossing } := by
    refine Table.ext_get fun x => ?_
    rw [Table.mapIdx, Table.get_ofFn, Table.get_ofFn, Table.get_map, unmember, List.contains_eq_mem]
    by_cases hx : x ∈ members <;> by_cases hc : (t.get x).crossing = some c <;> simp [hx, hc]
  rw [doCrossingDefine, if_neg (not_not.mpr h), fin?_val]
  simp only [fin?_val, readSections_val, List.length_map, if_neg (show ¬(members.length < 1 ∨ 4 < members.length) by omega), hr, hm, ha, hdefs]
  rfl

end

end Sys2Proof.Machine
end


section
/-! SUPPORT. Claims, grants and clearances (R63, R69 to R73, R93): the throw queue, the points of a move, a grant by the throw it needs,
its completion, and what a section's change of state does. -/

namespace Sys2Proof.Machine

variable {s : State}

/-! ## What leaves the throw queue (R70, R72, R74) -/

/-- Dropped throws change the queue, and put off an examination of the new head when the old one went. -/
theorem dropThrows_eq (drop : ThrowEntry → Bool) (s : State) : dropThrows drop s =
    if s.track.queue.head?.any drop then (s.setQueue (s.track.queue.filter fun q => !drop q)).later .examine
    else s.setQueue (s.track.queue.filter fun q => !drop q) := rfl

theorem dropThrows_keeps (drop : ThrowEntry → Bool) (s : State) :
    (dropThrows drop s).track = { s.track with queue := s.track.queue.filter fun q => !drop q } ∧ (dropThrows drop s).trains = s.trains := by
  rw [dropThrows_eq]
  split <;> exact ⟨rfl, rfl⟩

@[simp] theorem dropRequestThrows_trains (x : Fin 48) (s : State) : (dropRequestThrows x s).trains = s.trains := (dropThrows_keeps _ s).2

@[simp] theorem dropRequestThrows_frontOf (x : Fin 48) (s : State) (t : Fin 8) : (dropRequestThrows x s).frontOf t = s.frontOf t := by
  rw [State.frontOf, State.heldOf, dropRequestThrows_trains]
  rfl

/-- The queued throws of grants for a section. -/
def ThrowEntry.grantsFor (x : Fin 48) (q : ThrowEntry) : Bool := match q.origin with | .grant _ y => y == x | .request => false

theorem ThrowEntry.grantsFor_iff (x : Fin 48) (q : ThrowEntry) : q.grantsFor x = true ↔ ∃ u, q.origin = .grant u x := by
  unfold ThrowEntry.grantsFor
  cases q.origin <;> simp

theorem dropGrantThrow_eq (x : Fin 48) (s : State) : dropGrantThrow x s = dropThrows (ThrowEntry.grantsFor x) s := rfl

theorem dropGrantThrow_work {x : Fin 48} (h : s.track.queue.head?.any (ThrowEntry.grantsFor x) = false) :
    (dropGrantThrow x s).work = s.work := by
  rw [dropGrantThrow_eq, dropThrows_eq, if_neg (by simp [h])]
  rfl

theorem mem_dropGrantThrow {x : Fin 48} {q : ThrowEntry} :
    q ∈ (dropGrantThrow x s).track.queue ↔ q ∈ s.track.queue ∧ ∀ u, q.origin ≠ .grant u x := by
  rw [dropGrantThrow_eq, (dropThrows_keeps _ s).1, List.mem_filter, Bool.not_eq_true', ← Bool.not_eq_true, ThrowEntry.grantsFor_iff, not_exists]

/-! ## The clearance (R73) -/

theorem expireSec_free {x : Fin 48} (h : s.sec x = .clearing 0) (hw : (s.track.runs.get x).waiting = []) :
    expireSec x s = (setSec x .free s).raise (.sectionFree x) := by
  simp only [expireSec, h, hw, if_true]

theorem expireSec_grants {x : Fin 48} {t : Fin 8} {rest : List (Fin 8)} {e : End} (h : s.sec x = .clearing 0)
    (hw : (s.track.runs.get x).waiting = t :: rest) (hc : (s.trains.get t).claim = .waiting x e) :
    expireSec x s = grant t x e ((setSec x .free s).raise (.sectionFree x)) := by
  simp only [expireSec, h, hw, hc, if_true]

/-- CLEARANCE_EXPIRY with the timer at 0 takes the expiry, and else leaves the state (log entry 2). -/
theorem exec_clearanceExpiry_due {x : Fin 48} (hw : s.work.isClear = true) (h : s.sec x = .clearing 0) :
    exec (.clearanceExpiry x.1) s = .next (finish (expireSec x s)) := by
  refine (perform_clear hw _).trans (congrArg _ ((forItem_val x _ s).trans (if_pos ?_)))
  exact beq_iff_eq.mpr h

theorem exec_clearanceExpiry_running {x : Fin 48} (hw : s.work.isClear = true) (h : s.sec x ≠ .clearing 0) :
    exec (.clearanceExpiry x.1) s = .next s := by
  refine (perform_clear hw _).trans (congrArg _ ((forItem_val x _ s).trans (if_neg ?_)))
  exact beq_iff_eq.not.mpr h

/-! ## A claim (R69, R93) -/

theorem testClaim_claims {t : Fin 8} {x : Fin 48} {e : End} {rest : List (Fin 48 × End)} (hq : (s.trains.get t).queue = (x, e) :: rest)
    (hc : (s.trains.get t).claim = .none) (hl : (s.trains.get t).held.length < 16) (hh : (s.trains.get t).halt = none)
    (hp : (s.trains.get t).placed = true) :
    testClaim t s =
      let claimed := s.modTrain t fun y => { y with queue := rest, claim := .waiting x e }
      if s.sec x = .free then grant t x e claimed else claimed.modRun x fun r => { r with waiting := r.waiting ++ [t] } := by
  have hclaims : (s.trains.get t).claims = true := by simp [Train.claims, hq, hc, hh, hp, Config.heldRoom, hl]
  simp only [testClaim, hclaims, if_true, hq]

/-! ## The point a move needs (R63) -/

section
variable {a b : Fin 48} {x y : End} {p : Fin 24} {d : PointDef}

theorem moveNeeds_toe (h : s.linkAt a x = .point p) (hd : s.pointDef p = some d) : moveNeeds s a x b y =
    if d.normal = ⟨b, y⟩ then some (p, .normal) else if d.reverse = ⟨b, y⟩ then some (p, .reverse) else none := by
  simp only [moveNeeds, h, hd]

theorem moveNeeds_leg (ha : ∀ q, s.linkAt a x ≠ .point q) (h : s.linkAt b y = .point p) (hd : s.pointDef p = some d) :
    moveNeeds s a x b y =
      if d.normal = ⟨a, x⟩ then some (p, .normal) else if d.reverse = ⟨a, x⟩ then some (p, .reverse) else none := by
  unfold moveNeeds
  split
  · next q hq => exact absurd hq (ha q)
  · simp only [h, hd]

theorem moveNeeds_none (ha : ∀ q, s.linkAt a x ≠ .point q) (hb : ∀ q, s.linkAt b y ≠ .point q) : moveNeeds s a x b y = none := by
  unfold moveNeeds
  split
  · next q hq => exact absurd hq (ha q)
  · split
    · next q hq => exact absurd hq (hb q)
    · rfl

end

/-! ## A grant (R70) -/

theorem pulsing_iff (s : State) (p : Fin 24) : s.pulsing p = true ↔ ∃ w ms serves, s.track.unit_ = .pulsing p w ms serves := by
  unfold State.pulsing
  cases s.track.unit_ <;> simp

/-- A point lies in place: at the position, with no pulse for it in progress. -/
def State.inPlace (s : State) (p : Fin 24) (w : Position) : Prop :=
  (s.track.points.get p).position = w ∧ ∀ w' ms serves, s.track.unit_ ≠ .pulsing p w' ms serves

theorem pointAt_iff (s : State) (p : Fin 24) (w : Position) : s.pointAt p w = true ↔ s.inPlace p w := by
  rw [State.pointAt, Bool.and_eq_true, beq_iff_eq, Bool.not_eq_true', ← Bool.not_eq_true, pulsing_iff, State.inPlace]
  simp only [not_exists, ne_eq]

/-- A point belongs to a section. -/
def State.pointOf (s : State) (p : Fin 24) (y : Fin 48) : Prop := ∃ d, s.pointDef p = some d ∧ d.sec = y

theorem pointOf_iff (s : State) (p : Fin 24) (y : Fin 48) : ((s.pointDef p).any fun d => d.sec == y) = true ↔ s.pointOf p y := by
  simp [State.pointOf, Option.any_eq_true]

section
variable {t : Fin 8} {x prev : Fin 48} {e : End} {sense : Sense} {s0 : State} {p : Fin 24} {w : Position}

/-- The move into a granted section: the point it needs, seen once the section's requested throws are dropped. -/
def State.grantNeeds (s0 : State) (prev : Fin 48) (sense : Sense) (x : Fin 48) (e : End) : Option (Fin 24 × Position) :=
  moveNeeds (dropRequestThrows x s0) prev sense.exitEnd x e

variable (hf : s0.frontOf t = some (prev, sense))
include hf

theorem grant_free (hn : s0.grantNeeds prev sense x e = none) :
    grant t x e s0 = (pend t x e (dropRequestThrows x s0)).later (.complete t) := by
  rw [State.grantNeeds] at hn
  rw [grant, dropRequestThrows_frontOf, hf]
  simp only [hn]

variable (hn : s0.grantNeeds prev sense x e = some (p, w))
include hn

theorem grant_inPlace (hp : (dropRequestThrows x s0).inPlace p w) :
    grant t x e s0 = (pend t x e (dropRequestThrows x s0)).later (.complete t) := by
  rw [State.grantNeeds] at hn
  rw [grant, dropRequestThrows_frontOf, hf]
  simp only [hn, (pointAt_iff _ p w).mpr hp, if_true]

variable (hp : ¬(dropRequestThrows x s0).inPlace p w)
include hp

theorem grant_ownThrow (hx : (dropRequestThrows x s0).pointOf p x) :
    grant t x e s0 = (queueThrow { point := p, position := w, origin := .grant t x } (pend t x e (dropRequestThrows x s0))).later
      (.complete t) := by
  rw [State.grantNeeds] at hn
  rw [grant, dropRequestThrows_frontOf, hf]
  simp only [hn, if_neg (mt (pointAt_iff _ p w).mp hp), if_pos ((pointOf_iff _ p x).mpr hx)]

variable (hx : ¬(dropRequestThrows x s0).pointOf p x)
include hx

theorem grant_prevThrow (hr : (dropRequestThrows x s0).sec prev = .reserved t) :
    grant t x e s0 = (queueThrow { point := p, position := w, origin := .grant t prev }
      (resync t (setSec prev (.pending t) (pend t x e (dropRequestThrows x s0))))).later (.complete t) := by
  rw [State.grantNeeds] at hn
  rw [grant, dropRequestThrows_frontOf, hf]
  simp only [hn, if_neg (mt (pointAt_iff _ p w).mp hp), if_neg (mt (pointOf_iff _ p x).mp hx), if_pos hr]

/-- The facing point would have to be thrown under an OCCUPIED section (R70). -/
theorem grant_noThrow (hr : (dropRequestThrows x s0).sec prev ≠ .reserved t) :
    grant t x e s0 = routeFault t .noThrow (clearSec x (withdraw t x (dropRequestThrows x s0))) := by
  rw [State.grantNeeds] at hn
  rw [grant, dropRequestThrows_frontOf, hf]
  simp only [hn, if_neg (mt (pointAt_iff _ p w).mp hp), if_neg (mt (pointOf_iff _ p x).mp hx), if_neg hr]

end

/-! ## Completion (R71) -/

/-- A queued throw, or the pulse in progress, serves a train's grant. -/
theorem throwOutstanding_iff (s : State) (t : Fin 8) : s.throwOutstanding t = true ↔
    (∃ q ∈ s.track.queue, ∃ y, q.origin = .grant t y) ∨ ∃ p w ms, s.track.unit_ = .pulsing p w ms (some t) := by
  have horigin (o : ThrowOrigin) : (o.serves == some t) = true ↔ ∃ y, o = .grant t y := by cases o <;> simp [ThrowOrigin.serves]
  rw [State.throwOutstanding, Bool.or_eq_true, List.any_eq_true]
  refine or_congr (exists_congr fun q => and_congr_right fun _ => horigin q.origin) ?_
  cases s.track.unit_ <;> simp

/-- A section's crossing, if it has one, does not report its gate CLOSED. -/
theorem gateClosedFor_eq_false_iff (s : State) (y : Fin 48) : s.gateClosedFor y = false ↔
    ∃ c d, (s.track.defs.get y).crossing = some c ∧ (s.track.crossings.get c).defn = some d ∧ (s.axes.get d.axis).gateState ≠ .closed := by
  unfold State.gateClosedFor
  cases hc : (s.track.defs.get y).crossing with
  | none => simp
  | some c => cases hd : (s.track.crossings.get c).defn <;> simp [hd]

/-- A grant in flight has still to wait: for a throw, or for the gate of a crossing. -/
def State.grantWaits (s : State) (t : Fin 8) : Prop :=
  (∃ q ∈ s.track.queue, ∃ y, q.origin = .grant t y) ∨ (∃ p w ms, s.track.unit_ = .pulsing p w ms (some t)) ∨
    ∃ y ∈ s.pendingOf t, ∃ c d, (s.track.defs.get y).crossing = some c ∧ (s.track.crossings.get c).defn = some d ∧
      (s.axes.get d.axis).gateState ≠ .closed

theorem grantComplete_iff (s : State) (t : Fin 8) :
    (s.throwOutstanding t = false ∧ (s.pendingOf t).all s.gateClosedFor = true) ↔ ¬s.grantWaits t := by
  rw [State.grantWaits, ← or_assoc, ← throwOutstanding_iff, not_or, Bool.not_eq_true, List.all_eq_true]
  simp only [← gateClosedFor_eq_false_iff, not_exists, not_and, Bool.not_eq_false]

theorem completeGrant_complete {t : Fin 8} {x : Fin 48} (hc : (s.trains.get t).claim = .granted x) (h : ¬s.grantWaits t) :
    completeGrant t s = ((resync t ((forEach (s.pendingOf t) (fun y => setSec y (.reserved t)) s).modTrain t fun r =>
      { r with claim := .none, routeEnd := if r.routeEnd = some x then none else r.routeEnd })).raise (.routeReady t x)).later (.claim t) := by
  simp only [completeGrant, hc, if_pos ((grantComplete_iff s t).mpr h)]

theorem completeGrant_waits {t : Fin 8} {x : Fin 48} (hc : (s.trains.get t).claim = .granted x) (h : s.grantWaits t) : completeGrant t s = s := by
  simp only [completeGrant, hc, if_neg fun hn => (grantComplete_iff s t).mp hn h]

/-! ## A section's change of state (R72, R77) -/

theorem clearSec_eq (x : Fin 48) (s : State) : clearSec x s =
    if (s.track.defs.get x).clearance = 0 then (setSec x (.clearing 0) s).later (.expire x)
    else setSec x (.clearing (s.track.defs.get x).clearance) s := by
  unfold clearSec
  dsimp only
  split
  · next h => rw [h]
  · rfl

theorem setSec_noCrossing {x : Fin 48} (h : (s.track.defs.get x).crossing = none) (st : SecState) :
    setSec x st s = s.modRun x fun r => { r with state := st } := by
  simp only [setSec, redemandOf, State.modRun_track, h]

theorem setSec_crossing {x : Fin 48} {c : Fin 4} (h : (s.track.defs.get x).crossing = some c) (st : SecState) :
    setSec x st s = redemand c (s.modRun x fun r => { r with state := st }) := by
  simp only [setSec, redemandOf, State.modRun_track, h]

end Sys2Proof.Machine
end


section
/-! SUPPORT. The detectors and what a confirmed entry or leave is attributed to (R52, R62, R66, R67, R80 to R83, R100). -/

namespace Sys2Proof.Machine

variable {s : State}

/-! ## The filter (R66) -/

section
variable {d : Detector} (filter : Nat)

theorem Detector.sample_emptyAgain (h : d.occupied = false) : d.sample filter false = ({ occupied := false, progress := 0 }, .nothing) := by
  simp only [Detector.sample, h]

theorem Detector.sample_occupiedAgain (h : d.occupied = true) : d.sample filter true = ({ occupied := true, progress := 0 }, .nothing) := by
  simp only [Detector.sample, h]

theorem Detector.sample_rising (h : d.occupied = false) : d.sample filter true =
    if d.progress = 2 then ({ occupied := true, progress := 0 }, .enter)
    else ({ occupied := false, progress := d.progress + 1 }, .nothing) := by
  simp only [Detector.sample, h]

theorem Detector.sample_falling (h : d.occupied = true) : d.sample filter false =
    if filter ≤ d.progress + 2 then ({ occupied := false, progress := 0 }, .leave)
    else ({ occupied := true, progress := d.progress + 2 }, .nothing) := by
  simp only [Detector.sample, h]

end

/-! ## The sample and its rows (R52, R66, R67) -/

theorem trackPowered_iff : s.trackPowered = true ↔ s.supply.rails.track = true ∧ s.supply.cutoff = false := by
  simp [State.trackPowered]

theorem wouldConfirm_frozen (h : s.trackPowered = false) (x : Fin 48) : s.wouldConfirm x = .nothing := by
  simp only [State.wouldConfirm, h, Bool.false_eq_true, if_false]

theorem sampleDetector_frozen (h : s.trackPowered = false) (x : Fin 48) :
    sampleDetector x s = s.modSched fun d => { d with detect := d.detect &&& ~~~(1#48 <<< x.1) } := by
  simp only [sampleDetector, h, Bool.false_eq_true, if_false]

theorem wouldConfirm_powered (h : s.trackPowered = true) (x : Fin 48) :
    s.wouldConfirm x = ((s.track.detectors.get x).sample (s.filterOf x) (s.detectInput x)).2 := by
  simp only [State.wouldConfirm, h, if_true]

/-- A section's sample written, before what it confirms is handed on. -/
def State.sampled (s : State) (x : Fin 48) : State :=
  (s.modSched fun d => { d with detect := d.detect &&& ~~~(1#48 <<< x.1) }).modTrack fun k =>
    { k with detectors := k.detectors.set x ((s.track.detectors.get x).sample (s.filterOf x) (s.detectInput x)).1 }

theorem sampleDetector_powered (h : s.trackPowered = true) (x : Fin 48) :
    sampleDetector x s = takeConfirm x ((s.track.detectors.get x).sample (s.filterOf x) (s.detectInput x)).2 (s.sampled x) := by
  simp only [sampleDetector, h, if_true]
  rfl

theorem takeConfirm_idle {x : Fin 48} {c : Confirm}
    (h : ¬(s.track.config = .operational ∧ (s.track.defs.get x).present = true) ∨ c = .nothing) : takeConfirm x c s = s := by
  unfold takeConfirm
  split
  · next hs => rw [h.resolve_left (not_not.mpr hs)]
  · rfl

theorem takeConfirm_enter {x : Fin 48} (h : s.track.config = .operational ∧ (s.track.defs.get x).present = true) :
    takeConfirm x .enter s = takeEnter x s := if_pos h

theorem takeConfirm_leave {x : Fin 48} (h : s.track.config = .operational ∧ (s.track.defs.get x).present = true) :
    takeConfirm x .leave s = takeLeave x s := if_pos h

theorem exec_detectorSample (h : s.work.isClear = true) (levels : Nat) : exec (.detectorSample levels) s =
    .next (finish (eachSettled s.dueDetectors sampleDetector (s.modPins fun p => { p with detect := BitVec.ofNat 48 levels }))) :=
  perform_clear h _

theorem exec_detectorEnter (h : s.work.isClear = true) (x : Fin 48) : exec (.detectorEnter x.1) s = .next (confirmStep .enter x s) :=
  (perform_clear h _).trans (congrArg _ (forItem_val x _ s))

theorem exec_detectorLeave (h : s.work.isClear = true) (x : Fin 48) : exec (.detectorLeave x.1) s = .next (confirmStep .leave x s) :=
  (perform_clear h _).trans (congrArg _ (forItem_val x _ s))

/-! ## The trains that face a section (R62, 5.6) -/

theorem facingEnd_eq_some_iff {t : Fin 8} {x : Fin 48} {e : End} : facingEnd s t x = some e ↔
    ∃ z sense, s.frontOf t = some (z, sense) ∧ presentNeighbour s z sense.exitEnd = some (x, e) := by
  unfold facingEnd
  cases s.frontOf t with
  | none => simp
  | some f =>
    obtain ⟨y, sense⟩ := f
    dsimp only
    cases hn : presentNeighbour s y sense.exitEnd with
    | none => simp [hn]
    | some n =>
      obtain ⟨z, e'⟩ := n
      by_cases hz : z = x
      · simp [hz, hn]
      · simp [hz, hn]

theorem mem_facingTrains {t : Fin 8} {x : Fin 48} : t ∈ facingTrains s x ↔ (facingEnd s t x).isSome = true := by
  simp [facingTrains]

theorem facingTrains_none {x : Fin 48} (h : ∀ u, facingEnd s u x = none) : facingTrains s x = [] :=
  List.eq_nil_iff_forall_not_mem.mpr fun u hu => by simpa [h u] using mem_facingTrains.mp hu

theorem facingTrains_one {t : Fin 8} {x : Fin 48} {e : End} (ht : facingEnd s t x = some e) (h : ∀ u, u ≠ t → facingEnd s u x = none) :
    facingTrains s x = [t] := by
  refine List.Pairwise.eq_of_mem_iff ((indices_ascending 8).filter _) (List.pairwise_singleton _ t) fun u => ?_
  rw [List.mem_singleton]
  refine mem_facingTrains.trans ⟨fun hu => ?_, fun hu => by rw [hu, ht]; rfl⟩
  by_contra hne
  simp [h u hne] at hu

/-- The other trains that face a section (R80). -/
theorem facingOthers_eq (s : State) (t : Fin 8) (x : Fin 48) : ((facingTrains s x).filter fun u => u != t) =
    (indices 8).filter fun u => (facingEnd s u x).isSome && u != t := by
  rw [facingTrains, List.filter_filter]
  exact List.filter_congr fun u _ => Bool.and_comm _ _

theorem facingOthers_nil_iff (s : State) (t : Fin 8) (x : Fin 48) :
    ((facingTrains s x).filter fun u => u != t) = [] ↔ ∀ u, u ≠ t → facingEnd s u x = none := by
  simp only [List.filter_eq_nil_iff, mem_facingTrains, bne_iff_ne, ne_eq, not_not, Option.isSome_iff_ne_none]
  exact forall_congr' fun u => by tauto

/-! ## The head (R87) and the section next ahead (5.6) -/

/-- A train without an OCCUPIED section has no head. -/
theorem headIndex_none {t : Fin 8} (h : ∀ e ∈ s.heldOf t, s.sec e.1 ≠ .occupied t) : s.headIndex t = none := by
  have hnil : ((s.heldOf t).zipIdx.filter fun e => s.sec e.1.1 == .occupied t) = [] :=
    List.filter_eq_nil_iff.mpr fun e he => by simpa using h e.1 (List.fst_mem_of_mem_zipIdx he)
  rw [State.headIndex, hnil]
  rfl

/-- The head is the frontmost OCCUPIED section. -/
theorem headIndex_frontmost {t : Fin 8} {rear front : List (Fin 48 × Sense)} {h : Fin 48 × Sense} (hl : s.heldOf t = rear ++ h :: front)
    (hh : s.sec h.1 = .occupied t) (hf : ∀ k ∈ front, s.sec k.1 ≠ .occupied t) : s.headIndex t = some rear.length := by
  have hnil : ((front.zipIdx (rear.length + 1)).filter fun e => s.sec e.1.1 == .occupied t) = [] :=
    List.filter_eq_nil_iff.mpr fun e he => by simpa using hf e.1 (List.fst_mem_of_mem_zipIdx he)
  rw [State.headIndex, hl, List.zipIdx_append, List.filter_append, List.zipIdx_cons, List.filter_cons_of_pos (by simpa using hh), Nat.zero_add,
    hnil]
  simp

theorem nextAhead_noHead {t : Fin 8} {x : Fin 48} (h : ∀ e ∈ s.heldOf t, s.sec e.1 ≠ .occupied t) :
    nextAhead s t x = true ↔ ∃ sense, (x, sense) ∈ s.heldOf t := by
  simp [nextAhead, headIndex_none h]

theorem nextAhead_ofHead {t : Fin 8} {x : Fin 48} {rear front : List (Fin 48 × Sense)} {h : Fin 48 × Sense}
    (hl : s.heldOf t = rear ++ h :: front) (hh : s.sec h.1 = .occupied t) (hf : ∀ k ∈ front, s.sec k.1 ≠ .occupied t) :
    nextAhead s t x = (front.head?.map Prod.fst == some x) := by
  simp only [nextAhead, headIndex_frontmost hl hh hf, hl]
  rw [List.getElem?_append_right (by omega), Nat.add_sub_cancel_left, List.getElem?_cons_succ, ← List.head?_eq_getElem?]

/-! ## The present neighbour (R62) -/

section
variable {x y : Fin 48} {e f : End} (hp : (s.track.defs.get x).present = true)
include hp

theorem presentNeighbour_plain (h : s.linkAt x e = .plain y f) : presentNeighbour s x e =
    match moveNeeds s x e y f with
    | none => some (y, f)
    | some (p, w) => if (s.track.points.get p).position = w then some (y, f) else none := by
  simp only [presentNeighbour, possibleNeighbours, hp, h, Bool.true_eq_false, if_false, List.find?_cons, List.find?_nil]
  cases moveNeeds s x e y f with
  | none => rfl
  | some n =>
    obtain ⟨p, w⟩ := n
    dsimp only
    split <;> simp_all

theorem presentNeighbour_point {p : Fin 24} {d : PointDef} (h : s.linkAt x e = .point p) (hd : s.pointDef p = some d)
    (hlegs : d.normal ≠ d.reverse) : presentNeighbour s x e =
    match (s.track.points.get p).position with
    | .normal => some (d.normal.sec, d.normal.fin)
    | .reverse => some (d.reverse.sec, d.reverse.fin)
    | .unknown => none := by
  have hn : moveNeeds s x e d.normal.sec d.normal.fin = some (p, .normal) := (moveNeeds_toe h hd).trans (if_pos rfl)
  have hr : moveNeeds s x e d.reverse.sec d.reverse.fin = some (p, .reverse) :=
    (moveNeeds_toe h hd).trans ((if_neg hlegs).trans (if_pos rfl))
  simp only [presentNeighbour, possibleNeighbours, hp, h, hd, Bool.true_eq_false, if_false, List.find?_cons, List.find?_nil, hn, hr]
  cases (s.track.points.get p).position <;> rfl

theorem presentNeighbour_buffer (h : s.linkAt x e = .buffer) : presentNeighbour s x e = none := by
  simp only [presentNeighbour, possibleNeighbours, hp, h, Bool.true_eq_false, if_false, List.find?_nil]

end

/-! ## A halt (R82, R100) -/

/-- A train's needed step worked out again leaves its claim. -/
theorem resync_claim (t : Fin 8) (s : State) : ((resync t s).trains.get t).claim = (s.trains.get t).claim := by
  rw [resync, State.modTrain_trains, Table.get_modify_self, Train.aim]
  split <;> rfl

/-- A train that is halted for the first time, before its claim ends (R100). -/
def haltStopped (t : Fin 8) (f : HaltFault) (s : State) : State :=
  resync t ((s.modTrain t fun x =>
    { x with speed := 0, requested := 0, timer := 0, stepDue := false, halt := some f, stop := .none }).raise (.trainHalted t f))

/-- The end of a halted train's claim (R82): it is withdrawn, and what is PENDING released; a route ends with ROUTE_FAULT when there
was a claim. -/
def endClaim (t : Fin 8) (claim : Claim) (s : State) : State :=
  let left := releasePending t (match claim with | .waiting x _ => withdraw t x s | _ => s)
  if claim = .none then (routeEnding t left).modTrain t fun x => { x with queue := [], routeEnd := none } else routeFault t .halted left

theorem halt_eq (t : Fin 8) (f : HaltFault) (s : State) :
    halt t f s = endClaim t ((haltTrain t f s).trains.get t).claim (haltTrain t f s) := rfl

theorem halt_first {t : Fin 8} (f : HaltFault) (h : (s.trains.get t).halt = none) :
    halt t f s = endClaim t (s.trains.get t).claim (haltStopped t f s) := by
  have hs : haltTrain t f s = haltStopped t f s := by
    rw [haltTrain, h]
    rfl
  have hc : ((haltStopped t f s).trains.get t).claim = (s.trains.get t).claim := by
    rw [haltStopped, resync_claim, State.raise_trains, State.modTrain_trains, Table.get_modify_self]
  rw [halt_eq, hs, hc]

theorem halt_again {t : Fin 8} (f : HaltFault) (h : (s.trains.get t).halt.isSome = true) : halt t f s = endClaim t (s.trains.get t).claim s := by
  have hs : haltTrain t f s = s := if_pos h
  rw [halt_eq, hs]

/-! ## A confirmed entry (R80, R81) -/

section
variable {x : Fin 48} {t : Fin 8}

/-- An entry counts as its holder's: the section is next ahead of it, or no other train faces it (R80). -/
def State.entersOwn (s : State) (t : Fin 8) (x : Fin 48) : Prop := nextAhead s t x = true ∨ ∀ u, u ≠ t → facingEnd s u x = none

theorem attributeHeld_own (h : s.entersOwn t x) (wasPending : Bool) : attributeHeld t x wasPending s = enterHeld t x wasPending s :=
  if_pos (h.imp_right (facingOthers_nil_iff s t x).mpr)

theorem attributeHeld_conflict (h : ¬s.entersOwn t x) (wasPending : Bool) : attributeHeld t x wasPending s =
    conflict t x ((indices 8).filter fun u => (facingEnd s u x).isSome && u != t) s := by
  rw [← facingOthers_eq]
  exact if_neg (mt (Or.imp_right (facingOthers_nil_iff s t x).mp) h)

theorem takeEnter_reserved (h : s.sec x = .reserved t) : takeEnter x s = attributeHeld t x false s := by simp only [takeEnter, h]

theorem takeEnter_pending (h : s.sec x = .pending t) : takeEnter x s = attributeHeld t x true s := by simp only [takeEnter, h]

theorem takeEnter_conflict (h : s.sec x = .pending t ∨ s.sec x = .reserved t) (hc : ¬s.entersOwn t x) : takeEnter x s =
    conflict t x ((indices 8).filter fun u => (facingEnd s u x).isSome && u != t) s := by
  obtain h | h := h
  · rw [takeEnter_pending h, attributeHeld_conflict hc]
  · rw [takeEnter_reserved h, attributeHeld_conflict hc]

theorem takeEnter_again (h : s.sec x = .occupied t ∨ s.sec x = .stray) : takeEnter x s = s := by
  obtain h | h := h <;> simp only [takeEnter, h]

theorem takeEnter_open (h : s.sec x = .free ∨ ∃ ms, s.sec x = .clearing ms) : takeEnter x s = attributeOpen x s := by
  obtain h | ⟨ms, h⟩ := h <;> simp only [takeEnter, h]

/-- A section that becomes STRAY at an entry that no train can take (R81). -/
def strayEntry (x : Fin 48) (s : State) : State := (dropRequestThrows x (setSec x .stray s)).raise (.straySeen x)

theorem attributeOpen_nobody (h : facingTrains s x = []) : attributeOpen x s = strayEntry x s := by
  simp only [attributeOpen, h]
  rfl

theorem attributeOpen_one {e : End} (h : facingTrains s x = [t]) (he : facingEnd s t x = some e) : attributeOpen x s =
    if (s.heldOf t).length < 16 then
      halt t .overrun ((resync t (dropRequestThrows x (withdraw t x (joinHeld t x e.sense (setSec x (.occupied t) s))))).raise
        (.sectionEnter x t))
    else halt t .overrun (strayEntry x s) := by
  simp only [attributeOpen, h, he, Option.getD_some]
  rfl

/-- At an entry that several trains face each of them is halted (R81; log entry 46). -/
theorem attributeOpen_several (h : ∀ u, facingTrains s x ≠ [u]) : attributeOpen x s =
    forEach (facingTrains s x) (fun v => halt v .overrun) (strayEntry x s) := by
  unfold attributeOpen
  split
  · next u hu => exact absurd hu (h u)
  · rfl

theorem facingTrains_several {u : Fin 8} (hne : u ≠ t) (ht : (facingEnd s t x).isSome = true) (hu : (facingEnd s u x).isSome = true) (v : Fin 8) :
    facingTrains s x ≠ [v] := by
  intro hv
  have hmem {k : Fin 8} (hk : (facingEnd s k x).isSome = true) : k = v := List.mem_singleton.mp (hv ▸ mem_facingTrains.mpr hk)
  exact hne ((hmem hu).trans (hmem ht).symm)

/-! ## A confirmed leave (R83) -/

theorem takeLeave_stray (h : s.sec x = .stray) : takeLeave x s = clearSec x s := by simp only [takeLeave, h]

theorem takeLeave_occupied (h : s.sec x = .occupied t) : takeLeave x s = leaveOccupied t x s := by simp only [takeLeave, h]

theorem leaveOccupied_last (h : s.occupiedOf t = [x]) : leaveOccupied t x s = halt t .lost (resync t (setSec x (.reserved t) s)) := if_pos h

theorem leaveOccupied_rear {y : Fin 48} {rest : List (Fin 48)} (h : s.occupiedOf t = x :: y :: rest) :
    leaveOccupied t x s = ordinaryLeave t x s := by
  rw [leaveOccupied, h]
  exact (if_neg (by simp)).trans (if_pos rfl)

theorem leaveOccupied_front {y : Fin 48} {rest : List (Fin 48)} (h : s.occupiedOf t = y :: rest) (hy : y ≠ x) :
    leaveOccupied t x s = resync t (setSec x (.reserved t) s) := by
  rw [leaveOccupied, h]
  exact (if_neg (by simp [hy])).trans (if_neg (by simp [hy]))

theorem ordinaryLeave_hold (h : (s.trains.get t).mode = .hold) :
    ordinaryLeave t x s = (resync t (setSec x (.reserved t) s)).raise (.sectionLeave x t) := by
  simp only [ordinaryLeave, h]

theorem ordinaryLeave_autoRelease (h : (s.trains.get t).mode = .autoRelease) : ordinaryLeave t x s =
    forEach (((((s.heldOf t).map Prod.fst).takeWhile fun z => z != x).filter fun z => s.sec z == .reserved t) ++ [x]) (releaseSec t)
      (s.raise (.sectionLeave x t)) := by
  simp only [ordinaryLeave, h]

end

end Sys2Proof.Machine
end


section
/-! SUPPORT. A train's state, target and authority, and the lines of a section (R63, R86, R87, R95, R98). -/

namespace Sys2Proof.Machine

variable {s : State} {t : Fin 8} {x : Fin 48}

/-! ## A train's state and target (R86, R95) -/

theorem Train.state_unplaced_iff (x : Train) : x.state = .unplaced ↔ x.placed = false := by
  unfold Train.state
  split_ifs <;> simp_all

theorem Train.state_halted_iff (x : Train) : x.state = .halted ↔ x.placed = true ∧ x.halt.isSome = true := by
  unfold Train.state
  split_ifs <;> simp_all

theorem Train.state_standing_iff (x : Train) : x.state = .standing ↔ x.placed = true ∧ x.halt = none ∧ x.speed = 0 := by
  simp only [Train.state, Option.isSome_iff_ne_none]
  split_ifs <;> simp_all

theorem Train.state_running_iff (x : Train) : x.state = .running ↔ x.placed = true ∧ x.halt = none ∧ 0 < x.speed := by
  simp only [Train.state, Option.isSome_iff_ne_none]
  split_ifs <;> simp_all [Nat.pos_iff_ne_zero]

theorem effective_unplaced (h : (s.trains.get t).placed = false) : s.effective t = 0 := if_pos (.inl h)

theorem trackPowered_eq_false_iff : s.trackPowered = false ↔ s.supply.rails.track = false ∨ s.supply.cutoff = true := by
  rw [← Bool.not_eq_true, trackPowered_iff, Decidable.not_and_iff_or_not, Bool.not_eq_true, Bool.not_eq_false]

theorem effective_placed (h : (s.trains.get t).placed = true) : s.effective t =
    if (s.trains.get t).halt.isSome = true ∨ s.supply.rails.track = false ∨ s.supply.cutoff = true ∨ s.supply.keyOn = true ∨ s.authority t = []
    then 0 else (s.trains.get t).requested := by
  refine if_congr ?_ rfl rfl
  rw [trackPowered_eq_false_iff, h, State.engaged]
  simp only [Bool.true_eq_false, false_or, or_assoc]

/-! ## The authority (R87) -/

theorem authority_noHead (h : ∀ e ∈ s.heldOf t, s.sec e.1 ≠ .occupied t) : s.authority t = [] := by
  simp only [State.authority, headIndex_none h]

/-- The authority is the run of RESERVED sections in front of the head. -/
theorem authority_eq {rear run front : List (Fin 48 × Sense)} {h : Fin 48 × Sense} (hl : s.heldOf t = rear ++ h :: run ++ front)
    (hh : s.sec h.1 = .occupied t) (hrun : ∀ e ∈ run, s.sec e.1 = .reserved t) (hfront : ∀ e ∈ front, s.sec e.1 ≠ .occupied t)
    (hend : ∀ e rest, front = e :: rest → s.sec e.1 ≠ .reserved t) : s.authority t = run.map Prod.fst := by
  have hl' : s.heldOf t = rear ++ h :: (run ++ front) := by rw [hl, List.append_assoc, List.cons_append]
  have hahead : ∀ k ∈ run ++ front, s.sec k.1 ≠ .occupied t := fun k hk =>
    (List.mem_append.mp hk).elim (fun hk => by rw [hrun k hk]; nofun) (hfront k)
  have hstop : front.takeWhile (fun e => s.sec e.1 == .reserved t) = [] := by
    cases front with
    | nil => rfl
    | cons e rest => exact List.takeWhile_cons_of_neg (by simpa using hend e rest rfl)
  have htake : (run ++ front).takeWhile (fun e => s.sec e.1 == .reserved t) = run := by
    rw [List.takeWhile_append_of_pos fun e he => beq_iff_eq.mpr (hrun e he), hstop, List.append_nil]
  have hdrop : (rear ++ h :: (run ++ front)).drop (rear.length + 1) = run ++ front := by simp [List.drop_append]
  simp only [State.authority, headIndex_frontmost hl' hh hahead]
  rw [hl', hdrop, htake]

/-! ## The lines of a section (R63, R98) -/

/-- The lines of the sections are driven: track power on, the interlock RELEASED and the layout in service. -/
def State.drives (s : State) : Prop :=
  s.supply.rails.track = true ∧ s.supply.cutoff = false ∧ s.supply.keyOn = false ∧ s.track.config = .operational

/-- A train runs on a section: it occupies it, or it has it RESERVED within its authority. -/
def State.runsOn (s : State) (x : Fin 48) (t : Fin 8) : Prop := s.sec x = .occupied t ∨ s.sec x = .reserved t ∧ x ∈ s.authority t

theorem drives_iff : (s.trackPowered = true ∧ s.engaged = false ∧ s.track.config = .operational) ↔ s.drives := by
  rw [trackPowered_iff, State.drives, State.engaged, and_assoc]

theorem sectionDuty_runsOn (hd : s.drives) (hr : s.runsOn x t) : s.sectionDuty x = (s.trains.get t).speed * 1023 / 255 := by
  rw [State.sectionDuty, if_pos (drives_iff.mpr hd)]
  obtain h | ⟨h, ha⟩ := hr
  · simp only [h]
  · simp only [h, List.contains_iff_mem, if_pos ha]

theorem sectionDuty_zero (h : ¬(s.drives ∧ ∃ u, s.runsOn x u)) : s.sectionDuty x = 0 := by
  unfold State.sectionDuty
  split
  · next hd =>
    have hno (u : Fin 8) : ¬s.runsOn x u := fun hu => h ⟨drives_iff.mp hd, u, hu⟩
    split
    · next u hu => exact absurd (.inl hu) (hno u)
    · next u hu => exact if_neg fun ha => hno u (.inr ⟨hu, List.contains_iff_mem.mp ha⟩)
    · rfl
  · rfl

theorem sectionDuty_pos (h : 0 < s.sectionDuty x) : s.drives ∧ ∃ t, s.runsOn x t ∧ 0 < (s.trains.get t).speed ∧
    s.sectionDuty x = (s.trains.get t).speed * 1023 / 255 := by
  obtain ⟨hd, u, hu⟩ : s.drives ∧ ∃ u, s.runsOn x u := by
    by_contra hno
    exact h.ne' (sectionDuty_zero hno)
  have hduty := sectionDuty_runsOn hd hu
  exact ⟨hd, u, hu, by omega, hduty⟩

theorem polarity_off (h : s.track.config ≠ .operational ∨ (s.sec x).holder = none) : s.polarity x = false := by
  obtain h | h := h
  · simp [State.polarity, h]
  · simp [State.polarity, State.senseOf, h]

/-- A section's holder travels it in the sense its held list gives. -/
theorem senseOf_held {sense : Sense} (hh : (s.sec x).holder = some t) (hn : ((s.heldOf t).map Prod.fst).Nodup) (hx : (x, sense) ∈ s.heldOf t) :
    s.senseOf x = some sense := by
  have hsome : ((s.heldOf t).find? fun e => e.1 == x).isSome = true := List.find?_isSome.mpr ⟨(x, sense), hx, beq_self_eq_true x⟩
  obtain ⟨e, he⟩ := Option.isSome_iff_exists.mp hsome
  have hex : e.1 = x := by simpa using List.find?_some he
  obtain rfl : e = (x, sense) := List.inj_on_of_nodup_map hn (List.mem_of_find?_eq_some he) hx hex
  simp only [State.senseOf, hh, he, Option.map_some]

theorem polarity_iff {sense : Sense} (hc : s.track.config = .operational) (hh : (s.sec x).holder = some t)
    (hn : ((s.heldOf t).map Prod.fst).Nodup) (hx : (x, sense) ∈ s.heldOf t) : s.polarity x = true ↔ sense = .aToB := by
  simp [State.polarity, hc, senseOf_held hh hn hx]

end Sys2Proof.Machine
end


section
/-! SUPPORT. Placing and removing trains, their routes and directions (R61, R88, R89, R91, R92, R94, R102). -/

namespace Sys2Proof.Machine

variable {s : State} {t : Fin 8}

/-! ## The possible neighbours (R61) -/

theorem mem_possibleNeighbours {z y : Fin 48} {e f : End} :
    (y, f) ∈ possibleNeighbours s z e ↔ (s.track.defs.get z).present = true ∧ s.leadsTo z e y f := by
  unfold possibleNeighbours State.leadsTo
  cases (s.track.defs.get z).present with
  | false => simp
  | true =>
    cases s.linkAt z e with
    | buffer => simp
    | plain x g => simp [eq_comm]
    | point p =>
      cases hd : s.pointDef p with
      | none => simp [hd]
      | some d =>
        obtain ⟨sec, ⟨n, ne⟩, ⟨r, re⟩⟩ := d
        simp [hd, eq_comm]

/-! ## TRAIN_PLACE check by check (R88) -/

/-- A section may be placed behind another: it is a possible neighbour through the exit end, entered as its sense names. -/
def State.joins (s : State) (a b : Fin 48 × Sense) : Prop := s.leadsTo a.1 a.2.exitEnd b.1 b.2.enteredEnd

/-- Whether the placing goes on from one section to the next. -/
def State.continues (s : State) (a b : Fin 48 × Sense) : Bool := (possibleNeighbours s a.1 a.2.exitEnd).contains (b.1, b.2.enteredEnd)

theorem continues_iff {a b : Fin 48 × Sense} (h : (s.track.defs.get a.1).present = true) : s.continues a b = true ↔ s.joins a b := by
  rw [State.continues, List.contains_iff_mem, mem_possibleNeighbours, State.joins]
  exact and_iff_right h

theorem placeBreak_eq (s : State) (l : List (Fin 48 × Sense)) (i : Nat) : placeBreak s l i = firstBreak s.continues l i := by
  induction l generalizing i with
  | nil => rfl
  | cons a l ih =>
    cases l with
    | nil => rfl
    | cons b l =>
      rw [placeBreak, firstBreak, ih]
      rfl

theorem firstBreak_chain_none {α : Type} {r : α → α → Bool} {l : List α} (h : l.IsChain (r · ·)) (i : Nat) : firstBreak r l i = none := by
  induction l generalizing i with
  | nil => rfl
  | cons a l ih =>
    cases l with
    | nil => rfl
    | cons b l =>
      obtain ⟨hab, hl⟩ := List.isChain_cons_cons.mp h
      rw [firstBreak, if_pos hab, ih hl]

theorem firstBreak_chain_append {α : Type} {r : α → α → Bool} {before : List α} {a b : α} (h : (before ++ [a]).IsChain (r · ·))
    (hb : r a b = false) (after : List α) (i : Nat) : firstBreak r (before ++ a :: b :: after) i = some (i + (before.length + 1)) := by
  induction before generalizing i with
  | nil => simp [firstBreak, hb]
  | cons x before ih =>
    have step (y : α) (rest : List α) (e : before ++ a :: b :: after = y :: rest) (hxy : r x y = true) :
        firstBreak r (x :: (before ++ a :: b :: after)) i = some (i + ((x :: before).length + 1)) := by
      have hr := ih (List.IsChain.tail h) (i + 1)
      rw [e] at hr ⊢
      rw [firstBreak, if_pos hxy, hr, List.length_cons]
      congr 1
      omega
    cases before with
    | nil => exact step a _ rfl (by simpa using h)
    | cons y before => exact step y _ rfl (List.isChain_cons_cons.mp h).1

section
variable {l : List (Fin 48 × Sense)}

theorem placeBreak_none (hp : ∀ e ∈ l, (s.track.defs.get e.1).present = true)
    (h : ∀ before a b after, l = before ++ a :: b :: after → s.joins a b) : placeBreak s l 0 = none := by
  rw [placeBreak_eq]
  refine firstBreak_chain_none (List.isChain_iff_forall_rel_of_append_cons_cons.mpr fun a b before after e => ?_) 0
  exact (continues_iff (hp a (by simp [e]))).mpr (h before a b after e)

theorem placeBreak_append {before after : List (Fin 48 × Sense)} {a b : Fin 48 × Sense} (hl : l = before ++ a :: b :: after)
    (hp : ∀ e ∈ l, (s.track.defs.get e.1).present = true) (hb : ¬s.joins a b)
    (h : ∀ front x y back, before ++ [a] = front ++ x :: y :: back → s.joins x y) : placeBreak s l 0 = some (before.length + 1) := by
  subst hl
  have hab : s.continues a b = false := by
    rw [← Bool.not_eq_true, continues_iff (hp a (by simp))]
    exact hb
  rw [placeBreak_eq, firstBreak_chain_append _ hab, Nat.zero_add]
  refine List.isChain_iff_forall_rel_of_append_cons_cons.mpr fun x y front back e => ?_
  have hx : x ∈ before ++ [a] := by simp [e]
  have hmem : x ∈ before ++ a :: b :: after := by
    rw [← List.singleton_append, ← List.append_assoc]
    exact List.mem_append_left _ hx
  exact (continues_iff (hp x hmem)).mpr (h front x y back e)

end

theorem readSenses_code (l : List Sense) (i : Nat) : readSenses (l.map Sense.code) i = .ok l := by
  induction l generalizing i with
  | nil => rfl
  | cons x l ih =>
    rw [List.map_cons, readSenses, senseOf_code]
    simp only [ih]

/-- The first sense that is none is named (log entry 32). -/
theorem readSenses_beyond {before : List Nat} (h : ∀ y ∈ before, y ≤ 1) {x : Nat} (hx : 1 < x) (after : List Nat) (i : Nat) :
    readSenses (before ++ x :: after) i = .error (i + before.length) := by
  induction before generalizing i with
  | nil => rw [List.nil_append, readSenses, senseOf_beyond hx]; rfl
  | cons y before ih =>
    obtain ⟨hy, hb⟩ := List.forall_mem_cons.mp h
    obtain ⟨e, rfl⟩ : ∃ e : Sense, y = e.code := by
      obtain rfl | rfl := Nat.le_one_iff_eq_zero_or_eq_one.mp hy
      · exact ⟨.aToB, rfl⟩
      · exact ⟨.bToA, rfl⟩
    rw [List.cons_append, readSenses, senseOf_code]
    simp only [ih hb, List.length_cons]
    congr 1
    omega

/-- A train that takes its place, before its sections (R88). -/
def Train.stand (x : Train) : Train :=
  { x with placed := true, held := [], speed := 0, requested := 0, timer := 0, stop := .none, queue := [], claim := .none
           routeEnd := none, halt := none, dir := .level, stepDue := false }

section
variable {l : List (Fin 48 × Sense)} {secs : List (Nat × Nat)}

/-- The sections and senses of a TRAIN_PLACE as they are sent. -/
def placeFields (l : List (Fin 48 × Sense)) : List (Nat × Nat) := l.map fun e => (e.1.1, e.2.code)

theorem doTrainPlace_count {train : Nat} (h : 7 < train ∨ secs.length < 1 ∨ 4 < secs.length) :
    doTrainPlace train secs s = (s, refuseAt .outOfRange 0 0 0) := by
  unfold doTrainPlace
  split
  · rfl
  · next t ht =>
    rw [fin?_eq_some_iff] at ht
    exact if_pos (h.resolve_left (by omega))

/-- A section beyond the part's is named before any sense (log entry 32). -/
theorem doTrainPlace_beyond {before after : List (Nat × Nat)} {e : Nat × Nat} (hs : secs = before ++ e :: after) (h4 : secs.length ≤ 4)
    (h : (∀ y ∈ before, y.1 ≤ 47) ∧ 47 < e.1 ∨ (∀ y ∈ secs, y.1 ≤ 47) ∧ (∀ y ∈ before, y.2 ≤ 1) ∧ 1 < e.2) :
    doTrainPlace t.1 secs s = (s, refuseAt .outOfRange 0 before.length 0) := by
  have hlen : ¬(secs.length < 1 ∨ 4 < secs.length) := by rw [hs] at h4 ⊢; simp at h4 ⊢; omega
  rw [doTrainPlace, fin?_val]
  simp only [if_neg hlen]
  obtain ⟨hb, he⟩ | ⟨hsec, hb, he⟩ := h
  · have hr : readSections (secs.map Prod.fst) 0 = .error before.length := by
      rw [hs, List.map_append, List.map_cons, readSections_beyond (List.forall_mem_map.mpr hb) he, List.length_map, Nat.zero_add]
    simp only [hr]
  · obtain ⟨xs, hxs, -⟩ := readSections_of_le (List.forall_mem_map.mpr hsec) 0
    have hr : readSenses (secs.map Prod.snd) 0 = .error before.length := by
      rw [hs, List.map_append, List.map_cons, readSenses_beyond (List.forall_mem_map.mpr hb) he, List.length_map, Nat.zero_add]
    simp only [hxs, hr]

/-- What is sent for sections and senses is read as those. -/
theorem placeFields_read (l : List (Fin 48 × Sense)) : readSections ((placeFields l).map Prod.fst) 0 = .ok (l.map Prod.fst) ∧
    readSenses ((placeFields l).map Prod.snd) 0 = .ok (l.map Prod.snd) ∧ (l.map Prod.fst).zip (l.map Prod.snd) = l := by
  refine ⟨?_, ?_, by rw [List.zip_map', List.map_id'']; exact fun _ => rfl⟩
  · rw [← readSections_val, placeFields, List.map_map, List.map_map]
    rfl
  · rw [← readSenses_code, placeFields, List.map_map, List.map_map]
    rfl

variable (h1 : 1 ≤ l.length) (h4 : l.length ≤ 4)
include h1 h4

/-- With its fields read, TRAIN_PLACE is its checks one after another. -/
theorem doTrainPlace_read : doTrainPlace t.1 (placeFields l) s =
    if s.track.config ≠ .operational then (s, refuse .wrongState)
    else if (s.trains.get t).placed = true then (s, refuse .wrongState)
    else match firstIdx (fun x => (s.track.defs.get x).present = false) (l.map Prod.fst) 0 with
      | some i => (s, refuseAt .invalid 3 i 0)
      | none => match firstRepeat (l.map Prod.fst) with
        | some i => (s, refuseAt .invalid 4 i 0)
        | none => match placeBreak s l 0 with
          | some i => (s, refuseAt .notAdjacent 5 i 0)
          | none => match firstIdx (fun x => !(s.sec x == .free || s.sec x == .stray)) (l.map Prod.fst) 0 with
            | some i => (s, refuseAt .inUse 6 i 0)
            | none => (resync t (forEach l (placeSec t) (s.modTrain t Train.stand)), okay) := by
  obtain ⟨hxs, hss, hzip⟩ := placeFields_read l
  have hlen : ¬((placeFields l).length < 1 ∨ 4 < (placeFields l).length) := by rw [placeFields, List.length_map]; omega
  rw [doTrainPlace, fin?_val]
  simp only [if_neg hlen, hxs, hss, hzip] <;> rfl

theorem doTrainPlace_wrongState (h : ¬(s.track.config = .operational ∧ (s.trains.get t).placed = false)) :
    doTrainPlace t.1 (placeFields l) s = (s, refuse .wrongState) := by
  rw [doTrainPlace_read h1 h4]
  split
  · rfl
  · next hc => exact if_pos (by simpa using fun hp => h ⟨not_not.mp hc, hp⟩)

end

/-- A section that may be placed: FREE or STRAY. -/
def State.placeable (s : State) (x : Fin 48) : Prop := s.sec x = .free ∨ s.sec x = .stray

theorem placeable_iff {x : Fin 48} : (!(s.sec x == .free || s.sec x == .stray)) = false ↔ s.placeable x := by
  simp [State.placeable, or_iff_not_imp_left]

section
variable {l : List (Fin 48 × Sense)} {before after : List (Fin 48)} {x : Fin 48} {front back : List (Fin 48 × Sense)} {a b : Fin 48 × Sense}
  (h1 : 1 ≤ l.length) (h4 : l.length ≤ 4) (hc : s.track.config = .operational) (hp : (s.trains.get t).placed = false)
include h1 h4 hc hp

theorem doTrainPlace_absent (hl : l.map Prod.fst = before ++ x :: after) (hb : ∀ y ∈ before, (s.track.defs.get y).present = true)
    (hx : (s.track.defs.get x).present ≠ true) : doTrainPlace t.1 (placeFields l) s = (s, refuseAt .invalid 3 before.length 0) := by
  have hi : firstIdx (fun x => (s.track.defs.get x).present = false) (before ++ x :: after) 0 = some (0 + before.length) :=
    firstIdx_append (fun y hy => by simpa using hb y hy) (by simpa using hx) after 0
  simp only [doTrainPlace_read h1 h4, hc, hp, hl, hi, ne_eq, not_true_eq_false, if_false, Bool.false_eq_true, Nat.zero_add]

variable (ha : ∀ x ∈ l.map Prod.fst, (s.track.defs.get x).present = true)
include ha

omit h1 h4 hc hp in
theorem firstIdx_present : firstIdx (fun x => (s.track.defs.get x).present = false) (l.map Prod.fst) 0 = none :=
  firstIdx_none (fun x hx => by simpa using ha x hx) 0

theorem doTrainPlace_repeat (hl : l.map Prod.fst = before ++ x :: after) (hn : before.Nodup) (hx : x ∈ before) :
    doTrainPlace t.1 (placeFields l) s = (s, refuseAt .invalid 4 before.length 0) := by
  have hr : firstRepeat (l.map Prod.fst) = some before.length := by rw [hl, firstRepeat_append hn hx]
  simp only [doTrainPlace_read h1 h4, hc, hp, firstIdx_present ha, hr, ne_eq, not_true_eq_false, if_false, Bool.false_eq_true]

variable (hn : (l.map Prod.fst).Nodup)
include hn

theorem doTrainPlace_notAdjacent (hl : l = front ++ a :: b :: back) (hab : ¬s.joins a b)
    (hb : ∀ front' x y back', front ++ [a] = front' ++ x :: y :: back' → s.joins x y) :
    doTrainPlace t.1 (placeFields l) s = (s, refuseAt .notAdjacent 5 (front.length + 1) 0) := by
  have hi := placeBreak_append hl (List.forall_mem_map.mp ha) hab hb
  simp only [doTrainPlace_read h1 h4, hc, hp, firstIdx_present ha, firstRepeat_none hn, hi, ne_eq, not_true_eq_false, if_false,
    Bool.false_eq_true]

variable (hj : ∀ front a b back, l = front ++ a :: b :: back → s.joins a b)
include hj

theorem doTrainPlace_inUse (hl : l.map Prod.fst = before ++ x :: after) (hb : ∀ y ∈ before, s.placeable y) (hx : ¬s.placeable x) :
    doTrainPlace t.1 (placeFields l) s = (s, refuseAt .inUse 6 before.length 0) := by
  have hi : firstIdx (fun x => !(s.sec x == .free || s.sec x == .stray)) (l.map Prod.fst) 0 = some (0 + before.length) := by
    rw [hl]
    refine firstIdx_append (fun y hy => placeable_iff.mpr (hb y hy)) ?_ after 0
    rwa [← placeable_iff, Bool.not_eq_false] at hx
  simp only [doTrainPlace_read h1 h4, hc, hp, firstIdx_present ha, firstRepeat_none hn, placeBreak_none (List.forall_mem_map.mp ha) hj, hi,
    ne_eq, not_true_eq_false, if_false, Bool.false_eq_true, Nat.zero_add]

theorem doTrainPlace_placed (ho : ∀ x ∈ l.map Prod.fst, s.placeable x) :
    doTrainPlace t.1 (placeFields l) s = (resync t (forEach l (placeSec t) (s.modTrain t Train.stand)), okay) := by
  have hi : firstIdx (fun x => !(s.sec x == .free || s.sec x == .stray)) (l.map Prod.fst) 0 = none :=
    firstIdx_none (fun x hx => placeable_iff.mpr (ho x hx)) 0
  simp only [doTrainPlace_read h1 h4, hc, hp, firstIdx_present ha, firstRepeat_none hn, placeBreak_none (List.forall_mem_map.mp ha) hj, hi,
    ne_eq, not_true_eq_false, if_false, Bool.false_eq_true]

end

/-! ## TRAIN_REMOVE (R89) -/

theorem removeSec_occupied {x : Fin 48} (h : s.sec x = .occupied t) :
    removeSec t x s = (leaveHeld t x (setSec x .stray s)).raise (.straySeen x) := if_pos h

theorem removeSec_other {x : Fin 48} (h : s.sec x ≠ .occupied t) : removeSec t x s = releaseSec t x s := if_neg h

theorem doTrainRemove_beyond {train : Nat} (h : 7 < train) : doTrainRemove train s = (s, refuse .outOfRange) := by
  rw [doTrainRemove, fin?_eq_none_iff.mpr h]

theorem doTrainRemove_removes (hst : (s.trains.get t).state = .standing) (hq : (s.trains.get t).queue = []) (hc : (s.trains.get t).claim = .none) :
    doTrainRemove t.1 s = ((forEach ((s.heldOf t).map Prod.fst) (removeSec t) s).modTrain t fun x =>
      { x with placed := false, held := [], speed := 0, requested := 0, timer := 0, stop := .none, routeEnd := none, dir := .level
               stepDue := false }, okay) := by
  rw [doTrainRemove, fin?_val]
  exact if_neg (by simp [hst, hq, hc])

theorem doTrainRemove_wrongState
    (h : (s.trains.get t).state ≠ .standing ∨ (s.trains.get t).queue ≠ [] ∨ (s.trains.get t).claim ≠ .none) :
    doTrainRemove t.1 s = (s, refuse .wrongState) := by
  rw [doTrainRemove, fin?_val]
  exact if_pos h

end Sys2Proof.Machine
end


section
/-! SUPPORT. The routes of trains, their directions and their releases (R61, R91, R92, R94, R102). -/

namespace Sys2Proof.Machine

variable {s : State} {t : Fin 8}

/-! ## The trace of a route (R61, R91) -/

/-- A section follows another through an exit end: it is a possible neighbour there, entered at the end (R61). -/
def State.follows (s : State) (z : Fin 48) (e : End) (y : Fin 48) (f : End) : Prop := (s.track.defs.get z).present = true ∧ s.leadsTo z e y f

section
variable {z y : Fin 48} {e : End}

theorem contains_possibleNeighbours {f : End} : (possibleNeighbours s z e).contains (y, f) = true ↔ s.follows z e y f :=
  List.contains_iff_mem.trans mem_possibleNeighbours

theorem enteredAs_a (h : s.follows z e y .a) : enteredAs s z e y = some .a := if_pos (contains_possibleNeighbours.mpr h)

theorem enteredAs_b (ha : ¬s.follows z e y .a) (hb : s.follows z e y .b) : enteredAs s z e y = some .b := by
  rw [← contains_possibleNeighbours] at ha hb
  exact (if_neg ha).trans (if_pos hb)

theorem enteredAs_none (ha : ¬s.follows z e y .a) (hb : ¬s.follows z e y .b) : enteredAs s z e y = none := by
  rw [← contains_possibleNeighbours] at ha hb
  exact (if_neg ha).trans (if_neg hb)

/-- A route goes on behind a section entered at an end, left by the other. -/
def State.onward (s : State) (y : Fin 48) (f : End) (xs : List (Fin 48)) (i : Nat) : Except Nat (List (Fin 48 × End)) :=
  match traceRoute s y f.sense.exitEnd xs (i + 1) with
  | .ok l => .ok ((y, f) :: l)
  | .error j => .error j

theorem traceRoute_cons {f : End} (h : enteredAs s z e y = some f) (xs : List (Fin 48)) (i : Nat) :
    traceRoute s z e (y :: xs) i = s.onward y f xs i := by
  rw [traceRoute, h]
  rfl

theorem traceRoute_stops (h : enteredAs s z e y = none) (xs : List (Fin 48)) (i : Nat) : traceRoute s z e (y :: xs) i = .error i := by
  rw [traceRoute, h]

end

/-- A route is traced through the layout alone. -/
theorem traceRoute_taking (tag : Nat) (r : Request) (z : Fin 48) (e : End) (xs : List (Fin 48)) (i : Nat) :
    traceRoute (s.taking tag r) z e xs i = traceRoute s z e xs i := by
  induction xs generalizing z e i with
  | nil => rfl
  | cons y xs ih =>
    have h : enteredAs (s.taking tag r) z e y = enteredAs s z e y := rfl
    simp only [traceRoute, h, ih]

/-! ## TRAIN_ROUTE check by check (R91, R92) -/

theorem doTrainRoute_count {train mode : Nat} {secs : List Nat} (h : 7 < train ∨ 1 < mode ∨ secs.length < 1 ∨ 12 < secs.length) :
    doTrainRoute train mode secs s = (s, refuseAt .outOfRange 0 0 0) := by
  unfold doTrainRoute
  split
  · next t m ht hm =>
    rw [fin?_eq_some_iff] at ht
    have hmode : ¬1 < mode := fun hlt => by simp [reserveModeOf_beyond hlt] at hm
    exact if_pos ((h.resolve_left (by omega)).resolve_left hmode)
  · rfl

/-- The first section beyond the part's is named (log entry 32). -/
theorem doTrainRoute_beyond {m : ReserveMode} {before after : List Nat} {x : Nat} {secs : List Nat} (hs : secs = before ++ x :: after)
    (h12 : secs.length ≤ 12) (hb : ∀ y ∈ before, y ≤ 47) (hx : 47 < x) :
    doTrainRoute t.1 m.code secs s = (s, refuseAt .outOfRange 0 before.length 0) := by
  have hlen : ¬(secs.length < 1 ∨ 12 < secs.length) := by
    rw [hs, List.length_append, List.length_cons] at h12 ⊢
    omega
  have hr : readSections secs 0 = .error before.length := by rw [hs, readSections_beyond hb hx, Nat.zero_add]
  rw [doTrainRoute, fin?_val, reserveModeOf_code]
  simp only [if_neg hlen, hr]

section
variable {m : ReserveMode} {xs before after : List (Fin 48)} {x y : Fin 48} {sense : Sense} {l : List (Fin 48 × End)} {i : Nat}

theorem routeClash_eq (s : State) (t : Fin 8) (xs : List (Fin 48)) :
    routeClash s t xs = firstIdx (clashesAt ((s.heldOf t).map Prod.fst).contains xs) (List.range xs.length) 0 := rfl

theorem routeClash_none (hn : xs.Nodup) (hh : ∀ x ∈ xs, x ∉ (s.heldOf t).map Prod.fst) : routeClash s t xs = none :=
  (routeClash_eq s t xs).trans (firstIdx_noClash hn fun x hx => by simpa using hh x hx)

theorem routeClash_append (hn : before.Nodup) (hb : ∀ z ∈ before, z ∉ (s.heldOf t).map Prod.fst)
    (hx : x ∈ before ∨ x ∈ (s.heldOf t).map Prod.fst) : routeClash s t (before ++ x :: after) = some before.length :=
  (routeClash_eq s t _).trans (firstIdx_clash hn (fun z hz => by simpa using hb z hz) (hx.imp_right List.contains_iff_mem.mpr) after)

variable (h1 : 1 ≤ xs.length) (h12 : xs.length ≤ 12)
include h1 h12

theorem doTrainRoute_wrongState (h : (s.trains.get t).state = .unplaced ∨ (s.trains.get t).state = .halted) :
    doTrainRoute t.1 m.code (xs.map Fin.val) s = (s, refuse .wrongState) := by
  have hlen : ¬((xs.map Fin.val).length < 1 ∨ 12 < (xs.map Fin.val).length) := by rw [List.length_map]; omega
  rw [doTrainRoute, fin?_val, reserveModeOf_code]
  simp only [if_neg hlen, readSections_val]
  exact if_pos (by rcases h with h | h <;> simp [h])

variable (hst : (s.trains.get t).state = .standing ∨ (s.trains.get t).state = .running) (hf : s.frontOf t = some (y, sense))
include hst hf

/-- With its sections in range, TRAIN_ROUTE of a train that may run is its trace and its clash. -/
theorem doTrainRoute_read : doTrainRoute t.1 m.code (xs.map Fin.val) s =
    match traceRoute s y sense.exitEnd xs 0 with
    | .error 0 => (s, refuseAt .notAdjacent 2 0 0)
    | .error i => (s, refuseAt .notAdjacent 3 i 0)
    | .ok l => match routeClash s t xs with
      | some i => (s, refuseAt .notAdjacent 4 i 0)
      | none => (((routeEnding t (withdrawClaim t s)).modTrain t fun x => { x with queue := l, mode := m, routeEnd := xs.getLast? }).later
          (.claim t), taken) := by
  have hlen : ¬((xs.map Fin.val).length < 1 ∨ 12 < (xs.map Fin.val).length) := by rw [List.length_map]; omega
  rw [doTrainRoute, fin?_val, reserveModeOf_code]
  simp only [if_neg hlen, readSections_val, if_neg (not_not_intro hst), hf] <;> rfl

theorem doTrainRoute_untraced (h : traceRoute s y sense.exitEnd xs 0 = .error i) :
    doTrainRoute t.1 m.code (xs.map Fin.val) s = (s, refuseAt .notAdjacent (if i = 0 then 2 else 3) i 0) := by
  rw [doTrainRoute_read h1 h12 hst hf, h]
  cases i <;> rfl

variable (htr : traceRoute s y sense.exitEnd xs 0 = .ok l)
include htr

theorem doTrainRoute_clash (hl : xs = before ++ x :: after) (hn : before.Nodup) (hb : ∀ z ∈ before, z ∉ (s.heldOf t).map Prod.fst)
    (hx : x ∈ before ∨ x ∈ (s.heldOf t).map Prod.fst) :
    doTrainRoute t.1 m.code (xs.map Fin.val) s = (s, refuseAt .notAdjacent 4 before.length 0) := by
  have hclash : routeClash s t xs = some before.length := by rw [hl, routeClash_append hn hb hx]
  rw [doTrainRoute_read h1 h12 hst hf]
  simp only [htr, hclash]

theorem doTrainRoute_taken (hn : xs.Nodup) (hh : ∀ x ∈ xs, x ∉ (s.heldOf t).map Prod.fst) :
    doTrainRoute t.1 m.code (xs.map Fin.val) s = (((routeEnding t (withdrawClaim t s)).modTrain t fun x =>
      { x with queue := l, mode := m, routeEnd := xs.getLast? }).later (.claim t), taken) := by
  rw [doTrainRoute_read h1 h12 hst hf]
  simp only [htr, routeClash_none hn hh]

end

/-! ## TRAIN_DIRECTION (R102) -/

/-- The head is an OCCUPIED section of the held list. -/
theorem headIndex_occupied {i : Nat} (h : s.headIndex t = some i) : ∃ e, (s.heldOf t)[i]? = some e ∧ s.sec e.1 = .occupied t := by
  obtain ⟨⟨e, j⟩, hlast, rfl⟩ := Option.map_eq_some_iff.mp h
  obtain ⟨hmem, hocc⟩ := List.mem_filter.mp (List.mem_of_getLast? hlast)
  exact ⟨e, List.mem_zipIdx_iff_getElem?.mp hmem, by simpa using hocc⟩

theorem doTrainDirection_beyond {train : Nat} (h : 7 < train) : doTrainDirection train s = (s, refuse .outOfRange) := by
  rw [doTrainDirection, fin?_eq_none_iff.mpr h]

theorem doTrainDirection_busy
    (h : (s.trains.get t).state ≠ .standing ∨ (s.trains.get t).queue ≠ [] ∨ (s.trains.get t).claim ≠ .none) :
    doTrainDirection t.1 s = (s, refuse .wrongState) := by
  rw [doTrainDirection, fin?_val]
  exact if_pos (h.imp_right fun h => .inr (.inr h))

section
variable {rear : List (Fin 48 × Sense)} {h : Fin 48 × Sense} (hl : s.heldOf t = rear ++ [h])
include hl

/-- A train whose front is not OCCUPIED has its head elsewhere or nowhere. -/
theorem doTrainDirection_frontOpen (hh : s.sec h.1 ≠ .occupied t) : doTrainDirection t.1 s = (s, refuse .wrongState) := by
  have hhead : s.headIndex t ≠ some ((s.trains.get t).held.length - 1) := fun hi => by
    obtain ⟨e, he, hocc⟩ := headIndex_occupied hi
    change (s.heldOf t)[(s.heldOf t).length - 1]? = some e at he
    rw [hl, List.length_append, List.length_singleton, Nat.add_sub_cancel, List.getElem?_concat_length, Option.some.injEq] at he
    exact hh (he ▸ hocc)
  rw [doTrainDirection, fin?_val]
  exact if_pos (.inr (.inr (.inl hhead)))

theorem doTrainDirection_turns (hh : s.sec h.1 = .occupied t) (hst : (s.trains.get t).state = .standing)
    (hq : (s.trains.get t).queue = []) (hc : (s.trains.get t).claim = .none) : doTrainDirection t.1 s =
      (resync t (s.modTrain t fun x => { x with held := (x.held.map fun e => (e.1, e.2.flip)).reverse, requested := 0 }), okay) := by
  have hhead : s.headIndex t = some rear.length := headIndex_frontmost hl hh (fun _ hk => absurd hk List.not_mem_nil)
  have hlen : (s.trains.get t).held.length = rear.length + 1 := (congrArg List.length hl).trans List.length_append
  rw [doTrainDirection, fin?_val]
  exact if_neg (by simp [hst, hq, hc, hhead, hlen])

end

/-! ## TRAIN_RELEASE (R94) -/

theorem unserve_serving {p : Fin 24} {w : Position} {ms : Nat} (h : s.track.unit_ = .pulsing p w ms (some t)) :
    unserve t s = s.setUnit (.pulsing p w ms none) := by
  simp only [unserve, h, if_pos]

theorem unserve_other (h : ∀ p w ms, s.track.unit_ ≠ .pulsing p w ms (some t)) : unserve t s = s := by
  unfold unserve
  split
  · next p w ms u hu => exact if_neg fun hut : u = t => h p w ms (hut ▸ hu)
  · rfl

/-- A train with an OCCUPIED section gives up every other. -/
theorem releasable_occupied (h : ∃ x ∈ (s.heldOf t).map Prod.fst, s.sec x = .occupied t) :
    releasable s t = ((s.heldOf t).map Prod.fst).filter (fun x => s.sec x != .occupied t) := by
  obtain ⟨x, hx, hocc⟩ := h
  refine if_pos (List.length_filter_lt_length_iff_exists.mpr ⟨x, hx, ?_⟩)
  simp [hocc]

/-- Without an OCCUPIED section, what is given up turns on the frontmost section that is not PENDING. -/
theorem releasable_unoccupied (h : ∀ y ∈ (s.heldOf t).map Prod.fst, s.sec y ≠ .occupied t) : releasable s t =
    match (((s.heldOf t).map Prod.fst).filter fun x => s.sec x != .pending t).getLast? with
    | some keep => ((s.heldOf t).map Prod.fst).filter fun x => x != keep
    | none => ((s.heldOf t).map Prod.fst).drop 1 := by
  have hall : (((s.heldOf t).map Prod.fst).filter fun x => s.sec x != .occupied t) = (s.heldOf t).map Prod.fst :=
    List.filter_eq_self.mpr fun y hy => by simpa using h y hy
  rw [releasable]
  simp only [hall, if_neg (Nat.lt_irrefl _)] <;> rfl

/-- A train with a section that is not PENDING keeps nothing back. -/
theorem keepIfAllPending_id (h : ∃ x ∈ (s.heldOf t).map Prod.fst, s.sec x ≠ .pending t) : keepIfAllPending t s = s := by
  obtain ⟨x, hx, hne⟩ := h
  unfold keepIfAllPending
  dsimp only
  split
  · next prev rest hl =>
    refine if_neg fun hall => hne ?_
    simpa using List.all_eq_true.mp hall x hx
  · rfl

section
variable {x : Fin 48} {rear front : List (Fin 48)}

theorem releasable_keeps (hl : (s.heldOf t).map Prod.fst = rear ++ x :: front) (ho : ∀ y ∈ (s.heldOf t).map Prod.fst, s.sec y ≠ .occupied t)
    (hx : s.sec x ≠ .pending t) (hf : ∀ y ∈ front, s.sec y = .pending t) :
    releasable s t = ((s.heldOf t).map Prod.fst).filter (fun y => y != x) := by
  have hnil : (front.filter fun y => s.sec y != .pending t) = [] := List.filter_eq_nil_iff.mpr fun y hy => by simp [hf y hy]
  have hkeep : (((s.heldOf t).map Prod.fst).filter fun y => s.sec y != .pending t).getLast? = some x := by
    rw [hl, List.filter_append, List.filter_cons_of_pos (by simpa using hx), hnil, List.getLast?_concat]
  rw [releasable_unoccupied ho, hkeep]

variable (hl : (s.heldOf t).map Prod.fst = x :: front) (hp : ∀ y ∈ (s.heldOf t).map Prod.fst, s.sec y = .pending t)
include hl hp

theorem releasable_allPending : releasable s t = front := by
  have hnil : (((s.heldOf t).map Prod.fst).filter fun y => s.sec y != .pending t) = [] :=
    List.filter_eq_nil_iff.mpr fun y hy => by simp [hp y hy]
  rw [releasable_unoccupied fun y hy => by simp [hp y hy], hnil, hl]
  rfl

theorem keepIfAllPending_keeps : keepIfAllPending t s = keepPrev t x s := by
  rw [hl] at hp
  simp only [keepIfAllPending, hl]
  exact if_pos (List.all_eq_true.mpr fun y hy => by simp [hp y hy])

end

theorem withdrawClaim_granted {x : Fin 48} (h : (s.trains.get t).claim = .granted x) : withdrawClaim t s = s := by
  simp only [withdrawClaim, h]

/-- No withdrawal makes a grant. -/
theorem withdrawClaim_notGranted (h : ∀ x, (s.trains.get t).claim ≠ .granted x) (x : Fin 48) :
    ((withdrawClaim t s).trains.get t).claim ≠ .granted x := by
  unfold withdrawClaim
  split
  · simp
  · exact h x

theorem doTrainRelease_beyond {train : Nat} (h : 7 < train) : doTrainRelease train s = (s, refuse .outOfRange) := by
  rw [doTrainRelease, fin?_eq_none_iff.mpr h]

theorem doTrainRelease_unplaced (h : (s.trains.get t).placed = false) : doTrainRelease t.1 s = (s, refuse .wrongState) := by
  rw [doTrainRelease, fin?_val]
  exact if_pos h

/-- What the train may give up is released, and no pulse serves a grant of its any more (R72, R94; log entry 40). -/
def releaseHeld (t : Fin 8) (s : State) : State := unserve t (forEach (releasable s t) (releaseSec t) (keepIfAllPending t s))

/-- Whether a claim is a grant in flight. -/
def Claim.inFlight : Claim → Bool
  | .granted _ => true
  | _ => false

theorem Claim.inFlight_iff {c : Claim} : c.inFlight = true ↔ ∃ x, c = .granted x := by cases c <;> simp [Claim.inFlight]

theorem doTrainRelease_placed {s1 : State} (hp : (s.trains.get t).placed = true)
    (h1 : withdrawClaim t (s.modTrain t fun x => { x with queue := [] }) = s1) :
    doTrainRelease t.1 s = (resync t (if (s1.trains.get t).claim.inFlight then routeFault t .released (releaseHeld t s1)
      else (routeEnding t (releaseHeld t s1)).modTrain t fun x => { x with routeEnd := none }), okay) := by
  rw [doTrainRelease, fin?_val]
  simp only [hp, h1, Bool.true_eq_false, if_false]
  rfl

theorem doTrainRelease_ungranted (hp : (s.trains.get t).placed = true) (hc : ∀ x, (s.trains.get t).claim ≠ .granted x) :
    doTrainRelease t.1 s = (resync t ((routeEnding t (releaseHeld t (withdrawClaim t (s.modTrain t fun x => { x with queue := [] })))).modTrain t
      fun x => { x with routeEnd := none }), okay) := by
  have hclaim (x : Fin 48) : ((s.modTrain t fun x => { x with queue := [] }).trains.get t).claim ≠ .granted x := by simpa using hc x
  rw [doTrainRelease_placed hp rfl, if_neg]
  rw [Claim.inFlight_iff]
  exact fun ⟨x, hx⟩ => withdrawClaim_notGranted hclaim x hx

theorem doTrainRelease_granted {x : Fin 48} (hp : (s.trains.get t).placed = true) (hc : (s.trains.get t).claim = .granted x) :
    doTrainRelease t.1 s = (resync t (routeFault t .released (releaseHeld t (s.modTrain t fun x => { x with queue := [] }))), okay) := by
  have hclaim : ((s.modTrain t fun x => { x with queue := [] }).trains.get t).claim = .granted x := by simpa using hc
  rw [doTrainRelease_placed hp (withdrawClaim_granted hclaim), if_pos (Claim.inFlight_iff.mpr ⟨x, hclaim⟩)]

end Sys2Proof.Machine
end


section
/-! SUPPORT. AXIS_CONFIG check by check and the record it leaves (R60, R106). -/

namespace Sys2Proof

/-- The revolution, the offset and both limits are in range (R106). -/
def RawAxisConfig.inRange (c : RawAxisConfig) : Prop :=
  2 ≤ c.spr ∧ c.spr ≤ 65535 ∧ c.offset < c.spr ∧ -1000000 ≤ c.low ∧ c.low ≤ 0 ∧ 0 ≤ c.high ∧ c.high ≤ 1000000

/-- The gate positions fit: in range, unequal and with 0 between them or at one (R106). -/
def RawAxisConfig.gatesFit (c : RawAxisConfig) : Prop :=
  -1000000 ≤ c.openPos ∧ c.openPos ≤ 1000000 ∧ -1000000 ≤ c.closedPos ∧ c.closedPos ≤ 1000000 ∧ c.openPos ≠ c.closedPos ∧
    min c.openPos c.closedPos ≤ 0 ∧ 0 ≤ max c.openPos c.closedPos

end Sys2Proof

namespace Sys2Proof.Machine

variable {s : State} {a : Fin 8} {k : AxisKind} {c : RawAxisConfig}

/-- An axis that may be configured: UNHOMED, IDLE, or in FAULT at rest (R106). -/
abbrev Axis.still (x : Axis) : Prop := x.state = .unhomed ∨ x.state = .idle ∨ (x.state = .fault ∧ x.v = 0)

/-- A configuration leaves all but speeds, accel, creep and tolerance as they were (R106). -/
def Axis.sameShape (k : AxisKind) (c : RawAxisConfig) (x : Axis) : Prop :=
  x.kind = k ∧ x.spr = c.spr ∧ x.offset = c.offset ∧ x.low = c.low ∧ x.high = c.high ∧ x.openPos = c.openPos ∧ x.closedPos = c.closedPos

/-! ## The checks of the fields (R106) -/

theorem gatePositionsValid_iff : gatePositionsValid c.openPos c.closedPos = true ↔ c.gatesFit := by
  simp [gatePositionsValid, RawAxisConfig.gatesFit, and_assoc]

/-- The range checks as they are made: the revolution with its offset, then the limits. -/
theorem inRange_iff : c.inRange ↔
    ¬(c.spr < 2 ∨ 65535 < c.spr ∨ c.spr ≤ c.offset) ∧ ¬(c.low < -1000000 ∨ 0 < c.low ∨ c.high < 0 ∨ 1000000 < c.high) := by
  unfold RawAxisConfig.inRange
  omega

/-! ## AXIS_CONFIG check by check (R60, R106) -/

theorem doAxisConfig_beyond {axis : Nat} (h : 7 < axis ∨ 2 < c.kind) : doAxisConfig axis c s = (s, refuse .outOfRange) := by
  unfold doAxisConfig
  split
  · next a k ha hk =>
    rw [fin?_eq_some_iff] at ha
    have hkind : ¬2 < c.kind := fun hlt => by simp [axisKindOf_beyond hlt] at hk
    omega
  · rfl

section
variable {i : Fin 4} {rest : List (Fin 4)} (hk : c.kind = k.code)
include hk

theorem doAxisConfig_outOfRange (h : ¬c.inRange) : doAxisConfig a.1 c s = (s, refuse .outOfRange) := by
  rw [doAxisConfig, fin?_val, hk, axisKindOf_code]
  rw [inRange_iff, not_and_or, not_not, not_not] at h
  by_cases hspr : c.spr < 2 ∨ 65535 < c.spr ∨ c.spr ≤ c.offset
  · exact if_pos hspr
  · exact (if_neg hspr).trans (if_pos (h.resolve_left hspr))

variable (hr : c.inRange)
include hr

theorem doAxisConfig_invalid (hg : ¬c.gatesFit) : doAxisConfig a.1 c s = (s, refuse .invalid) := by
  obtain ⟨hspr, hlim⟩ := inRange_iff.mp hr
  rw [← gatePositionsValid_iff, Bool.not_eq_true] at hg
  rw [doAxisConfig, fin?_val, hk, axisKindOf_code]
  exact (if_neg hspr).trans ((if_neg hlim).trans (if_pos hg))

variable (hg : c.gatesFit)
include hg

/-- With its fields right, AXIS_CONFIG turns on the axis's state and on the crossings it serves. -/
theorem doAxisConfig_read : doAxisConfig a.1 c s =
    if ¬(s.axes.get a).still then (s, refuse .wrongState)
    else match s.crossingsOf a with
      | i :: _ =>
        if s.track.config = .operational ∧ k ≠ .gate then (s, refuseAt .inUse 5 i.1 0)
        else (syncGate a (s.modAxis a (Axis.reconfigure k c)), okay.clampedBy (axisConfigClamps c))
      | [] => (syncGate a (s.modAxis a (Axis.reconfigure k c)), okay.clampedBy (axisConfigClamps c)) := by
  obtain ⟨hspr, hlim⟩ := inRange_iff.mp hr
  rw [doAxisConfig, fin?_val, hk, axisKindOf_code]
  simp only [if_neg hspr, if_neg hlim, gatePositionsValid_iff.mpr hg, Bool.true_eq_false, if_false] <;> rfl

theorem doAxisConfig_wrongState (h : ¬(s.axes.get a).still) : doAxisConfig a.1 c s = (s, refuse .wrongState) := by
  rw [doAxisConfig_read hk hr hg, if_pos h]

variable (hs : (s.axes.get a).still)
include hs

theorem doAxisConfig_gateAxis (hne : k ≠ .gate) (hc : s.track.config = .operational) (hi : s.crossingsOf a = i :: rest) :
    doAxisConfig a.1 c s = (s, refuseAt .inUse 5 i.1 0) := by
  rw [doAxisConfig_read hk hr hg, if_neg (not_not_intro hs), hi]
  exact if_pos ⟨hc, hne⟩

theorem doAxisConfig_stored (h : k = .gate ∨ s.track.config ≠ .operational ∨ s.crossingsOf a = []) : doAxisConfig a.1 c s =
    (syncGate a (s.modAxis a (Axis.reconfigure k c)), { code := .ok, clamped := axisConfigClamps c, data := [] }) := by
  rw [doAxisConfig_read hk hr hg, if_neg (not_not_intro hs)]
  split
  · next i rest hi =>
    refine if_neg fun ⟨hc, hne⟩ => ?_
    rcases h with h | h | h
    · exact hne h
    · exact h hc
    · simp [hi] at h
  · rfl

end

/-- The lowest crossing of a gate axis stands first among them. -/
theorem crossingsOf_eq_cons {i : Fin 4} (hi : s.gateAxisOf i a) (hmin : ∀ j, j < i → ¬s.gateAxisOf j a) :
    ∃ rest, s.crossingsOf a = i :: rest := by
  have hasc : (s.crossingsOf a).Pairwise (· < ·) := (indices_ascending 4).filter _
  have hmem : i ∈ s.crossingsOf a := mem_crossingsOf.mpr hi
  cases hl : s.crossingsOf a with
  | nil => simp [hl] at hmem
  | cons j rest =>
    rw [hl] at hasc hmem
    obtain rfl | hrest := List.mem_cons.mp hmem
    · exact ⟨rest, rfl⟩
    · exact absurd (mem_crossingsOf.mp (hl ▸ List.mem_cons_self)) (hmin j (List.rel_of_pairwise_cons hasc hrest))

/-! ## The record left (R106) -/

theorem differsIn_eq_false_iff {x : Axis} : x.differsIn k c = false ↔ x.sameShape k c := by
  simp [Axis.differsIn, Axis.sameShape, and_assoc]

theorem reconfigure_homed_iff {x : Axis} : (x.reconfigure k c).homed = true ↔ x.homed = true ∧ x.sameShape k c ∧ x.state ≠ .fault := by
  rw [← differsIn_eq_false_iff]
  simp [Axis.reconfigure, and_assoc]

theorem reconfigure_state {x : Axis} : (x.reconfigure k c).state = if (x.reconfigure k c).homed = true then .idle else .unhomed := rfl

/-- The angle is left unless the new revolution of a ROTARY axis does not hold it. -/
theorem reconfigure_pos {x : Axis} (h : ¬(k = .rotary ∧ ¬(0 ≤ x.pos ∧ x.pos < c.spr))) : (x.reconfigure k c).pos = x.pos := if_neg h

theorem clampTo_eq (lo hi n : Nat) : clampTo lo hi n = max lo (min hi n) := rfl

theorem axisConfigClamps_iff : axisConfigClamps c = true ↔ c.maxSpeed < 1 ∨ 20000 < c.maxSpeed ∨ c.accel < 1 ∨ 2000 < c.accel ∨ c.creep < 1 ∨
    1000 < c.creep ∨ 1000 < c.tolerance ∨ max 1 (min 20000 c.maxSpeed) < max 1 (min 1000 c.creep) := by
  simp [axisConfigClamps, clampTo_eq, or_assoc]

end Sys2Proof.Machine
end


section
/-! SUPPORT. The statements of the track layout's family settled: each by its lemmas above. -/

namespace Sys2Proof.Layout

open Sys2Proof.Machine

/-- Settles O29: LAYOUT_OPEN by the lowest placed train and the configuration, LAYOUT_CLOSE by its first failure, the couplings by the
crossing's demand. -/
theorem layoutOpenClose : Obligations.LayoutOpenClose := by
  refine ⟨fun tag s h => ⟨fun t ht hmin => ?_, fun hno => ⟨fun hc => ?_, fun hc => ?_, fun hc => ?_⟩⟩,
    fun tag s h => ⟨fun hc => ?_, fun row index e hc hf => ?_, fun hc hf => ?_, ?_⟩, fun c s => ⟨fun strays hasc hmem => ?_, ?_, ?_⟩,
    fun s => ?_⟩
  · exact exec_query h rfl rfl (doLayoutOpen_placed (firstPlaced_eq_some ht hmin))
  · exact exec_query h rfl rfl (doLayoutOpen_editing (firstPlaced_eq_none hno) hc)
  · exact exec_served h rfl rfl (doLayoutOpen_unconfigured (firstPlaced_eq_none hno) hc)
  · exact exec_served h rfl rfl (doLayoutOpen_operational (firstPlaced_eq_none hno) hc)
  · exact exec_query h rfl rfl (doLayoutClose_notEditing hc)
  · exact exec_query h rfl rfl (doLayoutClose_invalid hc ((layoutFailure_taking s _ _).trans hf))
  · exact exec_served h rfl rfl (doLayoutClose_valid hc ((layoutFailure_taking s _ _).trans hf))
  · obtain ⟨hconfig, -, hdefs, hpoints, htrains, hlight, hsupply⟩ := enterService_keeps s
    exact ⟨hconfig, enterService_sec s, hdefs, hpoints, htrains, hlight, hsupply⟩
  · rw [← straysOf_eq hasc hmem]
    exact enterService_eq s
  · exact startCoupling_undefined
  · intro d hd k delay
    refine ⟨startCoupling_engaged hd, fun he hw => ?_, fun he hw hn => ?_, fun he hw hn => ?_⟩
    · exact (startCoupling_close hd he hw).trans (by rw [← hw]; rfl)
    · exact (startCoupling_delayed hd he hw hn).trans (by rw [← hw]; rfl)
    · exact (startCoupling_opens hd he hw hn).trans (by rw [← hw]; rfl)
  · have first := firstFailure_layout s
    intro present leadsBack isToe fails
    refine ⟨first.eq_none_iff.trans ⟨fun h row index e => h (row, index, e), fun h a => h a.1 a.2.1 a.2.2⟩, fun row index e => ?_⟩
    refine (first.eq_some_iff (row, index, e)).trans (and_congr_right fun _ => ?_)
    exact ⟨fun h row' index' e' => h (row', index', e'), fun h a => h a.1 a.2.1 a.2.2⟩

/-- Settles O30: the two links by the check each fails, then the checks that compare them. -/
theorem sectionDefinition : Obligations.SectionDefinition := by
  intro tag x a b clearance filter s h
  refine ⟨fun la lb hc ha hb hna hnb hp => ?_, fun hc => ⟨readLink_eq_error_iff, fun row ha hb => ?_, fun row hb ha => ?_,
      fun lb ha hb => ?_, fun la ha hna hb => ?_, fun p ha hb => ?_, fun sec hsec => ⟨?_, ?_⟩⟩,
    rfl, fun y => ⟨readLink_plain y .a, readLink_plain y .b⟩, fun p => readLink_point p 0, fun hc hm => ?_, fun c hc hm => ?_,
    fun hc => ⟨fun sec => ?_, fun sec => ?_, fun p d => ?_, fun c d => ?_⟩⟩
  · exact exec_served h rfl rfl (doSectionDefine_stored hc ha hb hna hnb hp)
  · exact exec_query h rfl rfl (doSectionDefine_failsA hc ha hb)
  · exact exec_query h rfl rfl (doSectionDefine_failsB hc hb ha)
  · exact exec_query h rfl rfl (doSectionDefine_ownEndA hc ha hb)
  · exact exec_query h rfl rfl (doSectionDefine_ownEndB hc ha hna hb)
  · exact exec_query h rfl rfl (doSectionDefine_samePoint hc ha hb)
  · exact exec_query h rfl rfl (doSectionDefine_beyond hc hsec)
  · exact exec_query h rfl rfl (doSectionForget_beyond hc hsec)
  · exact exec_served h rfl rfl (doSectionForget_forgets hc hm)
  · exact exec_query h rfl rfl (doSectionForget_member hc hm)
  · exact exec_query h rfl rfl (doSectionDefine_notEditing hc)
  · exact exec_query h rfl rfl (doSectionForget_notEditing hc)
  · exact exec_query h rfl rfl (doPointDefine_notEditing hc)
  · exact exec_query h rfl rfl (doCrossingDefine_notEditing hc)

/-- Settles O31: each definition check by check; of several items the first, of several crossings the lowest. -/
theorem pointAndCrossingDefinition : Obligations.PointAndCrossingDefinition := by
  intro tag p c s h hc
  refine ⟨fun x n v ne ve pulse hlegs hp => ?_, fun hp => ?_, fun hp => ?_, fun d => ⟨fun hd => ?_, fun hd hp => ?_,
      fun hd hp hsec hend => ?_⟩, fun n d hn => ?_, fun n d hn => ?_, fun d hd => ?_,
    fun a members delay timeout h1 h4 => ⟨?_, fun before x after hl hn hb hx => ?_, fun k r hn hfree hk hr ha hmin => ?_⟩,
    fun a members delay timeout h1 h4 hn hfree haxis => ?_, ?_⟩
  · exact exec_served h rfl rfl (doPointDefine_stored hc hp hlegs)
  · exact exec_served h rfl rfl (doPointDefine_forgets hc hp)
  · exact exec_query h rfl rfl (doPointDefine_forgetPulsing hc hp)
  · exact exec_query h rfl rfl (doPointDefine_outOfRange hc hd)
  · obtain ⟨x, n, v, ne, ve, hd⟩ := rawPoint_inRange hd
    rw [hd]
    exact exec_query h rfl rfl (doPointDefine_pulsing hc hp)
  · obtain ⟨x, n, v, ne, ve, hd⟩ := rawPoint_inRange hd
    rw [hd] at hsec hend ⊢
    obtain rfl : n = v := Fin.ext hsec
    obtain rfl : ne = ve := End.code_injective hend
    exact exec_query h rfl rfl (doPointDefine_equalLegs hc hp)
  · exact exec_query h rfl rfl (doPointDefine_beyond hc hn)
  · exact exec_query h rfl rfl (doCrossingDefine_beyond hc hn)
  · exact exec_query h rfl rfl (doCrossingDefine_outOfRange hc hd)
  · rintro before x after rfl hn hx
    exact exec_query h rfl rfl (doCrossingDefine_repeat hc h1 h4 (firstRepeat_append hn hx after))
  · subst hl
    exact exec_query h rfl rfl (doCrossingDefine_memberTaken hc h1 h4 (firstRepeat_none hn) (memberTaken_append hb hx after))
  · exact exec_query h rfl rfl (doCrossingDefine_axisTaken hc h1 h4 (firstRepeat_none hn) (memberTaken_none hfree)
      (axisTaken_eq_some ⟨r, hr, ha⟩ hk fun j hj hne ⟨r', hr', ha'⟩ => hmin j r' hj hne hr' ha'))
  · refine exec_served h rfl rfl (doCrossingDefine_stored hc h1 h4 (firstRepeat_none hn) (memberTaken_none fun x hx ⟨k, hk, hne⟩ => ?_)
      (axisTaken_none fun k ⟨d, hd, ha⟩ => haxis k d hd ha))
    exact hne (hfree x hx k hk)
  · exact exec_served h rfl rfl (doCrossingDefine_none hc)

/-- Settles O34: the row by the timer, a claim by the section's state, a grant by the throw its move needs, the completion by what it
still waits for. -/
theorem claimsAndClearance : Obligations.ClaimsAndClearance := by
  refine ⟨fun x s hw => ⟨fun h hq => ?_, fun t rest e h hq hc => ?_, fun h => ?_⟩,
    fun t x e rest s hq hc hl hh hp => ⟨fun hx => ?_, fun hx => ?_⟩,
    fun t x prev e sense s0 hf => ⟨?_, fun p w => ?_, fun p w => ?_, fun p w => ?_, fun p w => ?_⟩,
    fun a b x y p d s => ⟨fun h hd => ⟨fun hn => ?_, fun hn hr => ?_⟩, fun ha h hd => ⟨fun hn => ?_, fun hn hr => ?_⟩, moveNeeds_none⟩,
    fun t x s hc => ⟨completeGrant_complete hc, completeGrant_waits hc⟩,
    fun t x s => ⟨clearSec_eq x s, rfl, dropGrantThrow_work, fun q => mem_dropGrantThrow, fun st => ⟨fun h => setSec_noCrossing h st,
      fun c h => setSec_crossing h st⟩⟩⟩
  · rw [exec_clearanceExpiry_due hw h, expireSec_free h hq]
  · rw [exec_clearanceExpiry_due hw h, expireSec_grants h hq hc]
  · exact exec_clearanceExpiry_running hw h
  · exact (testClaim_claims hq hc hl hh hp).trans (if_pos hx)
  · exact (testClaim_claims hq hc hl hh hp).trans (if_neg hx)
  · exact grant_free hf
  · exact grant_inPlace hf
  · exact grant_ownThrow hf
  · exact grant_prevThrow hf
  · exact grant_noThrow hf
  · rw [moveNeeds_toe h hd, if_pos hn]
  · rw [moveNeeds_toe h hd, if_neg hn, if_pos hr]
  · rw [moveNeeds_leg ha h hd, if_pos hn]
  · rw [moveNeeds_leg ha h hd, if_neg hn, if_pos hr]

/-- Settles O35: the filter by the confirmed state and the sample, the rows by whether track power is on and what the sample confirms. -/
theorem detectors : Obligations.Detectors := by
  refine ⟨fun filter d => ⟨Detector.sample_emptyAgain filter, fun h hp => ?_, fun h hp => ?_, Detector.sample_occupiedAgain filter,
    fun h hp => ?_, fun h hp => ?_⟩, fun levels x s h => ⟨exec_detectorSample h levels, exec_detectorEnter h x, exec_detectorLeave h x,
      fun hoff => ⟨wouldConfirm_frozen hoff x, sampleDetector_frozen hoff x⟩, trackPowered_iff, fun hon => ?_⟩⟩
  · rw [Detector.sample_rising filter h, if_neg (by omega)]
  · rw [Detector.sample_rising filter h, if_pos hp]
  · rw [Detector.sample_falling filter h, if_pos hp]
  · rw [Detector.sample_falling filter h, if_neg (by omega)]
  · have hs := sampleDetector_powered hon x
    refine ⟨wouldConfirm_powered hon x, fun h => hs.trans (takeConfirm_idle h), fun hserved he => hs.trans ?_, fun hserved hl => hs.trans ?_⟩
    · exact (congrArg (takeConfirm x · _) he).trans (takeConfirm_enter hserved)
    · exact (congrArg (takeConfirm x · _) hl).trans (takeConfirm_leave hserved)

/-- Settles O36: an entry by the section's state, by whether it is its holder's own, and by how many trains face it; a halt by whether it
is the first; a leave by the section's place among the train's OCCUPIED ones. -/
theorem entriesAndLeaves : Obligations.EntriesAndLeaves := by
  refine ⟨fun x t s => ⟨fun h hn => ?_, fun h hn => ?_, takeEnter_again, ?_⟩,
    fun x y t e s => ⟨facingEnd_eq_some_iff, nextAhead_noHead, fun rear front h sense hl hh hf => ?_, fun rear h hl hh => ?_,
      fun hp => ⟨fun f hf => presentNeighbour_plain hp hf, fun p d h hd hlegs => presentNeighbour_point hp h hd hlegs,
        presentNeighbour_buffer hp⟩⟩,
    fun t f s => ⟨halt_first f, halt_again f⟩,
    fun x t s => ⟨takeLeave_stray, fun h hl => ?_, fun y rest h hl hm => ?_, fun y rest h hl hm => ?_, fun y rest h hl hy => ?_⟩⟩
  · rw [takeEnter_reserved h, attributeHeld_own (.inl hn)]
    rfl
  · rw [takeEnter_open (.inl h), attributeOpen_nobody hn]
    rfl
  · intro mine
    refine ⟨fun h hm => ?_, fun h hm => ?_, fun h hm => ?_, ?_⟩
    · rw [takeEnter_reserved h, attributeHeld_own hm]
      rfl
    · rw [takeEnter_pending h, attributeHeld_own hm]
      rfl
    · exact takeEnter_conflict h hm
    · intro stray h
      refine ⟨fun hn => ?_, fun e he hn => ?_, fun u hu ht hu' => ?_⟩
      · exact (takeEnter_open h).trans (attributeOpen_nobody (facingTrains_none hn))
      · exact (takeEnter_open h).trans (attributeOpen_one (facingTrains_one he hn) he)
      · exact (takeEnter_open h).trans (attributeOpen_several (facingTrains_several hu ht hu'))
  · rw [nextAhead_ofHead hl hh hf]
    simp
  · rw [nextAhead_ofHead hl hh (by simp)]
    rfl
  · rw [takeLeave_occupied h, leaveOccupied_last hl]
  · rw [takeLeave_occupied h, leaveOccupied_rear hl, ordinaryLeave_hold hm]
  · rw [takeLeave_occupied h, leaveOccupied_rear hl, ordinaryLeave_autoRelease hm]
  · rw [takeLeave_occupied h, leaveOccupied_front hl hy]

/-- Settles O38: the state by its three records, the authority by the head, the duty by who runs on the section. -/
theorem stateTargetAuthority : Obligations.StateTargetAuthority :=
  ⟨fun _ _ => ⟨Train.state_unplaced_iff _, Train.state_halted_iff _, Train.state_standing_iff _, Train.state_running_iff _,
      effective_placed, effective_unplaced⟩,
    fun _ _ => ⟨authority_noHead, fun _ _ _ _ => authority_eq⟩,
    fun _ _ _ => ⟨sectionDuty_pos, sectionDuty_runsOn, sectionDuty_zero, polarity_off, fun _ => polarity_iff⟩⟩

/-- Settles O40: TRAIN_PLACE by the first check that fails, each check by its first section; TRAIN_REMOVE by the section's state. -/
theorem placeAndRemove : Obligations.PlaceAndRemove := by
  refine ⟨fun tag t l s h h1 h4 => ?_, fun tag t secs s h => ⟨fun train ht => ?_, fun before e after hs h4 hb => ?_⟩,
    fun tag t x s => ⟨fun h => ⟨fun hst hq hc => ?_, fun hno => ?_, fun train ht => ?_⟩, removeSec_occupied, removeSec_other⟩⟩
  · refine ⟨fun hno => ?_, fun before x after hl hs hb hx => ?_, fun before x after hl hs hn hx => ?_,
      fun before a b after hl hs hab hb => ?_, fun before x after hl hs hb hx => ?_, fun hs ho => ?_⟩
    · exact exec_query h rfl rfl (doTrainPlace_wrongState h1 h4 hno)
    · obtain ⟨hc, hp⟩ := hs
      exact exec_query h rfl rfl (doTrainPlace_absent h1 h4 hc hp hl hb hx)
    · obtain ⟨⟨hc, hp⟩, ha⟩ := hs
      exact exec_query h rfl rfl (doTrainPlace_repeat h1 h4 hc hp ha hl hn hx)
    · obtain ⟨⟨⟨hc, hp⟩, ha⟩, hd⟩ := hs
      exact exec_query h rfl rfl (doTrainPlace_notAdjacent h1 h4 hc hp ha hd hl hab hb)
    · obtain ⟨⟨⟨⟨hc, hp⟩, ha⟩, hd⟩, hj⟩ := hs
      exact exec_query h rfl rfl (doTrainPlace_inUse h1 h4 hc hp ha hd hj hl hb hx)
    · obtain ⟨⟨⟨⟨hc, hp⟩, ha⟩, hd⟩, hj⟩ := hs
      exact exec_served h rfl rfl (doTrainPlace_placed h1 h4 hc hp ha hd hj ho)
  · exact exec_query h rfl rfl (doTrainPlace_count ht)
  · exact exec_query h rfl rfl (doTrainPlace_beyond hs h4 hb)
  · exact exec_served h rfl rfl (doTrainRemove_removes hst hq hc)
  · exact exec_query h rfl rfl (doTrainRemove_wrongState hno)
  · exact exec_query h rfl rfl (doTrainRemove_beyond ht)

/-- Settles O41: TRAIN_ROUTE by its trace and its first clash, TRAIN_DIRECTION by the front, TRAIN_RELEASE by the claim. -/
theorem routeRequests : Obligations.RouteRequests := by
  refine ⟨fun tag t m xs s h => ⟨fun y sense l h1 h12 hst hf htr hn hh => ?_, fun y sense h1 h12 hst hf => ⟨fun i hi => ?_,
        fun l before x rest htr hl hn hb hx => ?_⟩, fun h1 h12 hst => ?_, fun hst hq hc ⟨e, rear, hl, he⟩ => ?_, fun e rear hl he => ?_,
      fun hbusy => ?_⟩,
    fun z e xs i y s => ⟨rfl, fun ha => traceRoute_cons (enteredAs_a ha) xs i, fun ha hb => traceRoute_cons (enteredAs_b ha hb) xs i,
      fun ha hb => traceRoute_stops (enteredAs_none ha hb) xs i⟩,
    fun t s => ⟨fun ho => ⟨releasable_occupied ho, ?_⟩, fun rear x front hl ho hx hf => ⟨releasable_keeps hl ho hx hf, ?_⟩,
      fun prev rest hl hp => ⟨releasable_allPending hl hp, keepIfAllPending_keeps hl hp⟩, fun p w ms hu => unserve_serving hu, unserve_other⟩,
    fun tag t m secs s h => ⟨fun train mode hr => ?_, fun before x after hs h12 hb hx => ?_, fun n hn => ⟨?_, ?_⟩⟩,
    fun tag t s h => ⟨fun hp => ?_, fun hp hc => ?_, fun x hp hc => ?_⟩⟩
  · exact exec_served h rfl rfl (doTrainRoute_taken h1 h12 hst hf ((traceRoute_taking ..).trans htr) hn hh)
  · exact exec_query h rfl rfl (doTrainRoute_untraced h1 h12 hst hf ((traceRoute_taking ..).trans hi))
  · exact exec_query h rfl rfl (doTrainRoute_clash h1 h12 hst hf ((traceRoute_taking ..).trans htr) hl hn hb hx)
  · exact exec_query h rfl rfl (doTrainRoute_wrongState h1 h12 hst)
  · exact exec_served h rfl rfl (doTrainDirection_turns hl he hst hq hc)
  · exact exec_query h rfl rfl (doTrainDirection_frontOpen hl he)
  · exact exec_query h rfl rfl (doTrainDirection_busy hbusy)
  · obtain ⟨x, hx, hocc⟩ := ho
    exact keepIfAllPending_id ⟨x, hx, by simp [hocc]⟩
  · exact keepIfAllPending_id ⟨x, by simp [hl], hx⟩
  · exact exec_query h rfl rfl (doTrainRoute_count hr)
  · exact exec_query h rfl rfl (doTrainRoute_beyond hs h12 hb hx)
  · exact exec_query h rfl rfl (doTrainDirection_beyond hn)
  · exact exec_query h rfl rfl (doTrainRelease_beyond hn)
  · exact exec_query h rfl rfl (doTrainRelease_unplaced hp)
  · exact exec_served h rfl rfl (doTrainRelease_ungranted hp hc)
  · exact exec_served h rfl rfl (doTrainRelease_granted hp hc)

/-- Settles O42: AXIS_CONFIG by the first check that fails; the record it leaves field by field. -/
theorem axisConfig : Obligations.AxisConfig := by
  intro tag a k c s h hk
  refine ⟨fun hr => ?_, fun hr hg => ?_, fun hr hg hs => ?_, fun i d hr hg hs hne hc hd ha hmin => ?_, fun axis cfg hb => ?_,
    fun hr hg hs hf => ?_, ?_⟩
  · exact exec_query h rfl rfl (doAxisConfig_outOfRange hk hr)
  · exact exec_query h rfl rfl (doAxisConfig_invalid hk hr hg)
  · exact exec_query h rfl rfl (doAxisConfig_wrongState hk hr hg hs)
  · obtain ⟨rest, hi⟩ := crossingsOf_eq_cons ⟨d, hd, ha⟩ fun j hj ⟨e, he, hax⟩ => hmin j e hj he hax
    exact exec_query h rfl rfl (doAxisConfig_gateAxis hk hr hg hs hne hc hi)
  · exact exec_query h rfl rfl (doAxisConfig_beyond hb)
  · exact exec_served h rfl rfl (doAxisConfig_stored hk hr hg hs hf)
  · exact ⟨rfl, rfl, rfl, rfl, rfl, rfl, rfl, rfl, rfl, rfl, rfl, rfl, rfl, rfl, rfl, rfl, rfl, rfl, rfl, rfl,
      reconfigure_homed_iff, axisConfigClamps_iff, reconfigure_state, reconfigure_pos⟩

end Sys2Proof.Layout
end

section
/-! SUPPORT. The rules of the trains, the axes with the interlock, the players and the held sections, each as it speaks of one record (R68,
R79, R85, R90, R96, R98, R100, R106, R109, R119, R120, R131, R136). -/

namespace Sys2Proof.Table

variable {α : Type} {n : Nat}

/-- A test of every record of a table. -/
theorem all_items_iff (t : Table α n) (p : α → Bool) : t.items.all p = true ↔ ∀ i, p (t.get i) = true := by
  rw [List.all_eq_true]
  refine ⟨fun h i => h _ (List.getElem_mem _), fun h x hx => ?_⟩
  obtain ⟨i, hi, rfl⟩ := List.mem_iff_getElem.mp hx
  exact h ⟨i, t.size ▸ hi⟩

/-- A record after a change of one record. -/
theorem get_modify (t : Table α n) (i j : Fin n) (f : α → α) : (t.modify i f).get j = if j = i then f (t.get j) else t.get j := by
  rw [modify, get_set]
  split
  · next h => rw [h]
  · rfl

end Sys2Proof.Table

namespace Sys2Proof.Machine

variable {s : State}

/-! ## A train (R90, R96, R98, R100) -/

/-- The speeds of a train; `run` says whether trains may run. -/
structure Train.Bounded (run : Bool) (x : Train) : Prop where
  max : 1 ≤ x.maxSpeed
  speed : x.speed ≤ x.maxSpeed
  requested : x.requested ≤ x.maxSpeed
  rests : x.speed = 0 ∨ (x.placed = true ∧ x.halt = none ∧ run = true)

/-- The speeds of a train whose needed step has been worked out: a step upward only below the max speed, for a train that may run. -/
structure Train.Sound (run : Bool) (x : Train) : Prop extends x.Bounded run where
  climbs : x.dir = .up → x.speed < x.maxSpeed ∧ x.placed = true ∧ x.halt = none ∧ run = true

theorem Train.wf_iff (x : Train) : x.wf = true ↔ x.Sound true := by
  have hwf : x.wf = true ↔ 1 ≤ x.maxSpeed ∧ x.speed ≤ x.maxSpeed ∧ x.requested ≤ x.maxSpeed ∧ (x.dir = .up → x.speed < x.maxSpeed) ∧
      ((x.placed = true ∧ x.halt = none) ∨ (x.speed = 0 ∧ x.dir ≠ .up)) := by
    simp [Train.wf, and_assoc, imp_iff_not_or]
  rw [hwf]
  constructor
  · rintro ⟨hmax, hv, hr, hup, hrest⟩
    exact ⟨⟨hmax, hv, hr, by tauto⟩, fun hd => ⟨hup hd, by tauto⟩⟩
  · rintro ⟨⟨hmax, hv, hr, hrest⟩, hup⟩
    exact ⟨hmax, hv, hr, fun hd => (hup hd).1, by tauto⟩

/-- Where trains may not run, a sound train stands and needs no step upward. -/
theorem Train.sound_iff (run : Bool) (x : Train) : x.Sound run ↔ x.wf = true ∧ (run = true ∨ (x.speed = 0 ∧ x.dir ≠ .up)) := by
  rw [Train.wf_iff]
  constructor
  · rintro ⟨⟨hmax, hv, hr, hrest⟩, hup⟩
    exact ⟨⟨⟨hmax, hv, hr, by tauto⟩, fun hd => by tauto⟩, by tauto⟩
  · rintro ⟨⟨⟨hmax, hv, hr, hrest⟩, hup⟩, hrun⟩
    exact ⟨⟨hmax, hv, hr, by tauto⟩, fun hd => by tauto⟩

theorem Train.Sound.mono {run run' : Bool} {x : Train} (h : x.Sound run) (hr : run = true → run' = true) : x.Sound run' where
  max := h.max
  speed := h.speed
  requested := h.requested
  rests := h.rests.imp_right fun ⟨hp, hh, e⟩ => ⟨hp, hh, hr e⟩
  climbs hd := let ⟨hv, hp, hh, e⟩ := h.climbs hd; ⟨hv, hp, hh, hr e⟩

/-! ## An axis (R104, R106, R109, R119, R120) -/

/-- The order of an axis's configuration (R106). -/
structure Axis.Configured (x : Axis) : Prop where
  spr : 2 ≤ x.spr
  offset : x.offset < x.spr
  creep : x.creep ≤ x.maxSpeed
  low : x.low ≤ 0
  high : 0 ≤ x.high
  gateLow : min x.openPos x.closedPos ≤ 0
  gateHigh : 0 ≤ max x.openPos x.closedPos

/-- The place of an axis (R104, R109): an angle within the revolution, or, once homed, a position within the limits. -/
structure Axis.InPlace (x : Axis) : Prop where
  angle : x.kind = .rotary → 0 ≤ x.pos ∧ x.pos < x.spr
  position : x.kind ≠ .rotary → x.homed = true → x.lowLimit ≤ x.pos ∧ x.pos ≤ x.highLimit

/-- The ranges of an axis (R104, R106, R109, R111), and that it stands unless `up`, while the MOTION rail is DOWN (R119). -/
structure Axis.Fits (up : Bool) (x : Axis) : Prop where
  config : x.Configured
  place : x.InPlace
  speed : x.v ≤ x.maxSpeed
  rests : x.v = 0 ∨ ((x.underWay = true ∨ x.state = .fault) ∧ up = true)
  wanted : ∀ w d, x.motion = .speed w d → x.state = .moving ∧ w ≤ x.maxSpeed
  moves : x.underWay = true → up = true

theorem Axis.placed_iff (x : Axis) : x.placed = true ↔ x.InPlace := by
  have h : x.InPlace ↔ (x.kind = .rotary → 0 ≤ x.pos ∧ x.pos < x.spr) ∧
      (x.kind ≠ .rotary → x.homed = true → x.lowLimit ≤ x.pos ∧ x.pos ≤ x.highLimit) := ⟨fun h => ⟨h.1, h.2⟩, fun h => ⟨h.1, h.2⟩⟩
  rw [h, Axis.placed]
  by_cases hk : x.kind = .rotary
  · simp [hk]
  · simp [hk, imp_iff_not_or]

/-- A wanted speed only while MOVING, and within the max speed (R111). -/
def Axis.wishes (x : Axis) : Bool := match x.motion with
  | .speed w _ => x.state == .moving && decide (w ≤ x.maxSpeed)
  | _ => true

theorem Axis.wishes_iff (x : Axis) : x.wishes = true ↔ ∀ w d, x.motion = .speed w d → x.state = .moving ∧ w ≤ x.maxSpeed := by
  rw [Axis.wishes]
  cases x.motion <;> simp

theorem Axis.wf_eq (x : Axis) : x.wf = (decide (2 ≤ x.spr) && decide (x.offset < x.spr) && decide (x.creep ≤ x.maxSpeed)
    && decide (x.low ≤ 0) && decide (0 ≤ x.high) && decide (min x.openPos x.closedPos ≤ 0) && decide (0 ≤ max x.openPos x.closedPos)
    && decide (x.v ≤ x.maxSpeed) && (x.underWay || x.state == .fault || x.v == 0) && x.wishes && x.placed) := rfl

theorem Axis.fits_iff (up : Bool) (x : Axis) : x.Fits up ↔ x.wf = true ∧ (up = true ∨ (x.v = 0 ∧ x.underWay = false)) := by
  simp only [Axis.wf_eq, Bool.and_eq_true, Axis.wishes_iff, Axis.placed_iff, decide_eq_true_eq, Bool.or_eq_true, beq_iff_eq]
  constructor
  · rintro ⟨⟨h1, h2, h3, h4, h5, h6, h7⟩, hp, hv, hrest, hw, hm⟩
    refine ⟨⟨⟨⟨⟨⟨⟨⟨⟨⟨⟨h1, h2⟩, h3⟩, h4⟩, h5⟩, h6⟩, h7⟩, hv⟩, by tauto⟩, hw⟩, hp⟩, ?_⟩
    cases hu : x.underWay <;> simp_all
    tauto
  · rintro ⟨⟨⟨⟨⟨⟨⟨⟨⟨⟨⟨h1, h2⟩, h3⟩, h4⟩, h5⟩, h6⟩, h7⟩, hv⟩, hrest⟩, hw⟩, hp⟩, hm⟩
    refine ⟨⟨h1, h2, h3, h4, h5, h6, h7⟩, hp, hv, by tauto, hw, fun hu => ?_⟩
    simpa [hu] using hm

theorem Axis.Fits.mono {up up' : Bool} {x : Axis} (h : x.Fits up) (hu : up = true → up' = true) : x.Fits up' where
  config := h.config
  place := h.place
  speed := h.speed
  rests := h.rests.imp_right fun ⟨hx, e⟩ => ⟨hx, hu e⟩
  wanted := h.wanted
  moves hx := hu (h.moves hx)

/-- An axis under the interlock (R120): HELD, with v 0, exactly while it is ENGAGED. -/
structure Axis.Heeds (engaged : Bool) (x : Axis) : Prop where
  held : x.state = .held ↔ engaged = true
  stands : x.state = .held → x.v = 0

/-- A gate timeout that runs (R77). -/
def Coupling.times (k : Coupling) : Prop := ∃ ms, k.timeout = .running ms

/-- No gate timeout runs. -/
def Coupling.still (k : Coupling) : Bool := match k.timeout with
  | .running _ => false
  | _ => true

theorem Coupling.still_iff (k : Coupling) : k.still = true ↔ ¬k.times := by
  rw [Coupling.still, Coupling.times]
  cases k.timeout <;> simp

/-! ## A player (R129, R136, R140) -/

/-- What the rules say of a player: its state, the heights of its two stacks and its pre-pause state. -/
structure Core where
  state : PlayerState
  calls : Nat
  repeats : Nat
  prePause : Option PlayerState

def Player.core (x : Player) : Core :=
  { state := x.state, calls := x.calls.length, repeats := x.repeats.length, prePause := x.prePause }

/-- The stacks of a player within their room, and a pre-pause state of a run (R136, R140). -/
structure Core.Fits (x : Core) : Prop where
  calls : x.calls ≤ 4
  repeats : x.repeats ≤ 8
  pause : x.prePause ≠ some .idle ∧ x.prePause ≠ some .fault

/-- A player with a run (R139). -/
def Core.Runs (x : Core) : Prop := x.state ≠ .idle ∧ x.state ≠ .fault

theorem Player.wf_iff (x : Player) : x.wf = true ↔ x.core.Fits := by
  have h : x.core.Fits ↔ x.calls.length ≤ 4 ∧ x.repeats.length ≤ 8 ∧ x.prePause ≠ some .idle ∧ x.prePause ≠ some .fault :=
    ⟨fun h => ⟨h.1, h.2, h.3⟩, fun h => ⟨h.1, h.2.1, h.2.2⟩⟩
  rw [h]
  simp only [Player.wf, Bool.and_eq_true, decide_eq_true_eq, bne_iff_ne, and_assoc]
  rfl

theorem Player.runs_iff (x : Player) : x.runs = true ↔ x.core.Runs := by simp [Player.runs, Core.Runs, Player.core]

/-! ## The sections and the held lists (R68, R85) -/

/-- Who holds which section, by the sections' states and by the trains' held lists, and which trains are placed or claim a section. -/
@[ext] structure Ledger where
  service : Bool
  holder : Fin 48 → Option (Fin 8)
  held : Fin 8 → List (Fin 48)
  placed : Fin 8 → Bool
  claims : Fin 8 → Bool

/-- The two sides of the ledger agree (R68, R85). -/
structure Ledger.Agrees (l : Ledger) : Prop where
  once : ∀ t, (l.held t).Nodup
  names : ∀ t x, x ∈ l.held t ↔ l.service = true ∧ l.holder x = some t
  unplaced : ∀ t, l.placed t = false → l.held t = [] ∧ l.claims t = false
  service : ∀ t, l.placed t = true → l.service = true

/-- A section without a holder becomes a train's, and joins its held list. -/
def Ledger.enrol (t : Fin 8) (x : Fin 48) (l : Ledger) : Ledger :=
  { l with holder := Function.update l.holder x (some t), held := Function.update l.held t (l.held t ++ [x]) }

/-- A section of a train is left to nobody, and leaves its held list. -/
def Ledger.dismiss (t : Fin 8) (x : Fin 48) (l : Ledger) : Ledger :=
  { l with holder := Function.update l.holder x none, held := Function.update l.held t ((l.held t).filter fun y => y != x) }

namespace Ledger.Agrees

variable {l : Ledger} (h : l.Agrees) {t : Fin 8} {x : Fin 48}
include h

theorem not_held (hx : l.holder x = none) (k : Fin 8) : x ∉ l.held k := fun hk => by
  simpa [hx] using (h.names k x).mp hk

theorem enrol (hp : l.placed t = true) (hx : l.holder x = none) : (l.enrol t x).Agrees where
  once k := by
    by_cases hk : k = t
    · subst hk
      simpa [Ledger.enrol, List.nodup_append] using ⟨h.once k, fun y hy e => h.not_held hx k (e ▸ hy)⟩
    · simpa [Ledger.enrol, hk] using h.once k
  names k y := by
    have hserv := h.service t hp
    have hno := h.not_held hx
    have hn := h.names k y
    by_cases hk : k = t
    · subst hk
      by_cases hy : y = x
      · simp [Ledger.enrol, hy, hserv]
      · simp [Ledger.enrol, hy, hn]
    · by_cases hy : y = x
      · simpa [Ledger.enrol, hk, hy, Ne.symm hk] using hno k
      · simp [Ledger.enrol, hk, hy, hn]
  unplaced k hk := by
    have hne : k ≠ t := fun e => by simp [Ledger.enrol, e, hp] at hk
    simpa [Ledger.enrol, hne] using h.unplaced k hk
  service := h.service

theorem dismiss (hx : l.holder x = none ∨ l.holder x = some t) : (l.dismiss t x).Agrees where
  once k := by
    by_cases hk : k = t
    · subst hk
      simpa [Ledger.dismiss] using (h.once k).filter _
    · simpa [Ledger.dismiss, hk] using h.once k
  names k y := by
    have hn := h.names k y
    by_cases hk : k = t
    · subst hk
      by_cases hy : y = x <;> simp [Ledger.dismiss, hy, hn]
    · by_cases hy : y = x
      · subst hy
        have hnot : ¬l.holder y = some k := by rcases hx with e | e <;> simp [e, Ne.symm hk]
        simp [Ledger.dismiss, hk, hn, hnot]
      · simp [Ledger.dismiss, hk, hy, hn]
  unplaced k hk := by
    have hu := h.unplaced k hk
    by_cases hkt : k = t
    · subst hkt
      simpa [Ledger.dismiss, hu.1] using hu.2
    · simpa [Ledger.dismiss, hkt] using hu
  service := h.service

end Ledger.Agrees

/-! ## What the rules speak of -/

/-- What the rules of the records speak of: the trains and the axes with the supply's conditions, the crossings' coupling records, the
players with the holder table, and the sections' states. -/
structure Ruled where
  trains : Fin 8 → Train
  axes : Fin 8 → Axis
  trackUp : Bool
  motionUp : Bool
  cutoff : Bool
  engaged : Bool
  couplings : Fin 4 → Option Coupling
  players : Fin 8 → Core
  holders : Fin 57 → Option (Fin 8)
  config : ConfigState
  secs : Fin 48 → SecState

def State.ruled (s : State) : Ruled :=
  { trains := s.trains.get, axes := s.axes.get, trackUp := s.supply.rails.track, motionUp := s.supply.rails.motion
    cutoff := s.supply.cutoff, engaged := s.engaged, couplings := s.track.couplings.get
    players := fun p => (s.cue.players.get p).core, holders := s.cue.holders.get, config := s.track.config, secs := s.sec }

def Ruled.ledger (r : Ruled) : Ledger :=
  { service := r.config == .operational, holder := fun x => (r.secs x).holder, held := fun t => (r.trains t).held.map Prod.fst
    placed := fun t => (r.trains t).placed, claims := fun t => (r.trains t).claim != .none }

/-- The speeds of every train, where trains may run or not. -/
def Ruled.Speeds (run : Bool) (r : Ruled) : Prop := ∀ t, (r.trains t).Sound run

/-- Every axis within its ranges, where the axes may move or not. -/
def Ruled.Moves (up : Bool) (r : Ruled) : Prop := ∀ a, (r.axes a).Fits up

/-- Every axis under the interlock. -/
def Ruled.Heeds (lock : Bool) (r : Ruled) : Prop := ∀ a, (r.axes a).Heeds lock

/-- No gate timeout runs (R79). -/
def Ruled.Untimed (r : Ruled) : Prop := ∀ c k, r.couplings c = some k → ¬k.times

/-- The axes and the gate timeouts as the interlock has them (R79, R120). -/
def Ruled.Locked (r : Ruled) : Prop := r.Heeds r.engaged ∧ (r.engaged = true → r.Untimed)

/-- Every player within its ranges, and every holder with a run (R131). -/
structure Ruled.Staged (r : Ruled) : Prop where
  fits : ∀ p, (r.players p).Fits
  runs : ∀ x p, r.holders x = some p → (r.players p).Runs

/-! ## The invariants, as the rules say them -/

theorem trainsWf_iff (s : State) : s.trainsWf = true ↔ s.ruled.Speeds s.trainsRun := by
  simp only [State.trainsWf, Bool.and_eq_true, Bool.or_eq_true, Table.all_items_iff, Ruled.Speeds, Train.sound_iff, forall_and,
    forall_or_left, beq_iff_eq, bne_iff_ne]
  rfl

theorem axesWf_iff (s : State) : s.axesWf = true ↔ s.ruled.Moves s.supply.rails.motion := by
  simp only [State.axesWf, Bool.and_eq_true, Bool.or_eq_true, Table.all_items_iff, Ruled.Moves, Axis.fits_iff, forall_and, forall_or_left,
    beq_iff_eq, Bool.not_eq_true']
  rfl

theorem State.interlockWf_eq (s : State) : s.interlockWf =
    ((s.axes.items.all fun x => (x.state == .held) == s.engaged && (x.state != .held || x.v == 0))
      && (!s.engaged || s.track.couplings.items.all fun k => k.all Coupling.still)) := rfl

theorem interlockWf_iff (s : State) : s.interlockWf = true ↔ s.ruled.Locked := by
  have hheeds (x : Axis) : ((x.state == .held) == s.engaged && (x.state != .held || x.v == 0)) = true ↔ x.Heeds s.engaged := by
    rw [Bool.and_eq_true, beq_iff_eq, Bool.eq_iff_iff, beq_iff_eq, Bool.or_eq_true, bne_iff_ne, beq_iff_eq, ← imp_iff_not_or]
    exact ⟨fun h => ⟨h.1, h.2⟩, fun h => ⟨h.1, h.2⟩⟩
  simp only [State.interlockWf_eq, Bool.and_eq_true, Table.all_items_iff, hheeds, Bool.or_eq_true, Bool.not_eq_true', Option.all_eq_true,
    Coupling.still_iff, ← Bool.not_eq_true, ← imp_iff_not_or]
  rfl

theorem cueWf_iff (s : State) : s.cue.wf = true ↔ s.ruled.Staged := by
  simp only [Cue.wf, Bool.and_eq_true, Table.all_items_iff, Option.all_eq_true, Player.wf_iff, Player.runs_iff]
  exact ⟨fun h => ⟨h.1, h.2⟩, fun h => ⟨h.1, h.2⟩⟩

theorem heldWf_iff (s : State) : s.heldWf = true ↔ s.ruled.ledger.Agrees := by
  have hx (t : Fin 8) (x : Fin 48) : (((s.heldOf t).map Prod.fst).contains x ==
      (s.track.config == .operational && (s.sec x).holder == some t)) = true ↔
      (x ∈ s.ruled.ledger.held t ↔ s.ruled.ledger.service = true ∧ s.ruled.ledger.holder x = some t) := by
    rw [beq_iff_eq, Bool.eq_iff_iff, List.contains_iff_mem, Bool.and_eq_true, beq_iff_eq (a := (s.sec x).holder)]
    rfl
  have hu (t : Fin 8) : ((s.trains.get t).placed = true ∨ ((s.heldOf t).map Prod.fst).isEmpty = true ∧
      ((s.trains.get t).claim == .none) = true) ↔
      (s.ruled.ledger.placed t = false → s.ruled.ledger.held t = [] ∧ s.ruled.ledger.claims t = false) := by
    rw [List.isEmpty_iff, ← Bool.not_eq_false, ← imp_iff_not_or, ← bne_eq_false_iff_eq, beq_iff_eq, bne_eq_false_iff_eq]
    simp only [Ruled.ledger, bne_eq_false_iff_eq]
    rfl
  have hs (t : Fin 8) : ((s.track.config == .operational) = true ∨ (!(s.trains.get t).placed) = true) ↔
      (s.ruled.ledger.placed t = true → s.ruled.ledger.service = true) := by
    rw [Bool.not_eq_true', ← Bool.not_eq_true, or_comm, ← imp_iff_not_or]
    rfl
  simp only [State.heldWf, List.all_eq_true, mem_indices, true_implies, Bool.and_eq_true, decide_eq_true_eq, hx, Bool.or_eq_true, hu, hs]
  exact ⟨fun h => ⟨fun t => (h t).1.1.1, fun t => (h t).1.1.2, fun t => (h t).1.2, fun t => (h t).2⟩,
    fun h t => ⟨⟨⟨h.once t, h.names t⟩, h.unplaced t⟩, h.service t⟩⟩

end Sys2Proof.Machine
end

section
/-! SUPPORT. What an update of the state changes of what the rules speak of, and a state that keeps the rules of another: the reasoning
rules that every operation is taken through. -/

namespace Sys2Proof.Machine

variable {s u : State}

/-! ## Updates that no rule speaks of -/

/-- A state whose records the rules cannot tell from another's. -/
theorem ruled_congr (trains : u.trains = s.trains) (axes : u.axes = s.axes) (supply : u.supply = s.supply) (track : u.track = s.track)
    (players : ∀ p, (u.cue.players.get p).core = (s.cue.players.get p).core) (holders : u.cue.holders = s.cue.holders) :
    u.ruled = s.ruled := by
  have hsec : u.sec = s.sec := funext fun x => by rw [State.sec, track]; rfl
  simp only [State.ruled, State.engaged, trains, axes, supply, track, players, holders, hsec]

theorem markSeen_core (e : Event) (x : Player) : (markSeen e x).core = x.core := by
  simp [Player.core, markSeen]

theorem offerBlocks_ruled (e : Event) (s : State) : (s.offerBlocks e).ruled = s.ruled :=
  ruled_congr rfl rfl rfl rfl (fun p => by simp [State.offerBlocks, markSeen_core]) rfl

@[simp] theorem raise_ruled (e : Event) (s : State) : (s.raise e).ruled = s.ruled :=
  State.raise_keeps (P := fun u => u.ruled = s.ruled) (fun _ _ h => h) (fun u e' _ h => (offerBlocks_ruled e' u).trans h) rfl

theorem forEach_ruled {α : Type} {f : α → State → State} (hf : ∀ a s, (f a s).ruled = s.ruled) (l : List α) (s : State) :
    (forEach l f s).ruled = s.ruled :=
  keeps_forEach (P := fun u => u.ruled = s.ruled) (fun a u h => (hf a u).trans h) l rfl

@[simp] theorem raiseAll_ruled (es : List Event) (s : State) : (s.raiseAll es).ruled = s.ruled := forEach_ruled raise_ruled es s

@[simp] theorem modClock_ruled (f : Clock → Clock) (s : State) : (s.modClock f).ruled = s.ruled := rfl
@[simp] theorem modLight_ruled (f : Light → Light) (s : State) : (s.modLight f).ruled = s.ruled := rfl
@[simp] theorem modGroup_ruled (g : Fin 32) (f : Group → Group) (s : State) : (s.modGroup g f).ruled = s.ruled := rfl
@[simp] theorem modChannel_ruled (c : Fin 512) (f : Channel → Channel) (s : State) : (s.modChannel c f).ruled = s.ruled := rfl
@[simp] theorem modPoint_ruled (p : Fin 24) (f : Point → Point) (s : State) : (s.modPoint p f).ruled = s.ruled := rfl
@[simp] theorem setQueue_ruled (q : List ThrowEntry) (s : State) : (s.setQueue q).ruled = s.ruled := rfl
@[simp] theorem setUnit_ruled (w : ThrowUnit) (s : State) : (s.setUnit w).ruled = s.ruled := rfl
@[simp] theorem modList_ruled (l : Fin 64) (f : CueList → CueList) (s : State) : (s.modList l f).ruled = s.ruled := rfl
@[simp] theorem modTrig_ruled (f : Trig → Trig) (s : State) : (s.modTrig f).ruled = s.ruled := rfl
@[simp] theorem modInput_ruled (i : Fin 8) (f : Conditioner → Conditioner) (s : State) : (s.modInput i f).ruled = s.ruled := rfl
@[simp] theorem modCounter_ruled (i : Fin 8) (f : Counter → Counter) (s : State) : (s.modCounter i f).ruled = s.ruled := rfl
@[simp] theorem modTrigger_ruled (k : Fin 32) (f : Trigger → Trigger) (s : State) : (s.modTrigger k f).ruled = s.ruled := rfl
@[simp] theorem modLink_ruled (f : ShowLink → ShowLink) (s : State) : (s.modLink f).ruled = s.ruled := rfl
@[simp] theorem modPins_ruled (f : Pins → Pins) (s : State) : (s.modPins f).ruled = s.ruled := rfl
@[simp] theorem modSched_ruled (f : Sched → Sched) (s : State) : (s.modSched f).ruled = s.ruled := rfl
@[simp] theorem modOuts_ruled (f : Outs → Outs) (s : State) : (s.modOuts f).ruled = s.ruled := rfl
@[simp] theorem modWork_ruled (f : Work → Work) (s : State) : (s.modWork f).ruled = s.ruled := rfl
@[simp] theorem later_ruled (t : Task) (s : State) : (s.later t).ruled = s.ruled := rfl
@[simp] theorem laterRun_ruled (p : Fin 8) (stage : Stage) (s : State) : (s.laterRun p stage).ruled = s.ruled := rfl
@[simp] theorem handEnding_ruled (x : Ending) (s : State) : (s.handEnding x).ruled = s.ruled := rfl

/-- The supply's records other than the rails, the cut-off and the key. -/
theorem modSupply_ruled {f : Supply → Supply} (rails : (f s.supply).rails = s.supply.rails) (cutoff : (f s.supply).cutoff = s.supply.cutoff)
    (key : (f s.supply).keyOn = s.supply.keyOn) : (s.modSupply f).ruled = s.ruled := by
  simp only [State.ruled, State.engaged, State.modSupply, rails, cutoff, key]
  rfl

/-- The Track Controller's records other than the layout's state, the sections' states and the coupling records. -/
theorem modTrack_ruled {f : Track → Track} (config : (f s.track).config = s.track.config)
    (runs : ∀ x, ((f s.track).runs.get x).state = (s.track.runs.get x).state) (couplings : (f s.track).couplings = s.track.couplings) :
    (s.modTrack f).ruled = s.ruled := by
  have hsec : (s.modTrack f).sec = s.sec := funext runs
  simp only [State.ruled, hsec, State.engaged, State.modTrack_trains, State.modTrack_axes, State.modTrack_supply, State.modTrack_cue,
    State.modTrack_track, config, couplings]

@[simp] theorem withdraw_ruled (t : Fin 8) (x : Fin 48) (s : State) : (withdraw t x s).ruled = s.ruled :=
  modTrack_ruled (f := fun k => { k with runs := k.runs.modify x _ }) rfl (fun y => by rw [Table.get_modify]; split <;> rfl) rfl

/-! ## Updates that the rules see -/

theorem modTrain_ruled (t : Fin 8) (f : Train → Train) (s : State) :
    (s.modTrain t f).ruled = { s.ruled with trains := Function.update s.ruled.trains t (f (s.trains.get t)) } := by
  have h : (s.modTrain t f).ruled.trains = Function.update s.ruled.trains t (f (s.trains.get t)) := by
    funext k
    by_cases e : k = t
    · subst e; simp [State.ruled]
    · simp [State.ruled, Table.get_modify_ne _ _ e, e]
  rw [← h]
  rfl

theorem modAxis_ruled (a : Fin 8) (f : Axis → Axis) (s : State) :
    (s.modAxis a f).ruled = { s.ruled with axes := Function.update s.ruled.axes a (f (s.axes.get a)) } := by
  have h : (s.modAxis a f).ruled.axes = Function.update s.ruled.axes a (f (s.axes.get a)) := by
    funext k
    by_cases e : k = a
    · subst e; simp [State.ruled]
    · simp [State.ruled, Table.get_modify_ne _ _ e, e]
  rw [← h]
  rfl

theorem modPlayer_ruled (p : Fin 8) (f : Player → Player) (s : State) :
    (s.modPlayer p f).ruled = { s.ruled with players := Function.update s.ruled.players p (f (s.cue.players.get p)).core } := by
  have h : (s.modPlayer p f).ruled.players = Function.update s.ruled.players p (f (s.cue.players.get p)).core := by
    funext k
    by_cases e : k = p
    · subst e; simp [State.ruled]
    · simp [State.ruled, Table.get_modify_ne _ _ e, e]
  rw [← h]
  rfl

theorem setHolder_ruled (x : Fin 57) (q : Option (Fin 8)) (s : State) :
    (s.setHolder x q).ruled = { s.ruled with holders := Function.update s.ruled.holders x q } := by
  have h : (s.setHolder x q).ruled.holders = Function.update s.ruled.holders x q := by
    funext y
    by_cases e : y = x
    · subst e; simp [State.ruled]
    · simp [State.ruled, Table.get_set_ne _ _ e, e]
  rw [← h]
  rfl

theorem setCoupling_ruled (c : Fin 4) (k : Option Coupling) (s : State) :
    (s.setCoupling c k).ruled = { s.ruled with couplings := Function.update s.ruled.couplings c k } := by
  have h : (s.setCoupling c k).ruled.couplings = Function.update s.ruled.couplings c k := by
    funext d
    by_cases e : d = c
    · subst e; simp [State.ruled]
    · simp [State.ruled, Table.get_set_ne _ _ e, e]
  rw [← h]
  rfl

theorem modRun_ruled (x : Fin 48) (st : SecState) (s : State) :
    (s.modRun x fun r => { r with state := st }).ruled = { s.ruled with secs := Function.update s.ruled.secs x st } := by
  have h : (s.modRun x fun r => { r with state := st }).ruled.secs = Function.update s.ruled.secs x st := by
    funext y
    by_cases e : y = x
    · subst e; simp [State.ruled, State.sec]
    · simp [State.ruled, State.sec, Table.get_modify_ne _ _ e, e]
  rw [← h]
  rfl

/-! ## Keeping the rules -/

/-- What the supply lets move: whether trains run, whether axes move, whether the axes are locked, whether the gate timeouts stand; and
whether the ledger agrees. -/
@[ext] structure Mode where
  run : Bool
  up : Bool
  lock : Bool
  calm : Bool
  booked : Bool

/-- Trains run: the TRACK rail is UP, the cut-off INACTIVE and the interlock RELEASED (R95). -/
def Ruled.run (r : Ruled) : Bool := r.trackUp && !r.cutoff && !r.engaged

/-- What the supply lets move at a state. -/
def Ruled.mode (r : Ruled) : Mode := { run := r.run, up := r.motionUp, lock := r.engaged, calm := r.engaged, booked := true }

/-- A mode that demands no more than the supply does. -/
structure Mode.Covers (m v : Mode) : Prop where
  run : v.run = true → m.run = true
  up : v.up = true → m.up = true
  calm : m.calm = true → v.calm = true

/-- A state keeps the rules that another one kept: each rule with its own premise. `v` is what the supply lets move now; `m` is what the rules
are taken with, which within an operation may lag behind the supply. -/
structure Kept (v m : Mode) (r₀ : Ruled) (s : State) : Prop where
  now : s.ruled.mode = v
  covers : m.Covers v
  speeds : r₀.Speeds true → s.ruled.Speeds true
  stops : r₀.Speeds r₀.run → s.ruled.Speeds m.run
  moves : r₀.Moves r₀.motionUp → s.ruled.Moves m.up
  heeds : r₀.Locked → s.ruled.Heeds m.lock ∧ (m.calm = true → s.ruled.Untimed)
  staged : r₀.Staged → s.ruled.Staged
  agrees : m.booked = true → r₀.ledger.Agrees → s.ruled.ledger.Agrees

theorem Mode.Covers.refl (m : Mode) : m.Covers m := ⟨id, id, id⟩

theorem Kept.refl (s : State) : Kept s.ruled.mode s.ruled.mode s.ruled s :=
  ⟨rfl, .refl _, id, id, id, id, id, fun _ => id⟩

variable {v m : Mode} {r₀ : Ruled}

theorem Kept.congr (h : Kept v m r₀ s) (e : u.ruled = s.ruled) : Kept v m r₀ u := by
  obtain ⟨h1, h2, h3, h4, h5, h6, h7, h8⟩ := h
  rw [← e] at h1 h3 h4 h5 h6 h7 h8
  exact ⟨h1, h2, h3, h4, h5, h6, h7, h8⟩

/-- A change taken through the rules one by one. -/
theorem Kept.to (h : Kept v m r₀ s) (now : u.ruled.mode = s.ruled.mode)
    (speeds : ∀ run, (s.ruled.run = true → run = true) → s.ruled.Speeds run → u.ruled.Speeds run)
    (moves : s.ruled.Moves m.up → u.ruled.Moves m.up) (heeds : r₀.Locked → s.ruled.Heeds m.lock → u.ruled.Heeds m.lock)
    (untimed : s.engaged = true → s.ruled.Untimed → u.ruled.Untimed) (staged : s.ruled.Staged → u.ruled.Staged)
    (agrees : m.booked = true → s.ruled.ledger.Agrees → u.ruled.ledger.Agrees) : Kept v m r₀ u where
  now := now.trans h.now
  covers := h.covers
  speeds h₀ := speeds true (fun _ => rfl) (h.speeds h₀)
  stops h₀ := speeds m.run (fun hr => h.covers.run (h.now ▸ hr)) (h.stops h₀)
  moves h₀ := moves (h.moves h₀)
  heeds h₀ := ⟨heeds h₀ (h.heeds h₀).1, fun hc => untimed (by have hv := h.covers.calm hc; rwa [← h.now] at hv) ((h.heeds h₀).2 hc)⟩
  staged h₀ := staged (h.staged h₀)
  agrees hb h₀ := agrees hb (h.agrees hb h₀)

/-- A change of the trains alone is seen by the rules of the speeds and of the ledger. -/
theorem Kept.toTrains (h : Kept v m r₀ s) (same : u.ruled = { s.ruled with trains := u.ruled.trains })
    (speeds : ∀ run, (s.ruled.run = true → run = true) → s.ruled.Speeds run → u.ruled.Speeds run)
    (agrees : m.booked = true → s.ruled.ledger.Agrees → u.ruled.ledger.Agrees) : Kept v m r₀ u := by
  refine h.to ?_ speeds ?_ ?_ ?_ ?_ agrees <;> rw [same]
  · rfl
  · exact id
  · exact fun _ => id
  · exact fun _ => id
  · exact fun hs => ⟨hs.fits, hs.runs⟩

/-- A change of the axes alone is seen by their own rules. -/
theorem Kept.toAxes (h : Kept v m r₀ s) (same : u.ruled = { s.ruled with axes := u.ruled.axes }) (moves : s.ruled.Moves m.up → u.ruled.Moves m.up)
    (heeds : r₀.Locked → s.ruled.Heeds m.lock → u.ruled.Heeds m.lock) : Kept v m r₀ u := by
  refine h.to ?_ ?_ moves heeds ?_ ?_ ?_ <;> rw [same]
  · rfl
  · exact fun _ _ => id
  · exact fun _ => id
  · exact fun hs => ⟨hs.fits, hs.runs⟩
  · exact fun _ => id

/-- A change of the Track Controller's records is seen by the rules of the gate timeouts and of the ledger. -/
theorem Kept.toTrack (h : Kept v m r₀ s)
    (same : u.ruled = { s.ruled with couplings := u.ruled.couplings, config := u.ruled.config, secs := u.ruled.secs })
    (untimed : s.engaged = true → s.ruled.Untimed → u.ruled.Untimed)
    (agrees : m.booked = true → s.ruled.ledger.Agrees → u.ruled.ledger.Agrees) : Kept v m r₀ u := by
  refine h.to ?_ ?_ ?_ ?_ untimed ?_ agrees <;> rw [same]
  · rfl
  · exact fun _ _ => id
  · exact id
  · exact fun _ => id
  · exact fun hs => ⟨hs.fits, hs.runs⟩

/-- A change of the players and of the holder table is seen by their own rule. -/
theorem Kept.toCue (h : Kept v m r₀ s) (same : u.ruled = { s.ruled with players := u.ruled.players, holders := u.ruled.holders })
    (staged : s.ruled.Staged → u.ruled.Staged) : Kept v m r₀ u := by
  refine h.to ?_ ?_ ?_ ?_ ?_ staged ?_ <;> rw [same]
  · rfl
  · exact fun _ _ => id
  · exact id
  · exact fun _ => id
  · exact fun _ => id
  · exact fun _ => id

/-- The ledger left aside for the steps of one change. -/
def Mode.unbooked (m : Mode) : Mode := { m with booked := false }

theorem Kept.unbook (h : Kept v m r₀ s) : Kept v m.unbooked r₀ s := { h with covers := { h.covers with }, agrees := nofun }

theorem Kept.book (h : Kept v m.unbooked r₀ s) (agrees : m.booked = true → r₀.ledger.Agrees → s.ruled.ledger.Agrees) : Kept v m r₀ s :=
  { h with covers := { h.covers with }, agrees := agrees }

theorem Kept.run_eq (h : Kept v m r₀ s) : s.ruled.run = v.run := congrArg Mode.run h.now

/-- The axes may move while the MOTION rail is UP. -/
theorem Kept.up (h : Kept v m r₀ s) (hm : s.supply.rails.motion = true) : m.up = true := h.covers.up (h.now ▸ hm)

theorem Kept.raise (h : Kept v m r₀ s) (e : Event) : Kept v m r₀ (s.raise e) := h.congr (raise_ruled e s)
theorem Kept.raiseAll (h : Kept v m r₀ s) (es : List Event) : Kept v m r₀ (s.raiseAll es) := h.congr (raiseAll_ruled es s)
theorem Kept.later (h : Kept v m r₀ s) (t : Task) : Kept v m r₀ (s.later t) := h.congr rfl
theorem Kept.work (h : Kept v m r₀ s) (f : Work → Work) : Kept v m r₀ (s.modWork f) := h.congr rfl
theorem Kept.withdraw (h : Kept v m r₀ s) (t : Fin 8) (x : Fin 48) : Kept v m r₀ (withdraw t x s) := h.congr (withdraw_ruled t x s)

theorem Kept.forEach {α : Type} {f : α → State → State} (hf : ∀ a s, Kept v m r₀ s → Kept v m r₀ (f a s)) (l : List α)
    (h : Kept v m r₀ s) : Kept v m r₀ (forEach l f s) := keeps_forEach hf l h

/-! ## One record changed -/

theorem forall_update {α : Type} {n : Nat} {p : α → Prop} {g : Fin n → α} (h : ∀ i, p (g i)) {i : Fin n} {a : α} (ha : p (g i) → p a)
    (j : Fin n) : p (Function.update g i a j) := by
  by_cases e : j = i
  · subst e; simpa using ha (h j)
  · simpa [e] using h j

/-- The ledger's side of a changed train. -/
theorem modTrain_ledger_eq (t : Fin 8) (f : Train → Train) (s : State) : (s.modTrain t f).ruled.ledger = { s.ruled.ledger with
    held := Function.update s.ruled.ledger.held t ((f (s.trains.get t)).held.map Prod.fst)
    placed := Function.update s.ruled.ledger.placed t (f (s.trains.get t)).placed
    claims := Function.update s.ruled.ledger.claims t ((f (s.trains.get t)).claim != .none) } := by
  rw [modTrain_ruled]
  ext k
  · rfl
  · rfl
  all_goals
    by_cases e : k = t
    · subst e; simp [Ruled.ledger]
    · simp [Ruled.ledger, e]

/-- A train whose held list and place are left alone. -/
theorem modTrain_ledger {t : Fin 8} {f : Train → Train} (held : (f (s.trains.get t)).held = (s.trains.get t).held)
    (placed : (f (s.trains.get t)).placed = (s.trains.get t).placed) :
    (s.modTrain t f).ruled.ledger = { s.ruled.ledger with
      claims := Function.update s.ruled.ledger.claims t ((f (s.trains.get t)).claim != .none) } := by
  have hheld : Function.update s.ruled.ledger.held t ((f (s.trains.get t)).held.map Prod.fst) = s.ruled.ledger.held := by
    rw [held]; exact Function.update_eq_self t s.ruled.ledger.held
  have hplaced : Function.update s.ruled.ledger.placed t (f (s.trains.get t)).placed = s.ruled.ledger.placed := by
    rw [placed]; exact Function.update_eq_self t s.ruled.ledger.placed
  rw [modTrain_ledger_eq, hheld, hplaced]

/-- Claims may be made by placed trains only. -/
theorem Ledger.Agrees.reclaim {l : Ledger} (h : l.Agrees) {t : Fin 8} {c : Bool} (hc : l.placed t = false → l.claims t = false → c = false) :
    { l with claims := Function.update l.claims t c }.Agrees :=
  { h with
    unplaced := fun k hk => by
      obtain ⟨hheld, hclaims⟩ := h.unplaced k hk
      by_cases e : k = t
      · subst e; exact ⟨hheld, by simpa using hc hk hclaims⟩
      · exact ⟨hheld, by simpa [e] using hclaims⟩ }

/-- A train whose speed, claim or orders change, and neither its held list nor its place. -/
theorem Kept.modTrain (h : Kept v m r₀ s) (t : Fin 8) {f : Train → Train}
    (sound : ∀ run, (s.ruled.run = true → run = true) → (s.trains.get t).Sound run → (f (s.trains.get t)).Sound run)
    (held : (f (s.trains.get t)).held = (s.trains.get t).held) (placed : (f (s.trains.get t)).placed = (s.trains.get t).placed)
    (claim : m.booked = true → s.ruled.ledger.Agrees → (s.trains.get t).placed = false → (s.trains.get t).claim = .none →
      (f (s.trains.get t)).claim = .none) :
    Kept v m r₀ (s.modTrain t f) := by
  refine h.toTrains rfl (fun run hr hs => ?_) fun hb ha => ?_
  · rw [modTrain_ruled]
    exact forall_update (p := Train.Sound run) hs (sound run hr)
  · rw [modTrain_ledger held placed]
    exact ha.reclaim fun hp hc => by simpa using claim hb ha hp (by simpa [Ruled.ledger, State.ruled] using hc)

theorem Kept.modAxis (h : Kept v m r₀ s) (a : Fin 8) {f : Axis → Axis}
    (fits : (s.axes.get a).Fits m.up → (f (s.axes.get a)).Fits m.up)
    (heeds : r₀.Locked → (s.axes.get a).Heeds m.lock → (f (s.axes.get a)).Heeds m.lock) : Kept v m r₀ (s.modAxis a f) := by
  refine h.toAxes rfl (fun hm => ?_) fun h₀ hl => ?_
  · rw [modAxis_ruled]
    exact forall_update (p := Axis.Fits m.up) hm fits
  · rw [modAxis_ruled]
    exact forall_update (p := Axis.Heeds m.lock) hl (heeds h₀)

/-- A coupling record whose timeout starts to run only while the interlock is released. -/
theorem Kept.setCoupling (h : Kept v m r₀ s) (c : Fin 4) {k : Option Coupling}
    (still : s.engaged = true → s.ruled.Untimed → ∀ k', k = some k' → ¬k'.times) : Kept v m r₀ (s.setCoupling c k) := by
  refine h.toTrack rfl (fun he hs => ?_) fun _ ha => ha
  rw [setCoupling_ruled]
  exact forall_update (p := fun k : Option Coupling => ∀ k', k = some k' → ¬k'.times) hs fun _ => still he hs

theorem Kept.modPlayer (h : Kept v m r₀ s) (p : Fin 8) {f : Player → Player}
    (fits : (s.cue.players.get p).core.Fits → (f (s.cue.players.get p)).core.Fits)
    (runs : (s.cue.players.get p).core.Runs → (f (s.cue.players.get p)).core.Runs) : Kept v m r₀ (s.modPlayer p f) := by
  refine h.toCue rfl fun hs => ?_
  rw [modPlayer_ruled]
  exact ⟨forall_update (p := Core.Fits) hs.fits fits,
    fun x q hx => by
      by_cases e : q = p
      · subst e; simpa using runs (hs.runs x q hx)
      · simpa [e] using hs.runs x q hx⟩

theorem Kept.setHolder (h : Kept v m r₀ s) (x : Fin 57) {q : Option (Fin 8)}
    (runs : s.ruled.Staged → ∀ p, q = some p → (s.cue.players.get p).core.Runs) : Kept v m r₀ (s.setHolder x q) := by
  refine h.toCue rfl fun hs => ?_
  rw [setHolder_ruled]
  exact ⟨hs.fits, forall_update (p := fun q : Option (Fin 8) => ∀ p, q = some p → (s.ruled.players p).Runs) hs.runs fun _ => runs hs⟩

end Sys2Proof.Machine
end

section
/-! SUPPORT. The axis rules under each function of the Motion Controller (R106 to R121). -/

namespace Sys2Proof.Machine

variable {x y : Axis} {up lock : Bool}

/-! ## What the rules need of a changed axis -/

/-- The configuration and the place of an axis. -/
def Axis.frame (x : Axis) : AxisKind × Nat × Nat × Nat × Nat × Int × Int × Int × Int × Int :=
  (x.kind, x.maxSpeed, x.creep, x.spr, x.offset, x.low, x.high, x.openPos, x.closedPos, x.pos)

theorem Axis.Configured.of_frame (h : x.Configured) (e : y.frame = x.frame) : y.Configured := by
  simp only [Axis.frame, Prod.mk.injEq] at e
  obtain ⟨-, hmax, hcreep, hspr, hoff, hlow, hhigh, hopen, hclosed, -⟩ := e
  obtain ⟨h1, h2, h3, h4, h5, h6, h7⟩ := h
  rw [← hspr] at h1 h2
  rw [← hoff] at h2
  rw [← hcreep, ← hmax] at h3
  rw [← hlow] at h4
  rw [← hhigh] at h5
  rw [← hopen, ← hclosed] at h6 h7
  exact ⟨h1, h2, h3, h4, h5, h6, h7⟩

theorem Axis.limits_of_frame (e : y.frame = x.frame) : y.lowLimit = x.lowLimit ∧ y.highLimit = x.highLimit := by
  simp only [Axis.frame, Prod.mk.injEq] at e
  obtain ⟨hkind, -, -, -, -, hlow, hhigh, hopen, hclosed, -⟩ := e
  simp only [Axis.lowLimit, Axis.highLimit, hkind, hlow, hhigh, hopen, hclosed, and_self]

theorem Axis.InPlace.of_frame (h : x.InPlace) (e : y.frame = x.frame) (homed : y.homed = true → x.homed = true) : y.InPlace := by
  obtain ⟨hlow, hhigh⟩ := Axis.limits_of_frame e
  simp only [Axis.frame, Prod.mk.injEq] at e
  obtain ⟨hkind, -, -, hspr, -, -, -, -, -, hpos⟩ := e
  constructor
  · rw [hkind, hspr, hpos]
    exact h.angle
  · rw [hkind, hlow, hhigh, hpos]
    exact fun hk hh => h.position hk (homed hh)

/-- An axis that keeps its configuration and its place, with a new speed, state and motion. -/
theorem Axis.Fits.of (h : x.Fits up) (frame : y.frame = x.frame) (homed : y.homed = true → x.homed = true) (speed : y.v ≤ x.maxSpeed)
    (rests : y.v = 0 ∨ ((y.underWay = true ∨ y.state = .fault) ∧ up = true))
    (wanted : ∀ w d, y.motion = .speed w d → y.state = .moving ∧ w ≤ x.maxSpeed) (moves : y.underWay = true → up = true) : y.Fits up := by
  have hmax : y.maxSpeed = x.maxSpeed := congrArg (fun f => f.2.1) frame
  exact ⟨h.config.of_frame frame, h.place.of_frame frame homed, hmax ▸ speed, rests, hmax ▸ wanted, moves⟩

/-- An axis that starts to move, or goes on moving, at its present speed. -/
theorem Axis.Fits.drive (h : x.Fits up) (hup : up = true) (frame : y.frame = x.frame) (homed : y.homed = true → x.homed = true) (v : y.v = x.v)
    (state : y.underWay = true) (wanted : ∀ w d, y.motion = .speed w d → y.state = .moving ∧ w ≤ x.maxSpeed) : y.Fits up :=
  h.of frame homed (v ▸ h.speed) (.inr ⟨.inl state, hup⟩) wanted fun _ => hup

/-- An axis that stands. -/
theorem Axis.Fits.stand (h : x.Fits up) (frame : y.frame = x.frame) (homed : y.homed = true → x.homed = true) (v : y.v = 0)
    (state : y.underWay = false) (motion : ∀ w d, y.motion ≠ .speed w d) : y.Fits up :=
  h.of frame homed (v ▸ Nat.zero_le _) (.inl v) (fun w d e => absurd e (motion w d)) fun hu => by simp [state] at hu

/-- An axis whose speed, state and motion are left alone. -/
theorem Axis.Fits.same (h : x.Fits up) (frame : y.frame = x.frame) (homed : y.homed = true → x.homed = true) (v : y.v = x.v)
    (state : y.state = x.state) (motion : y.motion = x.motion) : y.Fits up :=
  h.of frame homed (v ▸ h.speed) (by rw [v, state, Axis.underWay, state]; exact h.rests) (by rw [motion, state]; exact h.wanted)
    (by rw [Axis.underWay, state]; exact h.moves)

theorem Axis.Heeds.of (h : x.Heeds lock) (held : y.state = .held ↔ x.state = .held) (stands : y.state = .held → x.v = 0 → y.v = 0) :
    y.Heeds lock := ⟨held.trans h.held, fun e => stands e (h.stands (held.mp e))⟩

/-- An axis that is not HELD before and after. -/
theorem Axis.Heeds.free (h : x.Heeds lock) (hx : x.state ≠ .held) (hy : y.state ≠ .held) : y.Heeds lock :=
  h.of (iff_of_false hy hx) fun e => absurd e hy

theorem Axis.underWay_iff (x : Axis) : x.underWay = true ↔ x.state = .moving ∨ x.state = .homing := by simp [Axis.underWay]

/-! ## Targets, requests and commands (R110 to R118) -/

@[simp] theorem Axis.retarget_state (p : Int) (x : Axis) : (x.retarget p).state = .moving := by
  unfold Axis.retarget
  extract_lets y ahead
  split <;> [rfl; (split <;> rfl)]

@[simp] theorem Axis.enterHoming_state (x : Axis) : x.enterHoming.state = .homing := by
  unfold Axis.enterHoming
  extract_lets y
  split <;> [rfl; (split <;> rfl)]

@[simp] theorem Axis.startSpeed_state (w : Nat) (d : Dir) (x : Axis) : (x.startSpeed w d).state = .moving := by
  unfold Axis.startSpeed
  extract_lets y
  split <;> [rfl; (split <;> rfl)]

theorem Axis.Fits.retarget (h : x.Fits up) (hup : up = true) (p : Int) : (x.retarget p).Fits up := by
  have key (d : Dir) (ph : Phase) : ({ x with state := .moving, motion := .position p, met := false, dir := d, phase := ph } : Axis).Fits up :=
    h.drive hup rfl id rfl rfl (by simp)
  unfold Axis.retarget
  extract_lets y ahead
  split
  · exact key _ _
  · split
    · exact key x.dir _
    · exact key x.dir _

theorem Axis.Fits.enterHoming (h : x.Fits up) (hup : up = true) : x.enterHoming.Fits up := by
  have key (d : Dir) (ph : Phase) : ({ x with state := .homing, homed := false, fault := none, homeRun := 0, homeTravel := 0, motion := .home
                                              met := false, dir := d, phase := ph } : Axis).Fits up := h.drive hup rfl nofun rfl rfl (by simp)
  unfold Axis.enterHoming
  extract_lets y
  split
  · exact key _ _
  · split
    · exact key x.dir _
    · exact key x.dir _

theorem Axis.Fits.startSpeed (h : x.Fits up) (hup : up = true) {w : Nat} (hw : w ≤ x.maxSpeed) (d : Dir) :
    (x.startSpeed w d).Fits up := by
  have key (d' : Dir) (ph : Phase) : ({ x with state := .moving, motion := .speed w d, met := false, dir := d', phase := ph } : Axis).Fits up :=
    h.drive hup rfl id rfl rfl fun w' d' e => by cases e; exact ⟨rfl, hw⟩
  unfold Axis.startSpeed
  extract_lets y
  split
  · exact key _ _
  · split
    · exact key x.dir _
    · exact key x.dir _

theorem Axis.Fits.startStopAt (h : x.Fits up) (hup : up = true) (angle : Nat) : (x.startStopAt angle).Fits up :=
  h.drive hup rfl id rfl rfl (by simp [Axis.startStopAt])

theorem Axis.restState_free (x : Axis) : x.restState ≠ .held ∧ x.restState ≠ .moving ∧ x.restState ≠ .homing := by
  unfold Axis.restState
  split <;> simp

theorem Axis.Fits.rest (h : x.Fits up) : x.rest.Fits up :=
  h.stand rfl id rfl (by simp [Axis.rest, Axis.underWay, x.restState_free]) (by simp [Axis.rest])

theorem Axis.Fits.enterFault (h : x.Fits up) (code : AxisFaultCode) : (x.enterFault code).Fits up :=
  h.of rfl nofun h.speed (h.rests.imp_right fun hr => ⟨.inr rfl, hr.2⟩) (by simp [Axis.enterFault]) (by simp [Axis.enterFault, Axis.underWay])

/-- A stop of an axis that is under way. -/
theorem Axis.Fits.stop (h : x.Fits up) (hx : x.underWay = true) :
    ({ x with state := .moving, motion := .stop, phase := .cruise, met := false } : Axis).Fits up :=
  h.drive (h.moves hx) rfl id rfl rfl (by simp)

/-- A command moves a gate axis only while its rail is UP and it is not HELD (R117). -/
theorem Axis.command_fits (railUp : Bool) (hup : railUp = true → up = true) (w : GateWish) (h : x.Fits up) : (x.command railUp w).Fits up := by
  have hy : ({ x with goal := w.goal } : Axis).Fits up := h.same rfl id rfl rfl rfl
  unfold Axis.command
  extract_lets y
  split
  · exact h
  · split
    · exact hy
    · next hno =>
      have hrail : up = true := hup (by simpa using (not_or.mp hno).2)
      repeat' split
      · exact hy
      · exact hy.enterHoming hrail
      · exact hy
      · exact hy.retarget hrail _

theorem Axis.command_heeds (railUp : Bool) (w : GateWish) (h : x.Heeds lock) : (x.command railUp w).Heeds lock := by
  have hy : ({ x with goal := w.goal } : Axis).Heeds lock := h.of .rfl fun _ hv => hv
  unfold Axis.command
  extract_lets y
  split
  · exact h
  · split
    · exact hy
    · next hno =>
      have hfree : y.state ≠ .held := (not_or.mp hno).1
      repeat' split
      · exact hy
      · exact hy.free hfree (by simp)
      · exact hy
      · exact hy.free hfree (by simp)

theorem Axis.Fits.retry (h : x.Fits up) : (x.retry up).Fits up := by
  have hy : ({ x with goal := .closed, fault := none } : Axis).Fits up := h.same rfl id rfl rfl rfl
  unfold Axis.retry
  extract_lets y
  split
  · next hup => exact hy.enterHoming hup
  · next hup =>
    refine h.of (y := { y with homed := false, state := if x.state = .held then .held else .unhomed }) rfl nofun h.speed
      (h.rests.imp_right fun hr => absurd hr.2 hup) (fun w d e => ?_) fun hu => ?_
    · exact absurd (h.moves (by simp [Axis.underWay, (h.wanted w d e).1])) hup
    · revert hu
      simp only [Axis.underWay]
      split <;> simp

theorem Axis.retry_free {railUp : Bool} (hx : x.state ≠ .held) : (x.retry railUp).state ≠ .held := by
  unfold Axis.retry
  extract_lets y
  split
  · simp
  · simp

theorem Axis.not_differsIn {k : AxisKind} {c : RawAxisConfig} (h : x.differsIn k c = false) :
    x.kind = k ∧ x.low = c.low ∧ x.high = c.high ∧ x.openPos = c.openPos ∧ x.closedPos = c.closedPos := by
  simp only [Axis.differsIn, Bool.not_eq_false', Bool.and_eq_true, beq_iff_eq] at h
  obtain ⟨⟨⟨⟨⟨⟨hkind, -⟩, -⟩, hlow⟩, hhigh⟩, hopen⟩, hclosed⟩ := h
  exact ⟨hkind, hlow, hhigh, hopen, hclosed⟩

theorem gatePositionsValid_zero {o c : Int} (h : gatePositionsValid o c = true) : min o c ≤ 0 ∧ 0 ≤ max o c := by
  simp only [gatePositionsValid, Bool.and_eq_true, decide_eq_true_eq] at h
  exact ⟨h.1.2, h.2⟩

theorem Axis.reconfigure_configured (k : AxisKind) {c : RawAxisConfig} (x : Axis) (hspr : 2 ≤ c.spr) (hoff : c.offset < c.spr)
    (hlow : c.low ≤ 0) (hhigh : 0 ≤ c.high) (hgate : gatePositionsValid c.openPos c.closedPos = true) : (x.reconfigure k c).Configured :=
  ⟨hspr, hoff, Nat.min_le_left _ _, hlow, hhigh, (gatePositionsValid_zero hgate).1, (gatePositionsValid_zero hgate).2⟩

theorem Axis.reconfigure_inPlace {k : AxisKind} {c : RawAxisConfig} (h : x.InPlace) (hspr : 2 ≤ c.spr) : (x.reconfigure k c).InPlace where
  angle hk := by
    change k = .rotary at hk
    change 0 ≤ (if k = .rotary ∧ ¬(0 ≤ x.pos ∧ x.pos < c.spr) then _ else x.pos) ∧
      (if k = .rotary ∧ ¬(0 ≤ x.pos ∧ x.pos < c.spr) then _ else x.pos) < (c.spr : Int)
    split
    · exact ⟨Int.natCast_nonneg _, Int.ofNat_lt.mpr (Nat.mod_lt _ (by omega))⟩
    · next hno => simpa [hk] using hno
  position hk hh := by
    change k ≠ .rotary at hk
    change (x.homed && !x.differsIn k c && x.state != .fault) = true at hh
    simp only [Bool.and_eq_true, Bool.not_eq_true'] at hh
    obtain ⟨hkind, hlow, hhigh, hopen, hclosed⟩ := Axis.not_differsIn hh.1.2
    have hpos : (x.reconfigure k c).pos = x.pos := if_neg fun e => hk e.1
    have hp := h.position (hkind ▸ hk) hh.1.1
    simp only [Axis.lowLimit, Axis.highLimit] at hp ⊢
    rw [hpos]
    rwa [hkind, hlow, hhigh, hopen, hclosed] at hp

/-- AXIS_CONFIG of an axis that stands, with fields in their ranges (R106). -/
theorem Axis.Fits.reconfigure {k : AxisKind} {c : RawAxisConfig} (h : x.Fits up)
    (hx : x.state = .unhomed ∨ x.state = .idle ∨ (x.state = .fault ∧ x.v = 0)) (hspr : 2 ≤ c.spr) (hoff : c.offset < c.spr)
    (hlow : c.low ≤ 0) (hhigh : 0 ≤ c.high) (hgate : gatePositionsValid c.openPos c.closedPos = true) : (x.reconfigure k c).Fits up := by
  have hv : x.v = 0 := by
    refine h.rests.elim id fun ⟨hr, _⟩ => ?_
    rw [Axis.underWay_iff] at hr
    rcases hx with e | e | ⟨-, e⟩
    · simp [e] at hr
    · simp [e] at hr
    · exact e
  have hstate : (x.reconfigure k c).underWay = false := by
    simp only [Axis.underWay, Axis.reconfigure]
    split <;> rfl
  refine ⟨x.reconfigure_configured k hspr hoff hlow hhigh hgate, Axis.reconfigure_inPlace h.place hspr, ?_, .inl hv, fun w d e => ?_,
    fun hu => ?_⟩
  · change x.v ≤ _
    exact hv ▸ Nat.zero_le _
  · have hm := (h.wanted w d e).1
    rcases hx with e | e | ⟨e, -⟩ <;> simp [e] at hm
  · simp [hstate] at hu

theorem Axis.reconfigure_free (k : AxisKind) (c : RawAxisConfig) (x : Axis) : (x.reconfigure k c).state ≠ .held := by
  simp only [Axis.reconfigure]
  split <;> simp

/-! ## The rail, the interlock and a WARM reset (R119 to R121) -/

theorem Axis.Fits.railDown (h : x.Fits up) : x.railDown.Fits false :=
  have hstate : x.railDown.underWay = false := by
    simp only [Axis.underWay, Axis.railDown]
    split <;> rfl
  { config := h.config.of_frame rfl
    place := h.place.of_frame rfl nofun
    speed := Nat.zero_le _
    rests := .inl rfl
    wanted := nofun
    moves := fun hu => by simp [hstate] at hu }

theorem Axis.railDown_heeds (h : x.Heeds lock) : x.railDown.Heeds lock :=
  h.of (by simp only [Axis.railDown]; split <;> simp [*]) fun _ _ => rfl

theorem Axis.Fits.railUp (h : x.Fits up) (hup : up = true) : x.railUp.Fits up := by
  unfold Axis.railUp
  split
  · exact h.enterHoming hup
  · exact h

theorem Axis.railUp_heeds (h : x.Heeds lock) : x.railUp.Heeds lock := by
  unfold Axis.railUp
  split
  · next hx => exact h.free (by simp [hx.2.1]) (by simp)
  · exact h

theorem Axis.Fits.hold (h : x.Fits up) : x.hold.Fits up := h.stand rfl id rfl rfl nofun

theorem Axis.hold_heeds (x : Axis) : x.hold.Heeds true := ⟨by simp [Axis.hold], fun _ => rfl⟩

theorem Axis.Fits.unhold (h : x.Fits up) : x.unhold.Fits up := by
  unfold Axis.unhold
  split
  · next hx =>
    have hv : x.v = 0 := h.rests.elim id fun ⟨hr, _⟩ => by simp [Axis.underWay, hx] at hr
    have hmotion : ∀ w d, x.motion ≠ .speed w d := fun w d e => by simpa [hx] using (h.wanted w d e).1
    split
    · exact h.stand rfl id hv rfl hmotion
    · exact h.stand rfl id hv (by simp [Axis.underWay, x.restState_free]) hmotion
  · exact h

theorem Axis.unhold_free (x : Axis) : x.unhold.state ≠ .held := by
  unfold Axis.unhold
  split
  · split
    · simp
    · exact x.restState_free.1
  · assumption

theorem Axis.Fits.warm (h : x.Fits up) : x.warm.Fits up := h.stand rfl id rfl x.warm_rests nofun

theorem Axis.warm_heeds (h : x.Heeds lock) : x.warm.Heeds lock := by
  refine h.of ⟨fun e => ?_, fun e => (Axis.warm_held e).1⟩ fun _ _ => rfl
  by_contra hx
  simp only [Axis.warm] at e
  split at e
  · cases e
  · exact x.restState_free.1 e
  · exact x.restState_free.1 e
  · exact hx e

/-! ## The axis update (R107 to R114) -/

theorem Axis.rampTo_keeps (w : Nat) (d : Dir) (x : Axis) : (x.rampTo w d).frame = x.frame ∧ (x.rampTo w d).homed = x.homed ∧
    (x.rampTo w d).state = x.state ∧ (x.rampTo w d).motion = x.motion := by
  unfold Axis.rampTo
  split
  · split <;> exact ⟨rfl, rfl, rfl, rfl⟩
  · exact ⟨rfl, rfl, rfl, rfl⟩

/-- Step 1 changes the speed, the direction and the phase alone. -/
theorem Axis.velocity_keeps (x : Axis) : x.velocity.frame = x.frame ∧ x.velocity.homed = x.homed ∧ x.velocity.state = x.state ∧
    x.velocity.motion = x.motion := by
  unfold Axis.velocity
  split
  · exact ⟨rfl, rfl, rfl, rfl⟩
  · split
    · exact ⟨rfl, rfl, rfl, rfl⟩
    · exact x.rampTo_keeps _ _
    · exact x.rampTo_keeps _ _
    · exact ⟨rfl, rfl, rfl, rfl⟩
    · exact ⟨rfl, rfl, rfl, rfl⟩
    · split
      · exact ⟨rfl, rfl, rfl, rfl⟩
      · split <;> exact ⟨rfl, rfl, rfl, rfl⟩

theorem Axis.Fits.rampTo_le (h : x.Fits up) {w : Nat} (d : Dir) (hw : w ≤ x.maxSpeed) : (x.rampTo w d).v ≤ x.maxSpeed := by
  have hv := h.speed
  unfold Axis.rampTo ramp
  split
  · split <;> (dsimp only; omega)
  · dsimp only
    split <;> omega

theorem Axis.Fits.targetSpeed_le (h : x.Fits up) (R : Nat) : x.targetSpeed R ≤ x.maxSpeed := by
  have hv := h.speed
  have hc := h.config.creep
  unfold Axis.targetSpeed
  split <;> omega

theorem Axis.Fits.velocity_le (h : x.Fits up) : x.velocity.v ≤ x.maxSpeed := by
  have hless : x.v - x.accel ≤ x.maxSpeed := (Nat.sub_le _ _).trans h.speed
  unfold Axis.velocity
  split
  · exact hless
  · split
    · exact h.speed
    · next w d hm => exact h.rampTo_le d (h.wanted w d hm).2
    · exact h.rampTo_le _ h.config.creep
    · exact hless
    · exact h.targetSpeed_le _
    · split
      · exact h.targetSpeed_le _
      · split
        · exact Nat.zero_le _
        · exact hless

/-- A moving axis keeps its state under `n` steps, and its place, when `n` does not pass the limit ahead of it (R109). -/
theorem Axis.Fits.emit (h : x.Fits up) {n f : Nat} (hn : ∀ d, x.limitDistance = some d → n ≤ d) :
    ({ x with f := f }.emit n).Fits up := by
  have hspr : (0 : Int) < x.spr := by have := h.config.spr; omega
  have hplace : ({ x with f := f }.emit n).InPlace := by
    constructor
    · intro hk
      change x.kind = .rotary at hk
      simp only [Axis.emit, hk, if_true]
      exact ⟨Int.emod_nonneg _ hspr.ne', Int.emod_lt_of_pos _ hspr⟩
    · intro hk hh
      change x.kind ≠ .rotary at hk
      change x.homed = true at hh
      have hp := h.place.position hk hh
      simp only [Axis.limitDistance, hk, hh, false_or, Bool.true_eq_false, if_false] at hn
      change x.lowLimit ≤ _ ∧ _ ≤ x.highLimit
      simp only [Axis.emit, hk, if_false]
      cases hd : x.dir
      · have hlim := hn _ (by rw [hd])
        dsimp only
        omega
      · have hlim := hn _ (by rw [hd])
        dsimp only
        omega
  refine ⟨⟨h.config.1, h.config.2, h.config.3, h.config.4, h.config.5, h.config.6, h.config.7⟩, hplace, h.speed, h.rests, fun w d e => ?_,
    h.moves⟩
  refine h.wanted w d ?_
  revert e
  simp only [Axis.emit]
  split
  · simp
  · exact id

/-- The steps of an update do not pass the limit ahead (R109). -/
theorem Axis.steps_le (x : Axis) (n d : Nat) (hd : x.limitDistance = some d) : (x.limitDistance.map fun d => min n d).getD n ≤ d := by
  rw [hd]
  exact Nat.min_le_right _ _

/-- A confirmed index of a ROTARY axis (R113). -/
theorem Axis.Fits.confirmIndex (h : x.Fits up) (hk : x.kind = .rotary) (stopping : Nat) : (x.confirmIndex stopping).Fits up := by
  have hoff := h.config.offset
  refine ⟨⟨h.config.1, h.config.2, h.config.3, h.config.4, h.config.5, h.config.6, h.config.7⟩,
    ⟨fun _ => ?_, fun hno => absurd hk hno⟩, h.speed, h.rests, fun w d e => ?_, h.moves⟩
  · simp only [Axis.confirmIndex]
    omega
  · refine h.wanted w d ?_
    revert e
    simp only [Axis.confirmIndex]
    split
    · simp
    · exact id

/-- Home of an axis that is not ROTARY lies within its limits (R106, R109). -/
theorem Axis.Configured.home (h : x.Configured) : x.lowLimit ≤ 0 ∧ 0 ≤ x.highLimit := by
  simp only [Axis.lowLimit, Axis.highLimit]
  split
  · exact ⟨h.gateLow, h.gateHigh⟩
  · exact ⟨h.low, h.high⟩

theorem Axis.Fits.homeConfirmed (h : x.Fits up) (hup : up = true) (hk : x.kind ≠ .rotary) (hm : x.motion = .home) :
    x.homeConfirmed.1.Fits up := by
  have hy : ({ x with pos := 0, v := 0, f := 0, homed := true, homeRun := 2 } : Axis).Fits up :=
    ⟨⟨h.config.1, h.config.2, h.config.3, h.config.4, h.config.5, h.config.6, h.config.7⟩, ⟨fun hr => absurd hr hk, fun _ _ => h.config.home⟩,
      Nat.zero_le _, .inl rfl, fun w d e => by simp [hm] at e, h.moves⟩
  unfold Axis.homeConfirmed
  extract_lets y
  split
  · split
    · exact hy.retarget hup _
    · exact hy.rest
  · exact hy.rest

theorem Axis.homeConfirmed_free (x : Axis) : x.homeConfirmed.1.state ≠ .held := by
  unfold Axis.homeConfirmed
  extract_lets y
  split
  · split
    · simp
    · exact y.restState_free.1
  · exact y.restState_free.1

theorem Axis.Fits.complete (h : x.Fits up) (limited : Bool) : (x.complete limited).1.Fits up := by
  unfold Axis.complete
  split
  · next p hm =>
    split
    · exact h.rest
    · split
      · exact h.of rfl id (Nat.zero_le _) (.inl rfl) (fun w d e => by simp [hm] at e) h.moves
      · exact h
  · split <;> [exact h.rest; exact h]
  · split
    · split <;> [exact h.rest; exact h.same rfl id rfl rfl rfl]
    · exact h
  · split <;> [exact h.rest; exact h]
  · exact h
  · exact h

theorem Axis.Fits.conclude (h : x.Fits up) (limited : Bool) : (x.conclude limited).1.Fits up := by
  unfold Axis.conclude
  split
  · exact h.same rfl id rfl rfl rfl
  · exact h.complete limited

theorem Axis.complete_free (hx : x.state ≠ .held) (limited : Bool) : (x.complete limited).1.state ≠ .held := by
  have hrest : x.rest.state ≠ .held := x.restState_free.1
  unfold Axis.complete
  split
  · split <;> [exact hrest; (split <;> exact hx)]
  · split <;> [exact hrest; exact hx]
  · split
    · split <;> [exact hrest; exact hx]
    · exact hx
  · split <;> [exact hrest; exact hx]
  · exact hx
  · exact hx

theorem Axis.conclude_free (hx : x.state ≠ .held) (limited : Bool) : (x.conclude limited).1.state ≠ .held := by
  unfold Axis.conclude
  split
  · exact hx
  · exact Axis.complete_free hx limited

/-- An axis that the update works on may move. -/
theorem Axis.Fits.up_of_updates (h : x.Fits up) (hx : x.updates = true) : up = true := by
  simp only [Axis.updates, Bool.or_eq_true, Bool.and_eq_true, beq_iff_eq, decide_eq_true_eq] at hx
  obtain hu | ⟨-, hv⟩ := hx
  · exact h.moves hu
  · exact (h.rests.resolve_left (by omega)).2

theorem Axis.updates_free (hx : x.updates = true) : x.state ≠ .held := by
  intro e
  simp [Axis.updates, Axis.underWay, e] at hx

/-- An update leaves an axis within its ranges. -/
theorem Axis.Fits.update (h : x.Fits up) (hx : x.updates = true) (input : Bool) : (x.update input).axis.Fits up := by
  have hup := h.up_of_updates hx
  obtain ⟨hframe, hhomed, hstate, hmotion⟩ := x.velocity_keeps
  have h1 : x.velocity.Fits up := by
    refine h.of hframe (hhomed ▸ id) h.velocity_le (.inr ⟨?_, hup⟩) (by rw [hmotion, hstate]; exact h.wanted) fun _ => hup
    simp only [Axis.updates, Bool.or_eq_true, Bool.and_eq_true, beq_iff_eq] at hx
    rw [Axis.underWay, hstate]
    exact hx.imp_right And.left
  unfold Axis.update
  extract_lets x1 n0 n1 limited n x2 run armed err report x3 c x4 c4 runh c5 x6 c7
  have h2 : x2.Fits up := h1.emit (x1.steps_le n1)
  split
  · next hk =>
    split
    · have h3 : x3.Fits up := h2.confirmIndex hk _
      split
      · exact h3.rest
      · exact h3.conclude _
    · have h4 : x4.Fits up := h2.same rfl id rfl rfl rfl
      split
      · exact h4.enterFault _
      · exact h4.conclude _
  · next hk =>
    split
    · next hm =>
      split
      · exact h2.homeConfirmed hup hk hm.2
      · have h6 : x6.Fits up := h2.same rfl id rfl rfl rfl
        split
        · exact h6.enterFault _
        · exact h6
    · exact h2.conclude _

/-- An update makes no axis HELD. -/
theorem Axis.update_free (hx : x.state ≠ .held) (input : Bool) : (x.update input).axis.state ≠ .held := by
  unfold Axis.update
  extract_lets x1 n0 n1 limited n x2 run armed err report x3 c x4 c4 runh c5 x6 c7
  have h2 : x2.state ≠ .held := x.velocity_keeps.2.2.1 ▸ hx
  split
  · split
    · split <;> [exact x3.restState_free.1; exact Axis.conclude_free (x := x3) h2 _]
    · split <;> [simp [Axis.enterFault]; exact Axis.conclude_free (x := x4) h2 _]
  · split
    · split
      · exact x2.homeConfirmed_free
      · split <;> [simp [Axis.enterFault]; exact h2]
    · exact Axis.conclude_free h2 _

end Sys2Proof.Machine
end

section
/-! SUPPORT. The rules under the operations of the Motion Controller and the crossings (R77 to R79, R106 to R122). -/

namespace Sys2Proof.Machine

variable {s u : State} {v m : Mode} {r₀ : Ruled}

/-! ## Gate states and commands (R117, R118) -/

theorem Kept.syncGate (h : Kept v m r₀ s) (a : Fin 8) : Kept v m r₀ (syncGate a s) := by
  have hreport : Kept v m r₀ (s.modAxis a fun x => { x with reported := x.gateState }) :=
    h.modAxis a (fun hf => hf.same rfl id rfl rfl rfl) fun _ hl => hl.of .rfl fun _ hv => hv
  unfold Machine.syncGate
  extract_lets x s1
  split
  · exact h
  · split
    · exact .forEach (fun c u hu => (hu.raise _).later _) _ hreport
    · exact hreport

theorem Kept.gateCommand (h : Kept v m r₀ s) (a : Fin 8) (w : GateWish) : Kept v m r₀ (gateCommand a w s) :=
  (h.modAxis a (Axis.command_fits _ h.up w) fun _ => Axis.command_heeds _ w).syncGate a

theorem Kept.carryGoal (h : Kept v m r₀ s) (a : Fin 8) : Kept v m r₀ (carryGoal a s) := by
  unfold Machine.carryGoal
  split
  · exact h
  · exact h.gateCommand a _
  · exact h.gateCommand a _

/-- A fault of an axis that is not HELD. -/
theorem Kept.faultAxis (h : Kept v m r₀ s) (a : Fin 8) (code : AxisFaultCode) (free : r₀.Locked → (s.axes.get a).state ≠ .held) :
    Kept v m r₀ (faultAxis a code s) := by
  unfold Machine.faultAxis
  split
  · exact h
  · exact ((h.modAxis a (fun hf => hf.enterFault code) fun h₀ hl => hl.free (free h₀) (by simp [Axis.enterFault])).raise _).syncGate a

/-! ## Every axis changed (R119 to R121) -/

/-- Every axis changed, for an axis rule that may be taken with another mode after it. -/
theorem Kept.modAxes (h : Kept v m r₀ s) {f : Axis → Axis} (up lock : Bool) (hup : v.up = true → up = true)
    (fits : ∀ x : Axis, x.Fits m.up → (f x).Fits up) (heeds : ∀ x : Axis, x.Heeds m.lock → (f x).Heeds lock) :
    Kept v { m with up := up, lock := lock } r₀ (s.modAxes f) where
  now := h.now
  covers := { run := h.covers.run, up := hup, calm := h.covers.calm }
  speeds := h.speeds
  stops := h.stops
  moves h₀ a := by simpa [State.ruled] using fits _ (h.moves h₀ a)
  heeds h₀ := ⟨fun a => by simpa [State.ruled] using heeds _ ((h.heeds h₀).1 a), (h.heeds h₀).2⟩
  staged h₀ := ⟨(h.staged h₀).fits, (h.staged h₀).runs⟩
  agrees := h.agrees

theorem Kept.stopAxes (h : Kept v m r₀ s) {f : Axis → Axis} (ended : List (Fin 8)) (up lock : Bool) (hup : v.up = true → up = true)
    (fits : ∀ x : Axis, x.Fits m.up → (f x).Fits up) (heeds : ∀ x : Axis, x.Heeds m.lock → (f x).Heeds lock) :
    Kept v { m with up := up, lock := lock } r₀ (stopAxes f ended s) :=
  .forEach (fun a _ hu => hu.syncGate a) _ (.forEach (fun _ _ hu => hu.work _) _ (h.modAxes up lock hup fits heeds))

theorem Kept.warmAxes (h : Kept v m r₀ s) : Kept v m r₀ (warmAxes s) :=
  h.stopAxes [] m.up m.lock h.covers.up (fun _ hf => hf.warm) fun _ hl => Axis.warm_heeds hl

theorem Kept.motionUp (h : Kept v m r₀ s) (hup : m.up = true) : Kept v m r₀ (motionUp s) :=
  h.stopAxes [] m.up m.lock h.covers.up (fun _ hf => hf.railUp hup) fun _ hl => Axis.railUp_heeds hl

/-- With the MOTION rail DOWN the axes stand (R119). -/
theorem Kept.motionDown (h : Kept v m r₀ s) (hv : v.up = false) : Kept v { m with up := false } r₀ (motionDown s) :=
  h.stopAxes _ false m.lock (fun e => by simp [hv] at e) (fun _ hf => hf.railDown) fun _ hl => Axis.railDown_heeds hl

/-- At DRESSING(on) every axis is HELD (R120). -/
theorem Kept.holdAxes (h : Kept v m r₀ s) : Kept v { m with lock := true } r₀ (holdAxes s) :=
  h.stopAxes _ m.up true h.covers.up (fun _ hf => hf.hold) fun x _ => x.hold_heeds

/-- At DRESSING(off) no axis stays HELD (R120). -/
theorem Kept.releaseAxes (h : Kept v m r₀ s) : Kept v { m with lock := false } r₀ (releaseAxes s) := by
  have h1 : Kept v { m with lock := false } r₀ (Machine.stopAxes Axis.unhold [] s) :=
    h.stopAxes [] m.up false h.covers.up (fun _ hf => hf.unhold) fun x _ =>
      ⟨iff_of_false x.unhold_free (by simp), fun e => absurd e x.unhold_free⟩
  unfold Machine.releaseAxes
  extract_lets s1
  split
  · exact .forEach (fun a _ hu => hu.carryGoal a) _ h1
  · exact h1

/-! ## The update of one axis (R107) -/

theorem Kept.updateAxis (h : Kept v m r₀ s) (a : Fin 8) : Kept v m r₀ (updateAxis a s) := by
  unfold Machine.updateAxis
  extract_lets s0 x r
  have h0 : Kept v m r₀ s0 := h.congr rfl
  split
  · next hx =>
    have hfree := Axis.updates_free hx
    have h1 : Kept v m r₀ (s0.modAxis a fun _ => { r.axis with resume := false }) :=
      h0.modAxis a (fun hf => (hf.update hx _).same rfl id rfl rfl rfl) fun _ hl => hl.free hfree (Axis.update_free hfree _)
    exact ((h1.congr (modOuts_ruled _ _)).raiseAll _).syncGate a
  · have h1 : Kept v m r₀ (s0.modAxis a fun x => { x with resume := false }) :=
      h0.modAxis a (fun hf => hf.same rfl id rfl rfl rfl) fun _ hl => hl.of .rfl fun _ hv => hv
    have h2 := h1.congr (modOuts_ruled (fun o => { o with pulses := o.pulses.set a 0 }) _)
    split
    · exact h2.carryGoal a
    · exact h2

/-! ## The requests (R106, R111 to R116) -/

/-- The limits of the travel and the revolution that AXIS_CONFIG accepts (R106). -/
theorem Kept.reconfigure (h : Kept v m r₀ s) (a : Fin 8) (k : AxisKind) {c : RawAxisConfig} (hspr : ¬(c.spr < 2 ∨ 65535 < c.spr ∨ c.spr ≤ c.offset))
    (hlim : ¬(c.low < -1000000 ∨ 0 < c.low ∨ c.high < 0 ∨ 1000000 < c.high)) (hgate : ¬gatePositionsValid c.openPos c.closedPos = false)
    (hx : (s.axes.get a).state = .unhomed ∨ (s.axes.get a).state = .idle ∨ ((s.axes.get a).state = .fault ∧ (s.axes.get a).v = 0)) :
    Kept v m r₀ (Machine.syncGate a (s.modAxis a (Axis.reconfigure k c))) := by
  have hfree : (s.axes.get a).state ≠ .held := by rcases hx with e | e | ⟨e, -⟩ <;> simp [e]
  exact (h.modAxis a (fun hf => hf.reconfigure hx (by omega) (by omega) (by omega) (by omega) (by simpa using hgate))
    fun _ hl => hl.free hfree (Axis.reconfigure_free _ _ _)).syncGate a

theorem Kept.doAxisConfig (h : Kept v m r₀ s) (axis : Nat) (c : RawAxisConfig) : Kept v m r₀ (doAxisConfig axis c s).1 := by
  unfold Machine.doAxisConfig
  split
  · next a k _ _ =>
    extract_lets x
    split
    · exact h
    · next hspr =>
      split
      · exact h
      · next hlim =>
        split
        · exact h
        · next hgate =>
          split
          · exact h
          · next hx =>
            have hnew := h.reconfigure a k hspr hlim hgate (not_not.mp hx)
            split
            · split
              · exact h
              · exact hnew
            · exact hnew
  · exact h

/-- A request that drives an axis is taken of one that is not HELD, with the MOTION rail UP (R116). -/
theorem Kept.driveAxis (h : Kept v m r₀ s) (a : Fin 8) {f : Axis → Axis} (hfree : ¬(s.axes.get a).state = .held)
    (hrail : ¬s.supply.rails.motion = false) (fits : m.up = true → (s.axes.get a).Fits m.up → (f (s.axes.get a)).Fits m.up)
    (free : (f (s.axes.get a)).state ≠ .held) : Kept v m r₀ (s.modAxis a f) :=
  h.modAxis a (fits (h.up (by simpa using hrail))) fun _ hl => hl.free hfree free

theorem Kept.doAxisSpeed (h : Kept v m r₀ s) (axis speed direction : Nat) : Kept v m r₀ (doAxisSpeed axis speed direction s).1 := by
  unfold Machine.doAxisSpeed
  split
  · exact h
  · next a _ =>
    extract_lets x w clamped
    split
    · exact h
    · split
      · exact h
      · split
        · exact h
        · next hfree =>
          split
          · exact h
          · next hrail =>
            split
            · exact h
            · split
              · exact h
              · next d _ =>
                extract_lets s1
                have hw : w ≤ (s.axes.get a).maxSpeed := Nat.min_le_right _ _
                split
                · have h1 : Kept v m r₀ s1 := by
                    unfold s1
                    split
                    · exact h.driveAxis a hfree hrail (fun hup hf => (hf.startSpeed hup hw d).same rfl id rfl rfl rfl) (by simp)
                    · exact h
                  exact h1.raise _
                · exact h.driveAxis a hfree hrail (fun hup hf => hf.startSpeed hup hw d) (by simp)

theorem Kept.doAxisStopAt (h : Kept v m r₀ s) (axis angle : Nat) : Kept v m r₀ (doAxisStopAt axis angle s).1 := by
  unfold Machine.doAxisStopAt
  split
  · exact h
  · next a _ =>
    extract_lets x y
    split
    · exact h
    · split
      · exact h
      · split
        · exact h
        · next hfree =>
          split
          · exact h
          · next hrail =>
            split
            · exact h
            · split
              · exact h
              · split
                · exact (h.driveAxis a hfree hrail (fun hup hf => (hf.startStopAt hup angle).rest) (Axis.restState_free _).1).raise _
                · exact h.driveAxis a hfree hrail (fun hup hf => hf.startStopAt hup angle) (by simp [Axis.startStopAt])

theorem Kept.doAxisMove (h : Kept v m r₀ s) (axis : Nat) (position : Int) : Kept v m r₀ (doAxisMove axis position s).1 := by
  unfold Machine.doAxisMove
  split
  · exact h
  · next a _ =>
    extract_lets x p clamped
    split
    · exact h
    · split
      · exact h
      · split
        · exact h
        · next hfree =>
          split
          · exact h
          · next hrail =>
            split
            · exact h
            · split
              · exact h.raise _
              · exact h.driveAxis a hfree hrail (fun hup hf => hf.retarget hup p) (by simp)

theorem Kept.doAxisHome (h : Kept v m r₀ s) (axis : Nat) : Kept v m r₀ (doAxisHome axis s).1 := by
  unfold Machine.doAxisHome
  split
  · exact h
  · next a _ =>
    extract_lets x
    split
    · exact h
    · next hfree =>
      split
      · exact h
      · next hrail =>
        split
        · exact h
        · exact (h.driveAxis a hfree hrail (fun hup hf => hf.enterHoming hup) (by simp)).syncGate a

theorem Kept.doAxisStop (h : Kept v m r₀ s) (axis : Nat) : Kept v m r₀ (doAxisStop axis s).1 := by
  unfold Machine.doAxisStop
  split
  · exact h
  · next a _ =>
    extract_lets x
    split
    · exact h
    · split
      · exact h
      · next hfree =>
        split
        · exact h
        · split
          · next hx => exact h.modAxis a (fun hf => hf.stop hx) fun _ hl => hl.free hfree (by simp)
          · exact h.raise _

end Sys2Proof.Machine
end

section
/-! SUPPORT. The rules under the crossings' work (R77 to R79). -/

namespace Sys2Proof.Machine

variable {s u : State} {v m : Mode} {r₀ : Ruled} {c : Fin 4} {d : CrossingDef} {k : Coupling}

/-- A stored coupling record runs no timeout while none does. -/
theorem untimed_stored (hk : s.track.couplings.get c = some k) (hs : s.ruled.Untimed) : ¬k.times := hs c k hk

theorem Kept.commandClose (h : Kept v m r₀ s) (he : s.engaged = false) : Kept v m r₀ (commandClose c d k s) :=
  (h.setCoupling c fun e => by simp [he] at e).gateCommand _ _

/-- The open delay of a record whose timeout does not run while it may not. -/
theorem Kept.openNow (h : Kept v m r₀ s) (hk : s.engaged = true → s.ruled.Untimed → ¬k.times) : Kept v m r₀ (openNow c d k s) := by
  unfold Machine.openNow
  split
  · exact h.setCoupling c fun he hs k' e => by cases e; exact hk he hs
  · exact (h.setCoupling c fun _ _ k' e => by cases e; rintro ⟨ms, e⟩; cases e).gateCommand _ _

theorem Kept.startOpenDelay (h : Kept v m r₀ s) (hk : s.engaged = true → s.ruled.Untimed → ¬k.times) :
    Kept v m r₀ (startOpenDelay c d k s) := by
  unfold Machine.startOpenDelay
  extract_lets n
  split
  · exact h.openNow hk
  · exact h.setCoupling c fun he hs k' e => by cases e; exact hk he hs

theorem Kept.actOnDemand (h : Kept v m r₀ s) (he : s.engaged = false) : Kept v m r₀ (actOnDemand c d k s) := by
  have hno {p : Prop} (e : s.engaged = true) : p := by simp [he] at e
  unfold Machine.actOnDemand
  split
  · extract_lets k1
    split
    · exact h.setCoupling c fun e => hno e
    · exact h.commandClose he
  · exact h.startOpenDelay fun e => hno e

theorem Kept.redemand (h : Kept v m r₀ s) (c : Fin 4) : Kept v m r₀ (redemand c s) := by
  unfold Machine.redemand
  split
  · next d k _ hk =>
    extract_lets w
    split
    · exact h
    · split
      · exact h.setCoupling c fun _ hs k' e => by cases e; exact untimed_stored (k := k) hk hs
      · next he => exact h.actOnDemand (by simpa using he)
  · exact h

theorem Kept.redemandOf (h : Kept v m r₀ s) (x : Fin 48) : Kept v m r₀ (redemandOf x s) := by
  unfold Machine.redemandOf
  split
  · exact h.redemand _
  · exact h

theorem Kept.startCoupling (h : Kept v m r₀ s) (c : Fin 4) : Kept v m r₀ (startCoupling c s) := by
  unfold Machine.startCoupling
  split
  · exact h.setCoupling c fun _ _ _ e => by cases e
  · extract_lets k
    split
    · exact h.setCoupling c fun _ _ k' e => by cases e; rintro ⟨ms, e⟩; cases e
    · next he => exact h.actOnDemand (by simpa using he)

theorem Kept.recommandCrossing (h : Kept v m r₀ s) (he : s.engaged = false) (c : Fin 4) : Kept v m r₀ (recommandCrossing c s) := by
  unfold Machine.recommandCrossing
  split
  · split
    · exact h.commandClose he
    · exact h.startOpenDelay fun e => by simp [he] at e
  · exact h

theorem Kept.openDelayExpire (h : Kept v m r₀ s) (c : Fin 4) : Kept v m r₀ (openDelayExpire c s) := by
  unfold Machine.openDelayExpire
  split
  · next d k _ hk =>
    split
    · exact h.openNow fun _ => untimed_stored hk
    · exact h
  · exact h

/-- A gate timeout runs out only while the interlock is RELEASED, so that its axis is not HELD (R79). -/
theorem Kept.gateTimeoutExpire (h : Kept v v r₀ s) (c : Fin 4) : Kept v v r₀ (gateTimeoutExpire c s) := by
  unfold Machine.gateTimeoutExpire
  split
  · next d k _ hk =>
    split
    · next ht =>
      have h1 : Kept v v r₀ (s.setCoupling c (some { k with timeout := .absent, retry := false })) :=
        h.setCoupling c fun _ _ k' e => by cases e; rintro ⟨ms, e⟩; cases e
      refine h1.faultAxis d.axis _ fun h₀ hheld => ?_
      obtain ⟨hheeds, huntimed⟩ := h.heeds h₀
      have hlock : v.lock = true := (hheeds d.axis).held.mp hheld
      have hcalm : v.calm = true := by rw [← h.now] at hlock ⊢; exact hlock
      exact untimed_stored hk (huntimed hcalm) ⟨0, ht⟩
    · exact h
  · exact h

/-- A timeout that GATE_STATE CLOSED ends or leaves as it was (R78). -/
theorem GateTimer.ended_not_running (t : GateTimer) (ms : Nat) : (match t with | .running _ => .absent | t => t) ≠ GateTimer.running ms := by
  cases t <;> simp

theorem Kept.gateSeen (h : Kept v m r₀ s) (c : Fin 4) (st : GateState) : Kept v m r₀ (gateSeen c st s) := by
  unfold Machine.gateSeen
  split
  · split
    · extract_lets k1 s1
      have hk1 : ¬k1.times := fun ⟨ms, e⟩ => GateTimer.ended_not_running _ ms e
      have h1 : Kept v m r₀ s1 := .forEach (fun _ _ hu => hu.later _) _ (h.setCoupling c fun _ _ k' e => by cases e; exact hk1)
      split
      · exact h1.startOpenDelay fun _ _ => hk1
      · exact h1
    · exact h
  · exact h

theorem Kept.retryGate (h : Kept v v r₀ s) (a : Fin 8) (he : s.engaged = false) : Kept v v r₀ (retryGate a s) := by
  have hup : s.supply.rails.motion = v.up := by rw [← h.now]; rfl
  have hlock : v.lock = false := by rw [← h.now]; exact he
  refine (h.modAxis a (fun hf => hup ▸ hf.retry) fun _ hl => ?_).syncGate a
  have hfree : (s.axes.get a).state ≠ .held := fun e => by simpa [hlock] using hl.held.mp e
  exact hl.free hfree (Axis.retry_free hfree)

theorem Kept.doGateRetry (h : Kept v v r₀ s) (crossing : Nat) : Kept v v r₀ (doGateRetry crossing s).1 := by
  unfold Machine.doGateRetry
  split
  · exact h
  · next c _ =>
    split
    · exact h
    · split
      · split
        · exact h
        · next he =>
          have he' : s.engaged = false := by simpa using he
          exact (h.setCoupling c fun e => by simp [he'] at e).retryGate _ he'
      · exact h

end Sys2Proof.Machine
end

section
/-! SUPPORT. The rules under the trains' speeds and stops (R90, R95 to R101), and under the ledger's steps: a section that takes a state,
joins a held list or leaves it (R68 to R73). -/

namespace Sys2Proof.Machine

variable {s u : State} {v m : Mode} {r₀ : Ruled} {x : Train}

/-! ## The needed step worked out (R95, R96) -/

/-- Only the needed step, the timer and its mark change. -/
theorem Train.aim_keeps (d : RampDir) (x : Train) : ∃ n due, x.aim d = { x with dir := d, timer := n, stepDue := due } := by
  unfold Train.aim
  split
  · next e => exact ⟨_, _, by rw [← e]⟩
  · exact ⟨_, _, rfl⟩

theorem Train.Bounded.aim {run : Bool} (h : x.Bounded run) {d : RampDir}
    (hd : d = .up → x.speed < x.maxSpeed ∧ x.placed = true ∧ x.halt = none ∧ run = true) : (x.aim d).Sound run := by
  obtain ⟨n, due, e⟩ := x.aim_keeps d
  rw [e]
  exact ⟨⟨h.max, h.speed, h.requested, h.rests⟩, hd⟩

/-- A target above 0 is the requested speed of a placed train that is not halted, where trains may run (R95). -/
theorem effective_pos {t : Fin 8} (h : 0 < s.effective t) : s.effective t = (s.trains.get t).requested ∧
    (s.trains.get t).placed = true ∧ (s.trains.get t).halt = none ∧ s.ruled.run = true := by
  simp only [State.effective] at h ⊢
  split at h
  · cases h
  · next hno =>
    rw [if_neg hno]
    simp only [not_or, Bool.not_eq_false, Option.isSome_iff_ne_none, not_not, Bool.not_eq_true] at hno
    obtain ⟨hp, hh, hpower, he, -⟩ := hno
    refine ⟨rfl, hp, hh, ?_⟩
    simp only [State.trackPowered, Bool.and_eq_true] at hpower
    simp [Ruled.run, State.ruled, hpower.1, hpower.2, he]

/-- A train changed, and its needed step worked out again before anything else sees it: its speeds may be in order by then only. -/
theorem Kept.resyncOf (h : Kept v m r₀ s) (t : Fin 8) {f : Train → Train} (same : u.ruled = (s.modTrain t f).ruled)
    (bounded : ∀ run, (s.trains.get t).Sound run → (f (s.trains.get t)).Bounded run)
    (held : (f (s.trains.get t)).held = (s.trains.get t).held) (placed : (f (s.trains.get t)).placed = (s.trains.get t).placed)
    (claim : (f (s.trains.get t)).claim = (s.trains.get t).claim) : Kept v m r₀ (resync t u) := by
  have htrain : u.trains.get t = f (s.trains.get t) := by
    have e := congrFun (congrArg Ruled.trains same) t
    simpa [State.ruled] using e
  have hrun : u.ruled.run = s.ruled.run := by rw [same]; rfl
  have hsame : (resync t u).ruled = (s.modTrain t fun x => (f x).aim (neededDir (u.trains.get t).speed (u.effective t))).ruled := by
    rw [resync, modTrain_ruled, modTrain_ruled, same, modTrain_ruled, htrain]
    simp
  obtain ⟨n, due, haim⟩ := (f (s.trains.get t)).aim_keeps (neededDir (u.trains.get t).speed (u.effective t))
  refine (h.modTrain t (fun run hr hs => (bounded run hs).aim fun hd => ?_) ?_ ?_ fun _ _ _ hc => ?_).congr hsame
  · have hlt : (u.trains.get t).speed < u.effective t := by
      simp only [neededDir] at hd
      by_contra hno
      rw [if_neg hno] at hd
      split at hd <;> cases hd
    obtain ⟨heff, hp, hh, hrun'⟩ := effective_pos (Nat.zero_lt_of_lt hlt)
    rw [heff, htrain] at hlt
    rw [htrain] at hp hh
    exact ⟨hlt.trans_le (bounded run hs).requested, hp, hh, hr (hrun ▸ hrun')⟩
  · simp only [haim, held]
  · simp only [haim, placed]
  · simp only [haim, claim, hc]

theorem Kept.resync (h : Kept v m r₀ s) (t : Fin 8) : Kept v m r₀ (resync t s) := by
  refine h.resyncOf t (f := fun x => x) ?_ (fun _ hs => hs.toBounded) rfl rfl rfl
  rw [modTrain_ruled]
  exact congrArg (fun g => { s.ruled with trains := g }) (Function.update_eq_self t s.ruled.trains).symm

theorem Kept.resyncAll (h : Kept v m r₀ s) : Kept v m r₀ (resyncAll s) := .forEach (fun t _ hu => hu.resync t) _ h

/-! ## Steps, stops and halts (R96, R99, R100) -/

theorem modTrain_modTrain (t : Fin 8) (f g : Train → Train) (s : State) :
    ((s.modTrain t f).modTrain t g).ruled = (s.modTrain t fun x => g (f x)).ruled := by
  simp [modTrain_ruled]

/-- A ramp step stays within the train's speeds: upward only where the step was worked out so (R96). -/
theorem Train.Sound.step {run : Bool} (h : x.Sound run) : x.step.Bounded run where
  max := h.max
  speed := by
    have hv := h.speed
    simp only [Train.step]
    split
    · next hd => exact (h.climbs hd).1
    · omega
  requested := h.requested
  rests := by
    simp only [Train.step]
    split
    · next hd => exact .inr (h.climbs hd).2
    · rcases h.rests with e | e
      · exact .inl (by omega)
      · exact .inr e

theorem Kept.rampStep (h : Kept v m r₀ s) (t : Fin 8) : Kept v m r₀ (rampStep t s) := by
  unfold Machine.rampStep
  extract_lets x s1 s2
  split
  · by_cases hlast : x.dir = .down ∧ x.speed = 1
    · refine h.resyncOf t (f := fun x => { x.step with stop := x.step.rampReason }) ?_ (fun run hs => ?_) rfl rfl rfl
      · simp only [s2, if_pos hlast, raise_ruled, s1, modTrain_modTrain]
      · exact ⟨hs.step.max, hs.step.speed, hs.step.requested, hs.step.rests⟩
    · refine h.resyncOf t (f := Train.step) ?_ (fun run hs => hs.step) rfl rfl rfl
      simp only [s2, if_neg hlast, s1]
  · exact h

theorem Kept.haltTrain (h : Kept v m r₀ s) (t : Fin 8) (fault : HaltFault) : Kept v m r₀ (haltTrain t fault s) := by
  unfold Machine.haltTrain
  split
  · exact h
  · exact h.resyncOf t (raise_ruled _ _) (fun _ hs => ⟨hs.max, Nat.zero_le _, Nat.zero_le _, .inl rfl⟩) rfl rfl rfl

theorem Kept.emergencyStopOne (h : Kept v m r₀ s) (reason : StopReason) (t : Fin 8) : Kept v m r₀ (emergencyStopOne reason t s) := by
  unfold Machine.emergencyStopOne
  extract_lets x
  split
  · split
    · exact h.modTrain t (fun _ _ hs => ⟨⟨hs.max, hs.speed, hs.requested, hs.rests⟩, hs.climbs⟩) rfl rfl fun _ _ _ hc => hc
    · refine (h.modTrain t (fun _ _ hs => ⟨⟨hs.max, Nat.zero_le _, hs.requested, .inl rfl⟩, fun hd => ?_⟩) rfl rfl
        fun _ _ _ hc => hc).raise _
      exact ⟨hs.max, (hs.climbs hd).2⟩
  · exact h

/-- A loop over every index in which each round does its own, and undoes none of the others'. -/
theorem forEach_indices {n : Nat} {I : State → Prop} {P : Fin n → State → Prop} {f : Fin n → State → State}
    (hI : ∀ i u, I u → I (f i u)) (own : ∀ i u, I u → P i (f i u)) (others : ∀ i j u, I u → P j u → P j (f i u)) (hs : I s) (i : Fin n) :
    P i (forEach (indices n) f s) := by
  have key : ∀ (l : List (Fin n)) (u : State), I u → (∀ j, j ∈ l ∨ P j u) → ∀ j, P j (forEach l f u) := by
    intro l
    induction l with
    | nil => exact fun u _ h j => (h j).resolve_left (by simp)
    | cons a l ih =>
      refine fun u hu h => ih (f a u) (hI a u hu) fun j => ?_
      by_cases hj : j = a
      · exact .inr (hj ▸ own a u hu)
      · exact (h j).imp (fun hm => (List.mem_cons.mp hm).resolve_left hj) (others a j u hu)
  exact key _ s hs (fun j => .inl (mem_indices j)) i

theorem resync_train (t k : Fin 8) (s : State) : (resync t s).trains.get k =
    if k = t then (s.trains.get k).aim (neededDir (s.trains.get k).speed (s.effective k)) else s.trains.get k := by
  rw [resync, State.modTrain_trains, Table.get_modify]
  split
  · next e => rw [e]
  · rfl

/-- Where no train may run, the working out of each train's step leaves a standing train without a step upward. -/
theorem resyncAll_stands (hrun : s.ruled.run = false) (hs : ∀ k, (s.trains.get k).Bounded false) : (resyncAll s).ruled.Speeds false := by
  have haim {u : State} {k : Fin 8} (hu : u.ruled.run = false) (hb : (u.trains.get k).Bounded false) :
      ((u.trains.get k).aim (neededDir (u.trains.get k).speed (u.effective k))).Sound false := by
    have heff : u.effective k = 0 := Nat.eq_zero_of_not_pos fun hpos => by
      obtain ⟨-, -, -, hrun⟩ := effective_pos hpos
      simp [hu] at hrun
    refine hb.aim fun hd => ?_
    simp only [neededDir, heff, Nat.not_lt_zero, if_false] at hd
    split at hd <;> cases hd
  refine forEach_indices (I := fun u => u.ruled.run = false ∧ ∀ k, (u.trains.get k).Bounded false)
    (P := fun k u => (u.trains.get k).Sound false) (fun i u hu => ⟨hu.1, fun k => ?_⟩) (fun k u hu => ?_) (fun i k u hu hk => ?_) ⟨hrun, hs⟩
  · rw [resync_train]
    split
    · exact (haim hu.1 (hu.2 k)).toBounded
    · exact hu.2 k
  · rw [resync_train, if_pos rfl]
    exact haim hu.1 (hu.2 k)
  · rw [resync_train]
    split
    · exact haim hu.1 (hu.2 k)
    · exact hk

/-- A placed train that is not halted is stopped at once, and another one stands already (R99). -/
theorem emergencyStopOne_stands {run : Bool} (reason : StopReason) {t : Fin 8} (hs : (s.trains.get t).Sound run) :
    ((emergencyStopOne reason t s).trains.get t).speed = 0 := by
  unfold emergencyStopOne
  extract_lets x
  split
  · split
    · next hv => simpa using hv
    · simp
  · next hno => exact hs.rests.resolve_right fun ⟨hp, hh, _⟩ => hno ⟨hp, hh⟩

theorem emergencyStopOne_other (reason : StopReason) {t k : Fin 8} (hk : k ≠ t) (s : State) :
    (emergencyStopOne reason t s).trains.get k = s.trains.get k := by
  unfold emergencyStopOne
  extract_lets x
  split
  · split <;> simp [Table.get_modify_ne _ _ hk]
  · rfl

/-- Where no train may run, trains that stand keep the rule of a stopped show. -/
theorem Kept.standing (h : Kept v m r₀ s) (hv : v.run = false) (stops : r₀.Speeds r₀.run → s.ruled.Speeds false) :
    Kept v { m with run := false } r₀ s where
  now := h.now
  covers := { run := fun e => by simp [hv] at e, up := h.covers.up, calm := h.covers.calm }
  speeds := h.speeds
  stops := stops
  moves := h.moves
  heeds := h.heeds
  staged := h.staged
  agrees := h.agrees

/-- Trains stop at once where they may not run (R99). -/
theorem Kept.emergencyStop (h : Kept v m r₀ s) (hv : v.run = false) (reason : StopReason) :
    Kept v { m with run := false } r₀ (emergencyStop reason s) := by
  have hloop : Kept v m r₀ (Machine.forEach (indices 8) (Machine.emergencyStopOne reason) s) :=
    .forEach (fun t _ hu => hu.emergencyStopOne reason t) _ h
  have hspeed (h₀ : r₀.Speeds r₀.run) (k : Fin 8) :
      ((Machine.forEach (indices 8) (Machine.emergencyStopOne reason) s).trains.get k).speed = 0 := by
    refine forEach_indices (I := Kept v m r₀) (P := fun k u => (u.trains.get k).speed = 0) (fun t u hu => hu.emergencyStopOne reason t)
      (fun t u hu => emergencyStopOne_stands reason (hu.stops h₀ t)) (fun i j u hu hj => ?_) h k
    by_cases e : j = i
    · subst e
      exact emergencyStopOne_stands reason (hu.stops h₀ j)
    · rw [emergencyStopOne_other reason e]
      exact hj
  unfold Machine.emergencyStop
  refine hloop.resyncAll.standing hv fun h₀ => resyncAll_stands (hloop.run_eq.trans hv) fun k => ?_
  have hsound := hloop.stops h₀ k
  exact ⟨hsound.max, hsound.speed, hsound.requested, .inl (hspeed h₀ k)⟩

/-! ## Claims and route endings (R92, R93) -/

/-- The speeds, the held list and the place of a train. -/
def Train.frame (x : Train) : Nat × Nat × Nat × Option HaltFault × RampDir × List (Fin 48 × Sense) × Bool :=
  (x.maxSpeed, x.speed, x.requested, x.halt, x.dir, x.held, x.placed)

theorem Train.held_placed_of_frame {x y : Train} (e : y.frame = x.frame) : y.held = x.held ∧ y.placed = x.placed := by
  simp only [Train.frame, Prod.mk.injEq] at e
  obtain ⟨-, -, -, -, -, hheld, hplaced⟩ := e
  exact ⟨hheld, hplaced⟩

theorem Train.Sound.of_frame {run : Bool} {y : Train} (h : x.Sound run) (e : y.frame = x.frame) : y.Sound run := by
  simp only [Train.frame, Prod.mk.injEq] at e
  obtain ⟨hmax, hspeed, hreq, hhalt, hdir, -, hplaced⟩ := e
  obtain ⟨⟨h1, h2, h3, h4⟩, h5⟩ := h
  rw [← hmax] at h1 h2 h3 h5
  rw [← hspeed] at h2 h4 h5
  rw [← hreq] at h3
  rw [← hplaced, ← hhalt] at h4 h5
  rw [← hdir] at h5
  exact ⟨⟨h1, h2, h3, h4⟩, h5⟩

/-- A change of a train's orders: its speeds, its held list and its place are left alone, and no claim is made. -/
theorem Kept.order (h : Kept v m r₀ s) (t : Fin 8) {f : Train → Train} (frame : ∀ x, (f x).frame = x.frame)
    (claim : ∀ x, (f x).claim = x.claim ∨ (f x).claim = .none) : Kept v m r₀ (s.modTrain t f) := by
  have e := frame (s.trains.get t)
  obtain ⟨hheld, hplaced⟩ := Train.held_placed_of_frame e
  exact h.modTrain t (fun _ _ hs => hs.of_frame e) hheld hplaced fun _ _ _ hc => (claim _).elim (·.trans hc) id

theorem Kept.routeFault (h : Kept v m r₀ s) (t : Fin 8) (reason : RouteReason) : Kept v m r₀ (routeFault t reason s) := by
  refine Kept.raise (h.order t (fun _ => ?_) fun _ => ?_) _
  · rfl
  · exact .inr rfl

@[simp] theorem routeEnding_ruled (t : Fin 8) (s : State) : (routeEnding t s).ruled = s.ruled := by
  unfold routeEnding
  split <;> rfl

theorem Kept.withdrawClaim (h : Kept v m r₀ s) (t : Fin 8) : Kept v m r₀ (withdrawClaim t s) := by
  unfold Machine.withdrawClaim
  split
  · exact (h.withdraw t _).order t (fun _ => rfl) fun _ => .inr rfl
  · exact h

end Sys2Proof.Machine
end

section
/-! SUPPORT. The ledger under the sections' steps (R68 to R73): a section that takes a state, joins a held list or leaves it, and the
releases, grants and halts built of them. -/

namespace Sys2Proof.Machine

variable {s u : State} {v m : Mode} {r₀ : Ruled} {t : Fin 8} {x : Fin 48}

/-! ## Throws and pulses, which no rule speaks of (R74, R75) -/

@[simp] theorem dropThrows_ruled (drop : ThrowEntry → Bool) (s : State) : (dropThrows drop s).ruled = s.ruled := by
  unfold dropThrows
  extract_lets s1
  split <;> rfl

@[simp] theorem dropGrantThrow_ruled (x : Fin 48) (s : State) : (dropGrantThrow x s).ruled = s.ruled := dropThrows_ruled _ s
@[simp] theorem dropRequestThrows_ruled (x : Fin 48) (s : State) : (dropRequestThrows x s).ruled = s.ruled := dropThrows_ruled _ s
@[simp] theorem queueThrow_ruled (e : ThrowEntry) (s : State) : (queueThrow e s).ruled = s.ruled := rfl

@[simp] theorem testServed_ruled (o : Option (Fin 8)) (s : State) : (testServed o s).ruled = s.ruled := by
  cases o <;> rfl

@[simp] theorem examineHead_ruled (s : State) : (examineHead s).ruled = s.ruled := by
  unfold examineHead
  split
  · rfl
  · split
    · simp
    · split <;> simp

@[simp] theorem pulseFinish_ruled (s : State) : (pulseFinish s).ruled = s.ruled := by
  unfold pulseFinish
  split <;> simp

@[simp] theorem rechargeFinish_ruled (s : State) : (rechargeFinish s).ruled = s.ruled := by
  unfold rechargeFinish
  split <;> simp

@[simp] theorem unserve_ruled (t : Fin 8) (s : State) : (unserve t s).ruled = s.ruled := by
  obtain h | ⟨_, _, _, _, -, h⟩ := unserve_cases t s <;> rw [h]
  rfl

/-! ## The ledger step by step -/

/-- A crossing's work leaves the ledger alone. -/
theorem gateStable_ledger (l : Ledger) : GateStable fun u => u.ruled.ledger = l where
  report a h := by rw [modAxis_ruled]; exact h
  gate _ _ h := by rw [raise_ruled]; exact h
  later _ h := h
  coupling _ _ h := by rw [setCoupling_ruled]; exact h
  command a w h := by rw [modAxis_ruled]; exact h

/-- A section takes a state: its holder is the state's. -/
theorem setSec_ledger (x : Fin 48) (st : SecState) (s : State) : (setSec x st s).ruled.ledger =
    { s.ruled.ledger with holder := Function.update s.ruled.ledger.holder x st.holder } := by
  refine (gateStable_ledger _).redemandOf x ?_
  rw [modRun_ruled]
  ext y
  · rfl
  · by_cases e : y = x
    · subst e; simp [Ruled.ledger]
    · simp [Ruled.ledger, e]
  · rfl
  · rfl
  · rfl

theorem clearSec_ledger (x : Fin 48) (s : State) : (clearSec x s).ruled.ledger =
    { s.ruled.ledger with holder := Function.update s.ruled.ledger.holder x none } := by
  unfold clearSec
  extract_lets n s1
  split <;> exact setSec_ledger x _ s

/-- A train whose held list changes, and neither its place nor its claim. -/
theorem modHeld_ledger {t : Fin 8} {f : Train → Train} (placed : (f (s.trains.get t)).placed = (s.trains.get t).placed)
    (claim : (f (s.trains.get t)).claim = (s.trains.get t).claim) : (s.modTrain t f).ruled.ledger =
      { s.ruled.ledger with held := Function.update s.ruled.ledger.held t ((f (s.trains.get t)).held.map Prod.fst) } := by
  have hplaced : Function.update s.ruled.ledger.placed t (s.trains.get t).placed = s.ruled.ledger.placed :=
    Function.update_eq_self t s.ruled.ledger.placed
  have hclaims : Function.update s.ruled.ledger.claims t ((s.trains.get t).claim != .none) = s.ruled.ledger.claims :=
    Function.update_eq_self t s.ruled.ledger.claims
  rw [modTrain_ledger_eq, placed, claim, hplaced, hclaims]

theorem joinHeld_ledger (t : Fin 8) (x : Fin 48) (sense : Sense) (s : State) : (joinHeld t x sense s).ruled.ledger =
    { s.ruled.ledger with held := Function.update s.ruled.ledger.held t (s.ruled.ledger.held t ++ [x]) } :=
  (modHeld_ledger rfl rfl).trans (by rw [List.map_append]; rfl)

theorem leaveHeld_ledger (t : Fin 8) (x : Fin 48) (s : State) : (leaveHeld t x s).ruled.ledger =
    { s.ruled.ledger with held := Function.update s.ruled.ledger.held t ((s.ruled.ledger.held t).filter fun y => y != x) } :=
  (modHeld_ledger rfl rfl).trans (by
    have e : ((s.heldOf t).filter fun e => e.1 != x).map Prod.fst = ((s.heldOf t).map Prod.fst).filter fun y => y != x := by
      rw [List.filter_map]; rfl
    exact congrArg (fun l => { s.ruled.ledger with held := Function.update s.ruled.ledger.held t l }) e)

@[simp] theorem resync_ledger (t : Fin 8) (s : State) : (resync t s).ruled.ledger = s.ruled.ledger := by
  obtain ⟨n, due, e⟩ := (s.trains.get t).aim_keeps (neededDir (s.trains.get t).speed (s.effective t))
  rw [resync, modTrain_ledger (by rw [e]) (by rw [e]), e]
  exact congrArg (fun g => { s.ruled.ledger with claims := g }) (Function.update_eq_self t s.ruled.ledger.claims)

/-- A release dismisses the section (R72). -/
theorem releaseSec_ledger (t : Fin 8) (x : Fin 48) (s : State) : (releaseSec t x s).ruled.ledger = s.ruled.ledger.dismiss t x := by
  rw [releaseSec, resync_ledger, dropGrantThrow_ruled, clearSec_ledger, leaveHeld_ledger]
  rfl

/-! ## A section takes a state -/

/-- A section takes a state of the same holder; or of any holder, while the ledger is left aside. -/
theorem Kept.setSec (h : Kept v m r₀ s) (x : Fin 48) {st : SecState} (holder : m.booked = true → st.holder = (s.sec x).holder) :
    Kept v m r₀ (setSec x st s) := by
  have h1 : Kept v m r₀ (s.modRun x fun r => { r with state := st }) := by
    refine h.toTrack rfl (fun _ hs => hs) fun hb ha => ?_
    have e : (s.modRun x fun r => { r with state := st }).ruled.ledger = s.ruled.ledger := by
      rw [modRun_ruled]
      refine congrArg (fun g => { s.ruled.ledger with holder := g }) (funext fun y => ?_)
      by_cases e : y = x
      · subst e; simpa [State.ruled] using holder hb
      · simp [e]
    exact e ▸ ha
  exact h1.redemandOf x

theorem Kept.clearSec (h : Kept v m r₀ s) (x : Fin 48) (holder : m.booked = true → (s.sec x).holder = none) : Kept v m r₀ (clearSec x s) := by
  have h1 : Kept v m r₀ (Machine.setSec x (.clearing (s.track.defs.get x).clearance) s) := h.setSec x fun hb => (holder hb).symm
  unfold Machine.clearSec
  extract_lets n s1
  split
  · exact h1.later _
  · exact h1

/-- A held list changed while the ledger is left aside. -/
theorem Kept.modHeld (h : Kept v m.unbooked r₀ s) (t : Fin 8) {f : Train → Train} (sound : ∀ run (y : Train), y.Sound run → (f y).Sound run) :
    Kept v m.unbooked r₀ (s.modTrain t f) := by
  refine h.toTrains rfl (fun run _ hs => ?_) nofun
  rw [modTrain_ruled]
  exact forall_update (p := Train.Sound run) hs (sound run _)

theorem Kept.joinHeld (h : Kept v m.unbooked r₀ s) (t : Fin 8) (x : Fin 48) (sense : Sense) : Kept v m.unbooked r₀ (joinHeld t x sense s) :=
  h.modHeld t fun _ _ hs => ⟨⟨hs.max, hs.speed, hs.requested, hs.rests⟩, hs.climbs⟩

theorem Kept.leaveHeld (h : Kept v m.unbooked r₀ s) (t : Fin 8) (x : Fin 48) : Kept v m.unbooked r₀ (leaveHeld t x s) := by
  refine Kept.later (h.modHeld t fun _ _ hs => ?_) _
  exact ⟨⟨hs.max, hs.speed, hs.requested, hs.rests⟩, hs.climbs⟩

/-! ## Releases (R72) -/

/-- Whether a section may be dismissed from a train: it is held by nobody, or by that train. -/
def Ledger.frees (l : Ledger) (t : Fin 8) (x : Fin 48) : Prop := l.holder x = none ∨ l.holder x = some t

theorem Ledger.frees.dismiss {l : Ledger} (h : l.frees t x) (y : Fin 48) : (l.dismiss t y).frees t x := by
  by_cases e : x = y
  · exact .inl (by simp [Ledger.dismiss, e])
  · simpa [Ledger.frees, Ledger.dismiss, e] using h

theorem Kept.releaseSec (h : Kept v m r₀ s) (hx : m.booked = true → r₀.ledger.Agrees → s.ruled.ledger.frees t x) :
    Kept v m r₀ (releaseSec t x s) := by
  have h1 : Kept v m.unbooked r₀ (Machine.releaseSec t x s) :=
    (((h.unbook.leaveHeld t x).clearSec x nofun).congr (dropGrantThrow_ruled x _)).resync t
  refine h1.book fun hb h₀ => ?_
  rw [releaseSec_ledger]
  exact (h.agrees hb h₀).dismiss (hx hb h₀)

theorem Kept.releaseAll (h : Kept v m r₀ s) {l : List (Fin 48)}
    (hl : m.booked = true → r₀.ledger.Agrees → ∀ x ∈ l, s.ruled.ledger.frees t x) : Kept v m r₀ (Machine.forEach l (Machine.releaseSec t) s) := by
  induction l generalizing s with
  | nil => exact h
  | cons x l ih =>
    refine ih (h.releaseSec fun hb h₀ => hl hb h₀ x List.mem_cons_self) fun hb h₀ y hy => ?_
    rw [releaseSec_ledger]
    exact (hl hb h₀ y (List.mem_cons_of_mem x hy)).dismiss x

theorem Kept.keepPrev (h : Kept v m r₀ s) (hx : s.sec x = .pending t) : Kept v m r₀ (keepPrev t x s) :=
  ((h.setSec x fun _ => by rw [hx]; rfl).congr (dropGrantThrow_ruled x _)).resync t

theorem keepPrev_ledger (hx : s.sec x = .pending t) : (keepPrev t x s).ruled.ledger = s.ruled.ledger := by
  rw [Machine.keepPrev, resync_ledger, dropGrantThrow_ruled, setSec_ledger]
  refine congrArg (fun g => { s.ruled.ledger with holder := g }) (funext fun y => ?_)
  by_cases e : y = x
  · subst e; simp [Ruled.ledger, State.ruled, hx, SecState.holder]
  · simp [e, Ruled.ledger]

theorem frees_of_pending (hx : s.sec x = .pending t) : s.ruled.ledger.frees t x := .inr (congrArg SecState.holder hx)

theorem Kept.releasePending (h : Kept v m r₀ s) (t : Fin 8) : Kept v m r₀ (releasePending t s) := by
  obtain ⟨-, e⟩ | ⟨prev, rest, -, hp, e⟩ | ⟨-, e⟩ := releasePending_cases t s
  · rw [e]; exact h
  · have hprev := hp prev List.mem_cons_self
    rw [e]
    refine ((h.keepPrev hprev).releaseAll fun _ _ y hy => ?_).congr (unserve_ruled t _)
    rw [keepPrev_ledger hprev]
    exact frees_of_pending (hp y (List.mem_cons_of_mem _ hy))
  · rw [e]
    exact (h.releaseAll fun _ _ y hy => frees_of_pending (mem_pendingOf.mp hy).2).congr (unserve_ruled t _)

/-- A halt, and the end of the halted train's claim and route (R82, R93, R100). -/
theorem Kept.halt (h : Kept v m r₀ s) (t : Fin 8) (fault : HaltFault) : Kept v m r₀ (halt t fault s) := by
  unfold Machine.halt
  extract_lets s1 claim s2 s3
  have h1 : Kept v m r₀ s1 := h.haltTrain t fault
  have h2 : Kept v m r₀ s2 := by
    unfold s2
    cases claim
    · exact h1
    · exact h1.withdraw t _
    · exact h1
  have h3 : Kept v m r₀ s3 := h2.releasePending t
  split
  · exact (h3.congr (routeEnding_ruled t s3)).order t (fun _ => rfl) fun _ => .inl rfl
  · exact h3.routeFault t _

end Sys2Proof.Machine
end

section
/-! SUPPORT. The rules under claims and grants (R69 to R73, R93) and under the attribution of entries and leaves (R80 to R83). -/

namespace Sys2Proof.Machine

variable {s u : State} {v m : Mode} {r₀ : Ruled} {t : Fin 8} {x : Fin 48}

/-! ## Claims and grants (R69 to R73, R93) -/

/-- A train whose claim alone is made or ended. -/
theorem modClaim_ledger (t : Fin 8) (c : Claim) (s : State) : (s.modTrain t fun r => { r with claim := c }).ruled.ledger =
    { s.ruled.ledger with claims := Function.update s.ruled.ledger.claims t (c != .none) } := modTrain_ledger rfl rfl

/-- A section that becomes PENDING is enrolled for the train, which claims it (R70). -/
theorem pend_ledger (t : Fin 8) (x : Fin 48) (entered : End) (s : State) : (pend t x entered s).ruled.ledger =
    { s.ruled.ledger.enrol t x with claims := Function.update s.ruled.ledger.claims t true } := by
  unfold pend
  extract_lets s1
  rw [resync_ledger, modClaim_ledger, joinHeld_ledger, setSec_ledger, withdraw_ruled]
  rfl

theorem Kept.pend (h : Kept v m r₀ s) (entered : End) (hp : m.booked = true → r₀.ledger.Agrees → s.ruled.ledger.placed t = true)
    (hx : (s.sec x).holder = none) : Kept v m r₀ (pend t x entered s) := by
  have h1 : Kept v m.unbooked r₀ (Machine.pend t x entered s) := by
    refine Kept.resync (Kept.modHeld ((((h.unbook.withdraw t x).setSec x nofun).joinHeld t x _)) t fun _ _ hs => ?_) t
    exact ⟨⟨hs.max, hs.speed, hs.requested, hs.rests⟩, hs.climbs⟩
  refine h1.book fun hb h₀ => ?_
  rw [pend_ledger]
  have hplaced := hp hb h₀
  exact ((h.agrees hb h₀).enrol hplaced hx).reclaim fun hno => by simp [Ledger.enrol, hplaced] at hno

/-- A section of the train stays its own. -/
theorem pend_holder {y : Fin 48} (entered : End) (hy : (s.sec y).holder = some t) : ((pend t x entered s).sec y).holder = some t := by
  have e := congrArg (fun l : Ledger => l.holder y) (pend_ledger t x entered s)
  refine e.trans ?_
  by_cases hyx : y = x
  · simp [Ledger.enrol, hyx]
  · simpa [Ledger.enrol, hyx] using (show s.ruled.ledger.holder y = some t from hy)

/-- A grant of a section that nobody holds, for a placed train (R70). -/
theorem Kept.grant (h : Kept v m r₀ s) (entered : End) (hp : m.booked = true → r₀.ledger.Agrees → s.ruled.ledger.placed t = true)
    (hx : (s.sec x).holder = none) : Kept v m r₀ (grant t x entered s) := by
  have hdrop : Kept v m r₀ (dropRequestThrows x s) := h.congr (dropRequestThrows_ruled x s)
  have hx' : ((dropRequestThrows x s).sec x).holder = none := by
    rw [← hx]
    exact congrArg (fun r : Ruled => (r.secs x).holder) (dropRequestThrows_ruled x s)
  have hpend : Kept v m r₀ (Machine.pend t x entered (dropRequestThrows x s)) :=
    hdrop.pend entered (by rw [dropRequestThrows_ruled]; exact hp) hx'
  unfold Machine.grant
  extract_lets s1
  split
  · exact hdrop
  · next prev sense _ =>
    split
    · exact hpend.later _
    · split
      · exact hpend.later _
      · split
        · exact (hpend.congr (queueThrow_ruled _ _)).later _
        · split
          · next hprev =>
            have hholder := pend_holder (t := t) (x := x) entered (congrArg SecState.holder hprev)
            exact (((hpend.setSec prev (st := .pending t) fun _ => hholder.symm).resync t).congr (queueThrow_ruled _ _)).later _
          · refine ((hdrop.withdraw t x).clearSec x fun _ => ?_).routeFault t _
            rw [← hx']
            exact congrArg (fun r : Ruled => (r.secs x).holder) (withdraw_ruled t x _)

theorem Kept.testClaim (h : Kept v m r₀ s) (t : Fin 8) : Kept v m r₀ (testClaim t s) := by
  unfold Machine.testClaim
  extract_lets r
  split
  · next hc =>
    have hplaced : (s.trains.get t).placed = true := by
      simp only [Train.claims, Bool.and_eq_true] at hc
      exact hc.2
    split
    · exact h
    · next x e rest _ =>
      extract_lets s1
      have h1 : Kept v m r₀ s1 := h.modTrain t (fun _ _ hs => hs.of_frame rfl) rfl rfl fun _ _ hp => by simp [hplaced] at hp
      split
      · next hfree =>
        refine h1.grant e (fun _ _ => ?_) (congrArg SecState.holder hfree)
        simpa [s1, modTrain_ruled, Ruled.ledger] using hplaced
      · exact h1.congr (modTrack_ruled (f := fun k => { k with runs := k.runs.modify x _ }) rfl
          (fun y => by rw [Table.get_modify]; split <;> rfl) rfl)
  · exact h

/-- A train whose claim waits is placed (R69, R85). -/
theorem Ledger.Agrees.placed_of_claims {l : Ledger} (h : l.Agrees) (hc : l.claims t = true) : l.placed t = true := by
  by_contra hp
  simp [(h.unplaced t (by simpa using hp)).2] at hc

theorem Kept.expireSec (h : Kept v m r₀ s) (x : Fin 48) : Kept v m r₀ (expireSec x s) := by
  unfold Machine.expireSec
  split
  · next hx =>
    extract_lets s1
    have h1 : Kept v m r₀ s1 := (h.setSec x fun _ => by rw [hx]; rfl).raise _
    have hledger : s1.ruled.ledger = { s.ruled.ledger with holder := Function.update s.ruled.ledger.holder x none } := by
      simp only [s1, raise_ruled, setSec_ledger]
      rfl
    split
    · exact h1
    · next t _ _ =>
      split
      · next y e hclaim =>
        refine h1.grant e (fun hb h₀ => ?_) ?_
        · rw [hledger]
          refine (h.agrees hb h₀).placed_of_claims ?_
          simp [Ruled.ledger, State.ruled, hclaim]
        · exact (congrArg (fun l : Ledger => l.holder x) hledger).trans (by simp)
      · exact h1
  · exact h

/-- The PENDING sections of a grant become RESERVED for the same train (R71). -/
theorem Kept.reserveAll (h : Kept v m r₀ s) {l : List (Fin 48)} (hl : ∀ x ∈ l, s.sec x = .pending t ∨ s.sec x = .reserved t) :
    Kept v m r₀ (Machine.forEach l (fun y => Machine.setSec y (.reserved t)) s) := by
  induction l generalizing s with
  | nil => exact h
  | cons x l ih =>
    refine ih (h.setSec x fun _ => ?_) fun y hy => ?_
    · obtain e | e := hl x List.mem_cons_self <;> exact (congrArg SecState.holder e).symm
    · rw [setSec_sec]
      split
      · exact .inr rfl
      · exact hl y (List.mem_cons_of_mem x hy)

theorem Kept.completeGrant (h : Kept v m r₀ s) (t : Fin 8) : Kept v m r₀ (completeGrant t s) := by
  unfold Machine.completeGrant
  split
  · extract_lets l s1 s2
    split
    · have h1 : Kept v m r₀ s1 := h.reserveAll fun y hy => .inl (mem_pendingOf.mp hy).2
      have h2 : Kept v m r₀ s2 := h1.order t (fun _ => rfl) fun _ => .inr rfl
      exact ((h2.resync t).raise _).later _
    · exact h
  · exact h

/-! ## Entries (R80, R81) -/

theorem Kept.enterHeld (h : Kept v m r₀ s) (hx : s.sec x = .pending t ∨ s.sec x = .reserved t) (wasPending : Bool) :
    Kept v m r₀ (enterHeld t x wasPending s) := by
  have h1 : Kept v m r₀ (Machine.setSec x (.occupied t) s) := h.setSec x fun _ => by rcases hx with e | e <;> rw [e] <;> rfl
  unfold Machine.enterHeld
  extract_lets s1
  split
  · exact (((h1.congr (dropGrantThrow_ruled x _)).resync t).raise _).halt t _
  · exact (h1.resync t).raise _

/-- A section lost to nobody is dismissed from its train (R80, R89). -/
theorem Kept.strand (h : Kept v m r₀ s) {u : State} (same : u.ruled = (Machine.leaveHeld t x (Machine.setSec x .stray s)).ruled)
    (hx : m.booked = true → r₀.ledger.Agrees → s.ruled.ledger.frees t x) : Kept v m r₀ u ∧ u.ruled.ledger = s.ruled.ledger.dismiss t x := by
  have hledger : u.ruled.ledger = s.ruled.ledger.dismiss t x := by
    rw [same, leaveHeld_ledger, setSec_ledger]
    rfl
  have h1 : Kept v m.unbooked r₀ u := ((h.unbook.setSec x nofun).leaveHeld t x).congr same
  exact ⟨h1.book fun hb h₀ => hledger ▸ (h.agrees hb h₀).dismiss (hx hb h₀), hledger⟩

theorem frees_of_held (hx : s.sec x = .pending t ∨ s.sec x = .reserved t) : s.ruled.ledger.frees t x :=
  .inr (by rcases hx with e | e <;> exact congrArg SecState.holder e)

theorem Kept.conflict (h : Kept v m r₀ s) (hx : s.sec x = .pending t ∨ s.sec x = .reserved t) (facing : List (Fin 8)) :
    Kept v m r₀ (conflict t x facing s) := by
  unfold Machine.conflict
  extract_lets ahead s1 s2
  obtain ⟨h1, hledger⟩ : Kept v m r₀ s1 ∧ s1.ruled.ledger = s.ruled.ledger.dismiss t x :=
    h.strand (dropGrantThrow_ruled x _) fun _ _ => frees_of_held hx
  have h2 : Kept v m r₀ s2 := by
    refine (h1.releaseAll fun _ _ y hy => ?_).resync t
    rw [hledger]
    have hy' := (List.mem_filter.mp hy).2
    exact (frees_of_held (by simpa using hy')).dismiss x
  exact (Kept.forEach (fun k _ hu => hu.halt k _) facing (h2.raise _)).halt t _

theorem Kept.attributeHeld (h : Kept v m r₀ s) (hx : s.sec x = .pending t ∨ s.sec x = .reserved t) (wasPending : Bool) :
    Kept v m r₀ (attributeHeld t x wasPending s) := by
  unfold Machine.attributeHeld
  extract_lets others
  split
  · exact h.enterHeld hx _
  · exact h.conflict hx _

/-- A train that faces a section holds one, and so is placed (R85, 5.6). -/
theorem placed_of_facing (ha : s.ruled.ledger.Agrees) (ht : t ∈ facingTrains s x) : s.ruled.ledger.placed t = true := by
  have hf := (List.mem_filter.mp ht).2
  have hne : s.ruled.ledger.held t ≠ [] := by
    intro e
    have hnil : s.heldOf t = [] := List.map_eq_nil_iff.mp e
    simp [facingEnd, State.frontOf, hnil] at hf
  by_contra hp
  exact hne (ha.unplaced t (by simpa using hp)).1

theorem Kept.attributeOpen (h : Kept v m r₀ s) (hx : (s.sec x).holder = none) : Kept v m r₀ (attributeOpen x s) := by
  have hstray : Kept v m r₀ ((dropRequestThrows x (Machine.setSec x .stray s)).raise (.straySeen x)) :=
    ((h.setSec x (st := .stray) fun _ => hx.symm).congr (dropRequestThrows_ruled x _)).raise _
  unfold Machine.attributeOpen
  split
  · next t hfacing =>
    split
    · extract_lets e s1
      have h1 : Kept v m r₀ s1 := by
        have hu : Kept v m.unbooked r₀ s1 :=
          (((h.unbook.setSec x nofun).joinHeld t x e.sense).withdraw t x).congr (dropRequestThrows_ruled x _)
        refine hu.book fun hb h₀ => ?_
        have hledger : s1.ruled.ledger = s.ruled.ledger.enrol t x := by
          simp only [s1, dropRequestThrows_ruled, withdraw_ruled, joinHeld_ledger, setSec_ledger]
          rfl
        rw [hledger]
        have ha := h.agrees hb h₀
        exact ha.enrol (placed_of_facing ha (hfacing ▸ List.mem_singleton_self t)) hx
      exact ((h1.resync t).raise _).halt t _
    · exact hstray.halt t _
  · exact .forEach (fun k _ hu => hu.halt k _) _ hstray

theorem Kept.takeEnter (h : Kept v m r₀ s) (x : Fin 48) : Kept v m r₀ (takeEnter x s) := by
  unfold Machine.takeEnter
  split
  · next hx => exact h.attributeHeld (.inl hx) _
  · next hx => exact h.attributeHeld (.inr hx) _
  · next hx => exact h.attributeOpen (congrArg SecState.holder hx)
  · next hx => exact h.attributeOpen (congrArg SecState.holder hx)
  · exact h

/-! ## Leaves (R83) -/

theorem Kept.ordinaryLeave (h : Kept v m r₀ s) (hx : s.sec x = .occupied t) : Kept v m r₀ (ordinaryLeave t x s) := by
  unfold Machine.ordinaryLeave
  split
  · exact ((h.setSec x fun _ => by rw [hx]; rfl).resync t).raise _
  · extract_lets behind
    refine (h.raise _).releaseAll fun _ _ y hy => ?_
    rw [raise_ruled]
    obtain hy | hy := List.mem_append.mp hy
    · exact frees_of_held (.inr (by simpa using (List.mem_filter.mp hy).2))
    · rw [List.mem_singleton.mp hy]
      exact .inr (congrArg SecState.holder hx)

theorem Kept.leaveOccupied (h : Kept v m r₀ s) (hx : s.sec x = .occupied t) : Kept v m r₀ (leaveOccupied t x s) := by
  have h1 : Kept v m r₀ (Machine.resync t (Machine.setSec x (.reserved t) s)) := (h.setSec x fun _ => by rw [hx]; rfl).resync t
  unfold Machine.leaveOccupied
  extract_lets l
  split
  · exact h1.halt t _
  · split
    · exact h.ordinaryLeave hx
    · exact h1

theorem Kept.takeLeave (h : Kept v m r₀ s) (x : Fin 48) : Kept v m r₀ (takeLeave x s) := by
  unfold Machine.takeLeave
  split
  · next hx => exact h.clearSec x fun _ => congrArg SecState.holder hx
  · next hx => exact h.leaveOccupied hx
  · exact h

theorem Kept.takeConfirm (h : Kept v m r₀ s) (x : Fin 48) (c : Confirm) : Kept v m r₀ (takeConfirm x c s) := by
  unfold Machine.takeConfirm
  split
  · split
    · exact h
    · exact h.takeEnter x
    · exact h.takeLeave x
  · exact h

theorem Kept.sampleDetector (h : Kept v m r₀ s) (x : Fin 48) : Kept v m r₀ (sampleDetector x s) := by
  unfold Machine.sampleDetector
  extract_lets s0 r
  have h0 : Kept v m r₀ s0 := h.congr (modSched_ruled _ _)
  split
  · exact (h0.congr (modTrack_ruled (f := fun k => { k with detectors := k.detectors.set x r.1 }) rfl (fun _ => rfl) rfl)).takeConfirm x _
  · exact h0

end Sys2Proof.Machine
end

section
/-! SUPPORT. The rules under the requests to the trains and to the layout (R52 to R60, R76, R88 to R102). -/

namespace Sys2Proof.Machine

variable {s u : State} {v m : Mode} {r₀ : Ruled} {t : Fin 8} {x : Fin 48} {l : Ledger}

/-! ## A train placed and removed, by the ledger (R88, R89) -/

theorem Ledger.Agrees.place (h : l.Agrees) (hp : l.placed t = false) (hs : l.service = true) :
    { l with held := Function.update l.held t [], placed := Function.update l.placed t true
             claims := Function.update l.claims t false }.Agrees := by
  have hheld : Function.update l.held t [] = l.held := (h.unplaced t hp).1 ▸ Function.update_eq_self t l.held
  have hclaims : Function.update l.claims t false = l.claims := (h.unplaced t hp).2 ▸ Function.update_eq_self t l.claims
  rw [hheld, hclaims]
  refine ⟨h.once, h.names, fun k hk => ?_, fun k _ => hs⟩
  by_cases e : k = t
  · simp [e] at hk
  · exact h.unplaced k (by simpa [e] using hk)

theorem Ledger.Agrees.vacate (h : l.Agrees) (hheld : l.held t = []) (hc : l.claims t = false) :
    { l with held := Function.update l.held t [], placed := Function.update l.placed t false
             claims := Function.update l.claims t false }.Agrees := by
  have eheld : Function.update l.held t [] = l.held := hheld ▸ Function.update_eq_self t l.held
  have eclaims : Function.update l.claims t false = l.claims := hc ▸ Function.update_eq_self t l.claims
  rw [eheld, eclaims]
  refine ⟨h.once, h.names, fun k hk => ?_, fun k hk => ?_⟩
  · by_cases e : k = t
    · exact ⟨e ▸ hheld, e ▸ hc⟩
    · exact h.unplaced k (by simpa [e] using hk)
  · by_cases e : k = t
    · simp [e] at hk
    · exact h.service k (by simpa [e] using hk)

/-- Several sections dismissed from a train. -/
def Ledger.dismissAll (t : Fin 8) (xs : List (Fin 48)) (l : Ledger) : Ledger := xs.foldl (fun l x => l.dismiss t x) l

theorem Ledger.dismissAll_held (t : Fin 8) (xs : List (Fin 48)) (l : Ledger) :
    (l.dismissAll t xs).held t = (l.held t).filter fun y => decide (y ∉ xs) := by
  induction xs generalizing l with
  | nil => simp [dismissAll]
  | cons x xs ih =>
    refine (ih (l.dismiss t x)).trans ?_
    simp only [dismiss, Function.update_self, List.filter_filter]
    exact List.filter_congr fun y _ => by rw [Bool.eq_iff_iff]; simp [and_comm]

theorem Ledger.dismissAll_claims (t : Fin 8) (xs : List (Fin 48)) (l : Ledger) : (l.dismissAll t xs).claims = l.claims := by
  induction xs generalizing l with
  | nil => rfl
  | cons x xs ih => exact ih (l.dismiss t x)

/-! ## TRAIN_PLACE and TRAIN_REMOVE (R88, R89) -/

theorem firstIdx_eq_none {α : Type} {test : α → Bool} {xs : List α} {i : Nat} (h : firstIdx test xs i = none) :
    ∀ y ∈ xs, test y = false := by
  induction xs generalizing i with
  | nil => simp
  | cons a xs ih =>
    rw [firstIdx] at h
    split at h
    · cases h
    · next ha => simpa using ⟨by simpa using ha, ih h⟩

theorem nodup_of_firstRepeat {xs : List (Fin 48)} (h : firstRepeat xs = none) : xs.Nodup := by
  rw [List.nodup_iff_pairwise_ne, List.pairwise_iff_getElem]
  intro i j hi hj hij e
  have hno := firstIdx_eq_none h j (List.mem_range.mpr hj)
  have hmem : xs[j] ∈ xs.take j := e ▸ List.mem_take_iff_getElem.mpr ⟨i, by omega, by simp⟩
  rw [List.getD_eq_getElem _ _ hj, List.contains_iff_mem.mpr hmem] at hno
  cases hno

/-- One section taken into a placed train is enrolled (R88). -/
theorem placeSec_ledger (t : Fin 8) (e : Fin 48 × Sense) (s : State) : (placeSec t e s).ruled.ledger = s.ruled.ledger.enrol t e.1 := by
  unfold placeSec
  split
  · rw [joinHeld_ledger, setSec_ledger]; rfl
  · rw [dropRequestThrows_ruled, joinHeld_ledger, setSec_ledger]; rfl

theorem Kept.placeSec (h : Kept v m r₀ s) {e : Fin 48 × Sense} (hp : m.booked = true → r₀.ledger.Agrees → s.ruled.ledger.placed t = true)
    (hx : s.ruled.ledger.holder e.1 = none) : Kept v m r₀ (placeSec t e s) := by
  have h1 : Kept v m.unbooked r₀ (Machine.placeSec t e s) := by
    unfold Machine.placeSec
    split
    · exact (h.unbook.setSec e.1 nofun).joinHeld t _ _
    · exact ((h.unbook.setSec e.1 nofun).joinHeld t _ _).congr (dropRequestThrows_ruled _ _)
  refine h1.book fun hb h₀ => ?_
  rw [placeSec_ledger]
  exact (h.agrees hb h₀).enrol (hp hb h₀) hx

theorem Kept.placeAll (h : Kept v m r₀ s) {es : List (Fin 48 × Sense)} (hn : (es.map Prod.fst).Nodup)
    (hp : m.booked = true → r₀.ledger.Agrees → s.ruled.ledger.placed t = true) (hx : ∀ e ∈ es, s.ruled.ledger.holder e.1 = none) :
    Kept v m r₀ (Machine.forEach es (Machine.placeSec t) s) := by
  induction es generalizing s with
  | nil => exact h
  | cons e es ih =>
    obtain ⟨hne, hn'⟩ := List.nodup_cons.mp hn
    refine ih (h.placeSec hp (hx e List.mem_cons_self)) hn' (fun hb h₀ => ?_) fun e' he' => ?_
    · rw [placeSec_ledger]
      exact hp hb h₀
    · have hne' : e'.1 ≠ e.1 := fun eq => hne (eq ▸ List.mem_map_of_mem he')
      rw [placeSec_ledger]
      simpa [Ledger.enrol, hne'] using hx e' (List.mem_cons_of_mem e he')

theorem map_fst_zip_sublist {α β : Type} (xs : List α) (ss : List β) : ((xs.zip ss).map Prod.fst).Sublist xs := by
  induction xs generalizing ss with
  | nil => simp
  | cons x xs ih =>
    cases ss with
    | nil => simp
    | cons y ss => simpa using ih ss

/-- A train that holds nothing and claims nothing takes its place in an OPERATIONAL layout (R88). -/
theorem Kept.takePlace (h : Kept v m r₀ s) (t : Fin 8) {f : Train → Train} (hserv : s.track.config = .operational)
    (hp : (s.trains.get t).placed = false) (sound : ∀ run (y : Train), y.Sound run → (f y).Sound run)
    (held : (f (s.trains.get t)).held = []) (placed : (f (s.trains.get t)).placed = true) (claim : (f (s.trains.get t)).claim = .none) :
    Kept v m r₀ (s.modTrain t f) := by
  have h1 : Kept v m.unbooked r₀ (s.modTrain t f) := h.unbook.modHeld t sound
  refine h1.book fun hb h₀ => ?_
  rw [modTrain_ledger_eq, held, placed, claim]
  exact (h.agrees hb h₀).place hp (by simp [Ruled.ledger, State.ruled, hserv])

theorem Kept.doTrainPlace (h : Kept v m r₀ s) (train : Nat) (secs : List (Nat × Nat)) : Kept v m r₀ (doTrainPlace train secs s).1 := by
  unfold Machine.doTrainPlace
  split
  · exact h
  · next t _ =>
    split
    · exact h
    · split
      · exact h
      · exact h
      · next xs ss _ _ =>
        extract_lets es s1
        split
        · exact h
        · next hserv =>
          split
          · exact h
          · next hplaced =>
            split
            · exact h
            · split
              · exact h
              · next hrepeat =>
                split
                · exact h
                · split
                  · exact h
                  · next hfree =>
                    have hserv' : s.track.config = .operational := not_not.mp hserv
                    have h1 : Kept v m r₀ s1 := by
                      refine h.takePlace t hserv' (by simpa using hplaced) (fun _ y hs => ?_) rfl rfl rfl
                      exact ⟨⟨hs.max, Nat.zero_le _, Nat.zero_le _, .inl rfl⟩, nofun⟩
                    have hledger : s1.ruled.ledger.placed t = true ∧ s1.ruled.ledger.holder = s.ruled.ledger.holder := by
                      simp [s1, modTrain_ledger_eq]
                    have hsub := map_fst_zip_sublist xs ss
                    refine (h1.placeAll ((nodup_of_firstRepeat hrepeat).sublist hsub) (fun _ _ => hledger.1) fun e he => ?_).resync t
                    have hfree' := firstIdx_eq_none hfree e.1 (hsub.subset (List.mem_map_of_mem he))
                    rw [hledger.2]
                    rcases placeable_iff.mp hfree' with eq | eq <;> exact congrArg SecState.holder eq

/-- One held section of a train that is removed is dismissed (R89). -/
theorem removeSec_ledger (t : Fin 8) (x : Fin 48) (s : State) : (removeSec t x s).ruled.ledger = s.ruled.ledger.dismiss t x := by
  unfold removeSec
  split
  · rw [raise_ruled, leaveHeld_ledger, setSec_ledger]; rfl
  · exact releaseSec_ledger t x s

theorem Kept.removeSec (h : Kept v m r₀ s) (hx : m.booked = true → r₀.ledger.Agrees → s.ruled.ledger.frees t x) :
    Kept v m r₀ (removeSec t x s) := by
  unfold Machine.removeSec
  split
  · exact (h.strand rfl hx).1.raise _
  · exact h.releaseSec hx

theorem Kept.removeAll (h : Kept v m r₀ s) {xs : List (Fin 48)}
    (hx : m.booked = true → r₀.ledger.Agrees → ∀ x ∈ xs, s.ruled.ledger.frees t x) : Kept v m r₀ (Machine.forEach xs (Machine.removeSec t) s) ∧
      (Machine.forEach xs (Machine.removeSec t) s).ruled.ledger = s.ruled.ledger.dismissAll t xs := by
  induction xs generalizing s with
  | nil => exact ⟨h, rfl⟩
  | cons x xs ih =>
    have hledger := removeSec_ledger t x s
    obtain ⟨h1, e1⟩ := ih (h.removeSec fun hb h₀ => hx hb h₀ x List.mem_cons_self) fun hb h₀ y hy => by
      rw [hledger]
      exact (hx hb h₀ y (List.mem_cons_of_mem x hy)).dismiss x
    exact ⟨h1, by rw [hledger] at e1; exact e1⟩

/-- The held sections of a train name it. -/
theorem Ledger.Agrees.frees (h : l.Agrees) (hx : x ∈ l.held t) : l.frees t x := .inr ((h.names t x).mp hx).2

theorem Kept.doTrainRemove (h : Kept v m r₀ s) (train : Nat) : Kept v m r₀ (doTrainRemove train s).1 := by
  unfold Machine.doTrainRemove
  split
  · exact h
  · next t _ =>
    extract_lets r s1
    split
    · exact h
    · next hno =>
      obtain ⟨h1, hledger⟩ : Kept v m r₀ s1 ∧ s1.ruled.ledger = s.ruled.ledger.dismissAll t (r.held.map Prod.fst) :=
        h.removeAll fun hb h₀ x hx => (h.agrees hb h₀).frees hx
      have hclaim : s.ruled.ledger.claims t = false := by
        have hc := not_not.mp (not_or.mp (not_or.mp hno).2).2
        simpa [Ruled.ledger, State.ruled] using hc
      have hclaim1 : s1.ruled.ledger.claims t = false := by rw [hledger, Ledger.dismissAll_claims, hclaim]
      have hheld1 : s1.ruled.ledger.held t = [] := by
        rw [hledger, Ledger.dismissAll_held]
        exact List.filter_eq_nil_iff.mpr fun y hy => by rw [decide_eq_true_eq, not_not]; exact hy
      have h2 : Kept v m.unbooked r₀ _ := h1.unbook.modHeld t (f := fun x =>
        { x with placed := false, held := [], speed := 0, requested := 0, timer := 0, stop := .none, routeEnd := none, dir := .level
                 stepDue := false }) fun _ y hs => ⟨⟨hs.max, Nat.zero_le _, Nat.zero_le _, .inl rfl⟩, nofun⟩
      refine h2.book fun hb h₀ => ?_
      rw [modTrain_ledger_eq]
      have e : ((s1.trains.get t).claim != .none) = false := hclaim1
      simp only [e]
      exact (h1.agrees hb h₀).vacate hheld1 hclaim1

/-! ## Configuration, speed, routes and releases (R90 to R102) -/

theorem Kept.doTrainConfig (h : Kept v m r₀ s) (train maxSpeed accel decel : Nat) : Kept v m r₀ (doTrainConfig train maxSpeed accel decel s).1 := by
  unfold Machine.doTrainConfig
  split
  · exact h
  · next t _ =>
    extract_lets k lowered
    refine h.resyncOf t rfl (fun run hs => ?_) rfl rfl rfl
    exact ⟨Nat.le_max_left _ _, Nat.min_le_left _ _, Nat.min_le_left _ _, hs.rests.imp_left fun e => by simp [e]⟩

theorem Kept.doTrainSpeed (h : Kept v m r₀ s) (train speed : Nat) : Kept v m r₀ (doTrainSpeed train speed s).1 := by
  unfold Machine.doTrainSpeed
  split
  · exact h
  · next t _ =>
    extract_lets r
    split
    · exact h
    · exact h.resyncOf t rfl (fun run hs => ⟨hs.max, hs.speed, Nat.min_le_left _ _, hs.rests⟩) rfl rfl rfl

theorem Kept.doTrainStop (h : Kept v m r₀ s) (train : Nat) : Kept v m r₀ (doTrainStop train s).1 := by
  unfold Machine.doTrainStop
  split
  · exact h
  · next t _ =>
    split
    · exact h
    · exact h.resyncOf t rfl (fun run hs => ⟨hs.max, hs.speed, Nat.zero_le _, hs.rests⟩) rfl rfl rfl

theorem Kept.doTrainRoute (h : Kept v m r₀ s) (train mode : Nat) (secs : List Nat) : Kept v m r₀ (doTrainRoute train mode secs s).1 := by
  unfold Machine.doTrainRoute
  split
  · next t md _ _ =>
    split
    · exact h
    · split
      · exact h
      · next xs _ =>
        extract_lets r s1
        split
        · exact h
        · split
          · exact h
          · split
            · exact h
            · exact h
            · next es _ =>
              split
              · exact h
              · have h1 : Kept v m r₀ s1 := (h.withdrawClaim t).congr (routeEnding_ruled t _)
                exact (h1.order t (f := fun x => { x with queue := es, mode := md, routeEnd := xs.getLast? }) (fun _ => rfl)
                  fun _ => .inl rfl).later _
  · exact h

theorem mem_of_mem_releasable {y : Fin 48} (hy : y ∈ releasable s t) : y ∈ s.ruled.ledger.held t := by
  change y ∈ (s.heldOf t).map Prod.fst
  revert hy
  unfold releasable
  extract_lets xs unoccupied
  split
  · exact fun hy => (List.mem_filter.mp hy).1
  · split
    · exact fun hy => (List.mem_filter.mp hy).1
    · exact List.mem_of_mem_drop

/-- The rearmost section of a train whose sections are all PENDING is kept for it (R72, R94). -/
theorem Kept.keepIfAllPending (h : Kept v m r₀ s) (t : Fin 8) :
    Kept v m r₀ (keepIfAllPending t s) ∧ (keepIfAllPending t s).ruled.ledger = s.ruled.ledger := by
  unfold Machine.keepIfAllPending
  dsimp only
  split
  · next prev rest hl =>
    split
    · next hall =>
      have hp : s.sec prev = .pending t := by simpa using List.all_eq_true.mp hall prev (hl ▸ List.mem_cons_self)
      exact ⟨h.keepPrev hp, keepPrev_ledger hp⟩
    · exact ⟨h, rfl⟩
  · exact ⟨h, rfl⟩

theorem Kept.releaseHeld (h : Kept v m r₀ s) (t : Fin 8) : Kept v m r₀ (releaseHeld t s) := by
  obtain ⟨h1, hledger⟩ := h.keepIfAllPending t
  refine (h1.releaseAll fun hb h₀ x hx => ?_).congr (unserve_ruled t _)
  rw [hledger]
  exact (h.agrees hb h₀).frees (mem_of_mem_releasable hx)

theorem Kept.doTrainRelease (h : Kept v m r₀ s) (train : Nat) : Kept v m r₀ (doTrainRelease train s).1 := by
  by_cases ht : train < 8
  · obtain ⟨t, rfl⟩ : ∃ t : Fin 8, train = t.1 := ⟨⟨train, ht⟩, rfl⟩
    cases hp : (s.trains.get t).placed
    · rw [doTrainRelease_unplaced hp]
      exact h
    · have h1 : Kept v m r₀ (Machine.withdrawClaim t (s.modTrain t fun x => { x with queue := [] })) :=
        (h.order t (f := fun x => { x with queue := [] }) (fun _ => rfl) fun _ => .inl rfl).withdrawClaim t
      rw [doTrainRelease_placed hp rfl]
      refine Kept.resync ?_ t
      split
      · exact (h1.releaseHeld t).routeFault t _
      · exact ((h1.releaseHeld t).congr (routeEnding_ruled t _)).order t (fun _ => rfl) fun _ => .inl rfl
  · rw [doTrainRelease_beyond (by omega)]
    exact h

theorem Kept.doTrainClearFault (h : Kept v m r₀ s) (train : Nat) : Kept v m r₀ (doTrainClearFault train s).1 := by
  unfold Machine.doTrainClearFault
  split
  · exact h
  · next t _ =>
    split
    · exact h
    · refine h.resyncOf t rfl (fun run hs => ⟨hs.max, hs.speed, hs.requested, hs.rests.imp_right fun ⟨hp, _, hr⟩ => ⟨hp, rfl, hr⟩⟩)
        rfl rfl rfl

/-- The held list of a train turned round names the same sections. -/
theorem Ledger.Agrees.reorder (h : l.Agrees) {xs : List (Fin 48)} (hp : xs.Perm (l.held t)) :
    { l with held := Function.update l.held t xs }.Agrees where
  once k := by
    by_cases e : k = t
    · subst e; simpa using hp.nodup_iff.mpr (h.once k)
    · simpa [e] using h.once k
  names k y := by
    by_cases e : k = t
    · subst e; simpa [hp.mem_iff] using h.names k y
    · simpa [e] using h.names k y
  unplaced k hk := by
    obtain ⟨hheld, hclaims⟩ := h.unplaced k hk
    by_cases e : k = t
    · subst e
      exact ⟨by simpa [hheld] using hp, hclaims⟩
    · exact ⟨by simpa [e] using hheld, hclaims⟩
  service := h.service

theorem Kept.doTrainDirection (h : Kept v m r₀ s) (train : Nat) : Kept v m r₀ (doTrainDirection train s).1 := by
  unfold Machine.doTrainDirection
  split
  · exact h
  · next t _ =>
    extract_lets r
    split
    · exact h
    · have h1 : Kept v m.unbooked r₀ (s.modTrain t fun x => { x with held := (x.held.map fun e => (e.1, e.2.flip)).reverse, requested := 0 }) :=
        h.unbook.modHeld t fun _ _ hs => ⟨⟨hs.max, hs.speed, Nat.zero_le _, hs.rests⟩, hs.climbs⟩
      refine Kept.resync (h1.book fun hb h₀ => ?_) t
      rw [modHeld_ledger rfl rfl]
      refine (h.agrees hb h₀).reorder ?_
      simp only [List.map_reverse, List.map_map]
      exact List.reverse_perm _

/-! ## The layout opened and put into service (R53, R60) -/

theorem firstPlaced_none (h : firstPlaced s = none) (t : Fin 8) : (s.trains.get t).placed = false := by
  simpa using List.find?_eq_none.mp h t (mem_indices t)

/-- A layout that is put out of service, or into it, has no placed train, and its sections have no holder. -/
theorem Ledger.Agrees.reopen (h : l.Agrees) {l' : Ledger} (hfree : ∀ x, l'.service = true → l'.holder x = none)
    (hp : ∀ t, l.placed t = false) (held : l'.held = l.held) (placed : l'.placed = l.placed) (claims : l'.claims = l.claims) : l'.Agrees where
  once t := held ▸ h.once t
  names t x := by
    rw [held, (h.unplaced t (hp t)).1]
    simpa using fun hs => by simp [hfree x hs]
  unplaced t ht := by rw [held, claims]; exact h.unplaced t (hp t)
  service t ht := by rw [placed, hp t] at ht; cases ht

theorem Kept.doLayoutOpen (h : Kept v m r₀ s) : Kept v m r₀ (doLayoutOpen s).1 := by
  unfold Machine.doLayoutOpen
  split
  · exact h
  · next hnone =>
    have hplaced := firstPlaced_none hnone
    split
    · exact h
    · exact h.toTrack rfl (fun _ hs => hs) fun _ ha => ha.reopen (fun _ hs => by cases hs) hplaced rfl rfl rfl
    · refine h.toTrack rfl (fun _ _ c k hk => ?_) fun _ ha => ha.reopen (fun _ hs => by cases hs) hplaced rfl rfl rfl
      have hno : (Table.replicate 4 (none : Option Coupling)).get c = none := Table.get_replicate _ _
      cases hno.symm.trans hk

theorem closeState_holder (d : SectionDef) (x : Detector) : (closeState d x).state.holder = none := by
  unfold closeState
  split
  · rfl
  · split <;> rfl

/-- The layout put into service finds no train placed, and no section with a holder (R60). -/
theorem Kept.enterService (h : Kept v m r₀ s) (hc : s.track.config ≠ .operational) : Kept v m r₀ (enterService s) := by
  unfold Machine.enterService
  extract_lets s1 strays
  have h1 : Kept v m r₀ s1 := by
    refine h.toTrack rfl (fun _ hs => hs) fun _ ha => ha.reopen (fun x _ => ?_) (fun t => ?_) rfl rfl rfl
    · exact (congrArg (fun r : SectionRun => r.state.holder) (Table.get_ofFn _ x)).trans (closeState_holder _ _)
    · by_contra hp
      have hserv := ha.service t (by simpa using hp)
      exact hc (by simpa [Ruled.ledger, State.ruled] using hserv)
  exact .forEach (fun c _ hu => hu.startCoupling c) _ (.forEach (fun _ _ hu => hu.raise _) _ h1)

theorem Kept.doLayoutClose (h : Kept v m r₀ s) : Kept v m r₀ (doLayoutClose s).1 := by
  unfold Machine.doLayoutClose
  split
  · exact h
  · next hc =>
    split
    · exact h
    · dsimp only
      exact h.enterService (by rw [not_not.mp hc]; simp)

/-! ## A WARM reset (R68, R74, R85) -/

theorem Kept.clearQueues (h : Kept v m r₀ s) : Kept v m r₀ (s.modTrack fun k =>
    { k with runs := k.runs.map fun r => { r with waiting := [] }, queue := [] }) :=
  h.congr (modTrack_ruled rfl (fun x => by simp) rfl)

theorem Kept.warmTrack (h : Kept v m r₀ s) : Kept v m r₀ (warmTrack s) :=
  Kept.clearQueues (.forEach (fun t _ hu => hu.releasePending t) (indices 8) h)

theorem Kept.warmTrains (h : Kept v m r₀ s) : Kept v m r₀ (warmTrains s) := by
  have htrain (t : Fin 8) : (Machine.warmTrains s).trains.get t = (s.trains.get t).warm := Table.get_map _ _ _
  refine h.toTrains rfl (fun run _ hs t => ?_) fun _ ha => ?_
  · change ((Machine.warmTrains s).trains.get t).Sound run
    rw [htrain]
    exact ⟨⟨(hs t).max, Nat.zero_le _, Nat.zero_le _, .inl rfl⟩, nofun⟩
  · have e : (Machine.warmTrains s).ruled.ledger = { s.ruled.ledger with claims := fun _ => false } := by
      ext k
      · rfl
      · rfl
      all_goals simp only [Ruled.ledger, State.ruled, htrain]; rfl
    rw [e]
    exact { ha with unplaced := fun t ht => ⟨(ha.unplaced t ht).1, rfl⟩ }

end Sys2Proof.Machine
end

section
/-! SUPPORT. The requests and the periodic work that no rule of the records speaks of: the lights, the clock, the layout's definitions, the
throw queue, the cue lists, the inputs, the triggers and the Show Link. -/

namespace Sys2Proof.Machine

variable {s u : State} {v m : Mode} {r₀ : Ruled}

/-- The requests that change a train, an axis, a crossing, a player's run, a held section or a rail. -/
def Request.acts : Request → Bool
  | .layoutOpen | .layoutClose | .gateRetry _ => true
  | .trainConfig .. | .trainPlace .. | .trainRemove .. | .trainSpeed .. | .trainStop .. | .trainRoute .. | .trainRelease ..
  | .trainDirection .. | .trainClearFault .. => true
  | .axisConfig .. | .axisSpeed .. | .axisStopAt .. | .axisMove .. | .axisHome .. | .axisStop .. => true
  | .playerStart .. | .playerStop .. | .playerPause .. | .playerResume .. | .playerPriority .. => true
  | .railSet .. => true
  | _ => false

/-- Every other request leaves what the rules speak of alone. -/
theorem handle_ruled {r : Request} (hr : Request.acts r = false) (s : State) : (handle r s).1.ruled = s.ruled := by
  cases r <;> dsimp only [handle]
  case identify => rfl
  case status => rfl
  case reset => unfold doReset; split <;> rfl
  case noticeMask => unfold doNoticeMask; split <;> rfl
  case clockSetRate => unfold doClockSetRate; (repeat' split) <;> rfl
  case clockHold => rfl
  case clockRun => rfl
  case clockSetTime => unfold doClockSetTime jumpTo glideTo endGlide; (repeat' split) <;> simp
  case clockQuery => rfl
  case groupSetMode => unfold doGroupSetMode; (repeat' split) <;> rfl
  case groupSetCurve => unfold doGroupSetCurve; (repeat' split) <;> rfl
  case groupConfig => unfold doGroupConfig; (repeat' split) <;> rfl
  case groupSetLevel => unfold doGroupSetLevel; dsimp only; (repeat' split) <;> simp
  case groupSetBlink => unfold doGroupSetBlink; (repeat' split) <;> rfl
  case gammaWrite => unfold doGammaWrite; (repeat' split) <;> rfl
  case gammaQuery => unfold doGammaQuery; split <;> rfl
  case channelConfig => unfold doChannelConfig; (repeat' split) <;> rfl
  case pwmMap => unfold doPwmMap; (repeat' split) <;> rfl
  case chainLength => unfold doChainLength; (repeat' split) <;> rfl
  case segmentSet => unfold doSegmentSet; (repeat' split) <;> rfl
  case segmentClear => unfold doSegmentClear; split <;> rfl
  case groupQuery => unfold doGroupQuery; split <;> rfl
  case channelQuery => unfold doChannelQuery; split <;> rfl
  case sectionDefine => unfold doSectionDefine; (repeat' split) <;> rfl
  case sectionForget => unfold doSectionForget; (repeat' split) <;> rfl
  case pointDefine => unfold doPointDefine; (repeat' split) <;> rfl
  case crossingDefine => unfold doCrossingDefine; (repeat' split) <;> rfl
  case layoutQuery => unfold doLayoutQuery; (repeat' split) <;> rfl
  case pointThrow => unfold doPointThrow; (repeat' split) <;> simp
  case throwUnitConfig => rfl
  case sectionQuery => unfold doSectionQuery; (repeat' split) <;> rfl
  case crossingQuery => unfold doCrossingQuery; (repeat' split) <;> rfl
  case throwQuery => rfl
  case trainQuery => unfold doTrainQuery; split <;> rfl
  case axisQuery => unfold doAxisQuery; split <;> rfl
  case listWrite => unfold doListWrite; dsimp only; (repeat' split) <;> rfl
  case listErase => unfold doListErase; (repeat' split) <;> rfl
  case listQuery => unfold doListQuery; (repeat' split) <;> rfl
  case playerQuery => unfold doPlayerQuery; split <;> rfl
  case inputConfig => unfold doInputConfig; (repeat' split) <;> rfl
  case counterConfig => unfold doCounterConfig; (repeat' split) <;> rfl
  case inputQuery => unfold doInputQuery; split <;> rfl
  case auxSet => unfold doAuxSet; (repeat' split) <;> rfl
  case auxQuery => rfl
  case triggerSet => unfold doTriggerSet; split <;> rfl
  case triggerEnable => unfold doTriggerEnable; split <;> rfl
  case triggerQuery => unfold doTriggerQuery; split <;> rfl
  case triggerClearCounts => unfold doTriggerClearCounts; split <;> rfl
  case railProgram => unfold doRailProgram; (repeat' split) <;> rfl
  case railRaise => unfold doRailRaise startProgram; split <;> rfl
  case railLower => unfold doRailLower startProgram; split <;> rfl
  case supplyQuery => rfl
  all_goals cases hr

theorem Kept.handleQuiet (h : Kept v m r₀ s) {r : Request} (hr : Request.acts r = false) : Kept v m r₀ (handle r s).1 := h.congr (handle_ruled hr s)

end Sys2Proof.Machine
end

section
/-! SUPPORT. The periodic work that no rule of the records speaks of, and the counts of a real millisecond. -/

namespace Sys2Proof.Machine

variable {s u : State} {v m : Mode} {r₀ : Ruled}

/-! ## The lights, the inputs and the Town Clock -/

/-- A change of the cue engine's records that leaves the holders, and of every player what the rules say of it. -/
theorem modPlayers_ruled {f : Player → Player} (hf : ∀ x, (f x).core = x.core) (s : State) :
    (s.modCue fun c => { c with players := c.players.map f }).ruled = s.ruled :=
  ruled_congr rfl rfl rfl rfl (fun p => by simp [State.modCue, hf]) rfl

theorem advanceFades_ruled (base : FadeBase) (n : Nat) (s : State) : (advanceFades base n s).ruled = s.ruled := by
  refine forEach_ruled (fun g s => ?_) _ s
  unfold advanceFade
  dsimp only
  split
  · simp
  · split <;> simp

theorem advanceBlinks_ruled (s : State) : (advanceBlinks s).ruled = s.ruled := by
  refine forEach_ruled (fun g s => ?_) _ s
  unfold advanceBlink
  split
  · rfl
  · split <;> simp

theorem lightFrame_ruled (s : State) : (lightFrame s).ruled = s.ruled := by
  unfold lightFrame sendDuties
  rw [modOuts_ruled, advanceBlinks_ruled]
  unfold composeAll
  rw [modLight_ruled, advanceFades_ruled, modSched_ruled]

theorem confirmEdge_ruled (i : Fin 8) (e : Edge) (s : State) : (confirmEdge i e s).ruled = s.ruled := by
  unfold confirmEdge
  dsimp only
  split <;> simp

theorem sampleInput_ruled (i : Fin 8) (s : State) : (sampleInput i s).ruled = s.ruled := by
  unfold sampleInput
  dsimp only
  split
  · simp
  · rw [confirmEdge_ruled]; simp

theorem countTown_core (n : Nat) (x : Player) : (Player.countTown n x).core = x.core := by
  unfold Player.countTown
  split <;> rfl

theorem handOut_ruled (n : Nat) (s : State) : (handOut n s).ruled = s.ruled := by
  unfold handOut
  split
  · rfl
  · rw [modPlayers_ruled (countTown_core n), advanceFades_ruled]

theorem advanceClock_ruled (s : State) : (advanceClock s).ruled = s.ruled := by
  have hpass (b : Nat) (s : State) : (passBoundary b s).ruled = s.ruled := by
    unfold passBoundary
    split <;> simp
  unfold advanceClock
  extract_lets d s1 s2
  have h1 : s1.ruled = s.ruled := (forEach_ruled hpass _ _).trans (modClock_ruled _ s)
  have h2 : s2.ruled = s1.ruled := by
    unfold s2 arrive
    split <;> simp
  rw [handOut_ruled, h2, h1]

/-! ## The supply's expiries -/

theorem quietExpire_ruled (s : State) : (quietExpire s).ruled = s.ruled := by
  unfold quietExpire
  split
  · exact modSupply_ruled rfl rfl rfl
  · rfl

theorem overloadClear_ruled (s : State) : (overloadClear s).ruled = s.ruled := by
  unfold overloadClear
  apply modSupply_ruled <;> split <;> rfl

/-! ## The Show Link -/

theorem reportLost_ruled (s : State) : (reportLost s).ruled = s.ruled := by
  unfold reportLost
  split
  · rw [offerBlocks_ruled, modLink_ruled]
  · rfl

theorem pick_ruled (s : State) : (pick s).ruled = s.ruled := by
  unfold pick
  split
  · rfl
  · split
    · rw [reportLost_ruled, modLink_ruled]
    · rfl

theorem placeFrame_ruled (f : Frame) (s : State) : (placeFrame f s).ruled = s.ruled := by
  unfold placeFrame
  (repeat' split) <;> simp

theorem acceptByte_ruled (b : Byte) (gapUs : Nat) (s : State) : (acceptByte b gapUs s).ruled = s.ruled := by
  have hreject (reason : RejectReason) (s : State) : (rejectFrame reason s).ruled = s.ruled := by simp [rejectFrame]
  have hhunt (s : State) : (huntByte b s).ruled = s.ruled := modLink_ruled _ s
  have hlength (s : State) : (lengthByte b s).ruled = s.ruled := by
    unfold lengthByte
    split
    · rfl
    · exact hreject _ s
  have hframe (n : Nat) (l : List Byte) (s : State) : (frameByte n l b s).ruled = s.ruled := by
    unfold frameByte
    dsimp only
    split
    · rfl
    · split
      · rw [placeFrame_ruled, modLink_ruled]
      · exact hreject _ s
  unfold acceptByte
  split
  · exact hhunt s
  · split
    · rw [hhunt, hreject]
    · exact hlength s
  · split
    · rw [hhunt, hreject]
    · exact hframe _ _ s

/-! ## A real millisecond -/

theorem Train.tick_frame (x : Train) : x.tick.frame = x.frame := by
  unfold Train.tick
  split <;> rfl

theorem countMs_core (x : Player) : x.countMs.core = x.core := by
  unfold Player.countMs
  split <;> rfl

theorem Coupling.countMs_times (k : Coupling) : k.countMs.times ↔ k.times := by
  unfold Coupling.countMs Coupling.times
  cases k.timeout <;> simp

/-- The counts of a real millisecond leave the rules' records as they are, but for the ramp timers and the gate timeouts' length. -/
theorem Kept.countMs (h : Kept v m r₀ s) : Kept v m r₀ (countMs s) := by
  have htrain (t : Fin 8) : (Machine.countMs s).ruled.trains t = (s.ruled.trains t).tick := Table.get_map _ _ _
  have hsec (x : Fin 48) : ((Machine.countMs s).ruled.secs x).holder = (s.ruled.secs x).holder := by
    have hx : (Machine.countMs s).ruled.secs x = ((s.track.runs.get x).countMs).state := congrArg SectionRun.state (Table.get_map _ _ _)
    rw [hx]
    unfold SectionRun.countMs
    split
    · next e => exact (congrArg SecState.holder (show s.ruled.secs x = _ from e)).symm
    · rfl
  have hledger : (Machine.countMs s).ruled.ledger = s.ruled.ledger := by
    have hframe (t : Fin 8) := Train.held_placed_of_frame (s.ruled.trains t).tick_frame
    ext k
    · rfl
    · simp only [Ruled.ledger, hsec]
    · simp only [Ruled.ledger, htrain, (hframe _).1]
    · simp only [Ruled.ledger, htrain, (hframe _).2]
    · have hclaim (x : Train) : x.tick.claim = x.claim := by unfold Train.tick; split <;> rfl
      simp only [Ruled.ledger, htrain, hclaim]
  have hcore (p : Fin 8) : (Machine.countMs s).ruled.players p = s.ruled.players p := by
    simp [Machine.countMs, State.ruled, countMs_core]
  refine h.to rfl (fun run _ hs t => ?_) (fun hm => hm) (fun _ hl => hl) (fun _ hs c k hk => ?_) (fun hs => ⟨fun p => ?_, fun x p hx => ?_⟩)
    fun _ ha => hledger ▸ ha
  · exact (htrain t).symm ▸ (hs t).of_frame (Train.tick_frame _)
  · have e : (Machine.countMs s).ruled.couplings c = (s.ruled.couplings c).map Coupling.countMs := Table.get_map _ _ _
    obtain ⟨k', hk', rfl⟩ := Option.map_eq_some_iff.mp (e.symm.trans hk)
    exact fun ht => hs c k' hk' (k'.countMs_times.mp ht)
  · exact (hcore p).symm ▸ hs.fits p
  · exact (hcore p).symm ▸ hs.runs x p hx

end Sys2Proof.Machine
end

section
/-! SUPPORT. The players with the holder table (R128 to R142): a player holds targets only while it has a run, and its stacks stay within
their room. -/

namespace Sys2Proof.Machine

variable {s u : State} {v m : Mode} {r₀ : Ruled} {p : Fin 8}

/-! ## Changes of one player -/

theorem mem_insertByWeight {n : Nat} {weight : Fin n → Nat} {i j : Fin n} {l : List (Fin n)} :
    j ∈ insertByWeight weight i l ↔ j = i ∨ j ∈ l := by
  induction l with
  | nil => simp [insertByWeight]
  | cons k ks ih =>
    rw [insertByWeight]
    split
    · simp
    · simp only [List.mem_cons, ih]; tauto

theorem mem_byWeight {n : Nat} {weight : Fin n → Nat} {j : Fin n} {l : List (Fin n)} : j ∈ byWeight weight l ↔ j ∈ l := by
  suffices h : ∀ acc, j ∈ l.foldl (fun acc i => insertByWeight weight i acc) acc ↔ j ∈ l ∨ j ∈ acc by simpa [byWeight] using h []
  induction l with
  | nil => simp
  | cons i l ih =>
    intro acc
    rw [List.foldl_cons, ih, mem_insertByWeight, List.mem_cons]
    tauto

/-- A change of a player that the rules do not speak of. -/
theorem Kept.tellPlayer (h : Kept v m r₀ s) (p : Fin 8) {f : Player → Player} (hf : ∀ x, (f x).core = x.core) :
    Kept v m r₀ (s.modPlayer p f) :=
  h.modPlayer p (fun hx => (hf _).symm ▸ hx) fun hx => (hf _).symm ▸ hx

theorem Player.core_runs {x : Player} {st : PlayerState} (h : x.state = st) (idle : st ≠ .idle) (fault : st ≠ .fault) : x.core.Runs :=
  ⟨fun e => idle (h.symm.trans e), fun e => fault (h.symm.trans e)⟩

/-- A player put in a state of a run, its stacks no higher than before. -/
theorem Kept.runPlayer (h : Kept v m r₀ s) (p : Fin 8) {f : Player → Player}
    (runs : (f (s.cue.players.get p)).core.Runs) (fits : (s.cue.players.get p).core.Fits → (f (s.cue.players.get p)).core.Fits) :
    Kept v m r₀ (s.modPlayer p f) := h.modPlayer p fits fun _ => runs

/-- A player put in a state of a run, and its stacks left alone. -/
theorem Kept.putPlayer (h : Kept v m r₀ s) (p : Fin 8) {f : Player → Player} {st : PlayerState} (idle : st ≠ .idle) (fault : st ≠ .fault)
    (core : ∀ x, (f x).core = { x.core with state := st }) : Kept v m r₀ (s.modPlayer p f) := by
  refine h.runPlayer p ?_ fun hx => ?_ <;> rw [core]
  · exact ⟨idle, fault⟩
  · exact ⟨hx.calls, hx.repeats, hx.pause⟩

theorem Kept.laterRun (h : Kept v m r₀ s) (p : Fin 8) (stage : Stage) : Kept v m r₀ (s.laterRun p stage) := h.congr rfl

theorem Kept.goOn (h : Kept v m r₀ s) (p : Fin 8) (stage : Stage) : Kept v m r₀ (goOn p stage s) := h.later _

theorem Kept.lineUp (h : Kept v m r₀ s) (p : Fin 8) (stage : Stage) : Kept v m r₀ (lineUp p stage s) :=
  .laterRun (h.putPlayer p (st := .running) nofun nofun fun _ => by rfl) p stage

theorem Kept.startList (h : Kept v m r₀ s) (p : Fin 8) (l : Fin 64) : Kept v m r₀ (startList p l s) :=
  .laterRun (h.runPlayer p (f := Player.begin l) ⟨nofun, nofun⟩ fun _ => ⟨Nat.zero_le _, Nat.zero_le _, nofun, nofun⟩) p .wait

theorem Kept.block (h : Kept v m r₀ s) (p : Fin 8) (b : Blocked) : Kept v m r₀ (block p b s) :=
  h.putPlayer p (st := .blocked) nofun nofun fun _ => by rfl

/-! ## Targets released and handed over (R134) -/

/-- An heir is BLOCKED, so it has a run. -/
theorem heir_runs {x : Fin 57} (hq : s.heir x = some p) : (s.cue.players.get p).core.Runs := by
  have hmem := List.mem_of_mem_head? (Option.mem_def.mpr hq)
  rw [State.byPriority, mem_byWeight, List.mem_filter, Bool.and_eq_true, beq_iff_eq] at hmem
  obtain ⟨-, hblocked, -⟩ := hmem
  exact Player.core_runs hblocked nofun nofun

theorem Kept.assignTarget {a : List (Fin 8) × State} (h : Kept v m r₀ a.2) (x : Fin 57) : Kept v m r₀ (assignTarget x a).2 := by
  unfold Machine.assignTarget
  split
  · exact h
  · next q hq =>
    have hmod := h.tellPlayer q (f := fun y => { y with blocked := none }) fun _ => rfl
    refine hmod.setHolder x fun _ p hp => ?_
    cases hp
    simpa [Player.core] using heir_runs hq

theorem Kept.assignTargets (l : List (Fin 57)) {a : List (Fin 8) × State} (h : Kept v m r₀ a.2) :
    Kept v m r₀ (l.foldl (fun a x => Machine.assignTarget x a) a).2 := by
  induction l generalizing a with
  | nil => exact h
  | cons x l ih => exact ih (h.assignTarget x)

/-- Targets that nobody holds any more handed over: the second half of a release. -/
def handOver (l : List (Fin 57)) (s : State) : State :=
  let a := l.foldl (fun a x => assignTarget x a) ([], s)
  forEach (a.2.byPriority ((indices 8).filter a.1.contains)) (fun q => lineUp q .contend) a.2

theorem releaseTargets_eq (l : List (Fin 57)) (s : State) :
    releaseTargets l s = handOver l (Machine.forEach l (fun x => State.setHolder x none) s) := rfl

theorem Kept.handOver (h : Kept v m r₀ s) (l : List (Fin 57)) : Kept v m r₀ (handOver l s) :=
  .forEach (fun q _ hu => hu.lineUp q .contend) _ (Kept.assignTargets l (a := ([], s)) h)

theorem Kept.unhold (h : Kept v m r₀ s) (l : List (Fin 57)) : Kept v m r₀ (Machine.forEach l (fun x => State.setHolder x none) s) :=
  .forEach (fun x _ hu => hu.setHolder x fun _ _ hq => by cases hq) l h

theorem Kept.releaseTargets (h : Kept v m r₀ s) (l : List (Fin 57)) : Kept v m r₀ (releaseTargets l s) := (h.unhold l).handOver l

/-- Releasing targets does not read the players. -/
theorem unhold_modPlayer (l : List (Fin 57)) (p : Fin 8) (f : Player → Player) (s : State) :
    forEach l (fun x => State.setHolder x none) (s.modPlayer p f) = (forEach l (fun x => State.setHolder x none) s).modPlayer p f := by
  induction l generalizing s with
  | nil => rfl
  | cons x l ih => exact ih (s.setHolder x none)

theorem unhold_holder (l : List (Fin 57)) (s : State) (y : Fin 57) :
    (forEach l (fun x => State.setHolder x none) s).cue.holders.get y = if y ∈ l then none else s.cue.holders.get y := by
  induction l generalizing s with
  | nil => simp [forEach]
  | cons x l ih =>
    have e := ih (s.setHolder x none)
    rw [forEach, List.foldl_cons, ← forEach, e, State.setHolder_cue, Table.get_set]
    by_cases hy : y ∈ l <;> by_cases hx : y = x <;> simp [hx, hy]

theorem Core.Fits.empty {st : PlayerState} {prePause : Option PlayerState} (hp : prePause ≠ some .idle ∧ prePause ≠ some .fault) :
    Core.Fits { state := st, calls := 0, repeats := 0, prePause := prePause } := ⟨Nat.zero_le _, Nat.zero_le _, hp⟩

/-- A player that loses its run, and the targets it held handed over: it holds nothing by then. -/
theorem Kept.endPlayer (h : Kept v m r₀ s) (p : Fin 8) {f : Player → Player}
    (fits : (s.cue.players.get p).core.Fits → (f (s.cue.players.get p)).core.Fits) :
    Kept v m r₀ (Machine.releaseTargets (s.heldTargets p) (s.modPlayer p f)) := by
  rw [releaseTargets_eq, unhold_modPlayer]
  have hfree : Kept v m r₀ (Machine.forEach (s.heldTargets p) (fun x => State.setHolder x none) s) := h.unhold _
  have hplayer : (Machine.forEach (s.heldTargets p) (fun x => State.setHolder x none) s).cue.players = s.cue.players :=
    keeps_forEach (P := fun u => u.cue.players = s.cue.players) (f := fun x => State.setHolder x none) (fun _ _ hu => hu) _ rfl
  have hnone (y : Fin 57) : (Machine.forEach (s.heldTargets p) (fun x => State.setHolder x none) s).cue.holders.get y ≠ some p := by
    rw [unhold_holder]
    split
    · nofun
    · next hy => exact fun e => hy (List.mem_filter.mpr ⟨mem_indices y, beq_iff_eq.mpr e⟩)
  refine Kept.handOver ?_ _
  refine hfree.toCue rfl fun hs => ?_
  rw [modPlayer_ruled]
  refine ⟨forall_update (p := Core.Fits) hs.fits fun hx => ?_, fun x q hx => ?_⟩
  · rw [hplayer]
    exact fits (by simpa only [State.ruled, hplayer] using hx)
  · have hq : q ≠ p := fun e => hnone x (e ▸ hx)
    simpa [hq] using hs.runs x q hx

theorem Kept.endRun (h : Kept v m r₀ s) (p : Fin 8) : Kept v m r₀ (endRun p s) := by
  have hend := (h.endPlayer p (f := Player.clear .idle) fun hx => .empty hx.pause).raise (.playerEnd p)
  unfold Machine.endRun
  dsimp only
  split
  · exact hend
  · exact .startList (hend.tellPlayer p fun _ => by rfl) p _

theorem Kept.faultPlayer (h : Kept v m r₀ s) (p : Fin 8) (code : PlayerFaultCode) (detail : Nat) :
    Kept v m r₀ (faultPlayer p code detail s) :=
  .raise (h.endPlayer p fun _ => by exact .empty ⟨nofun, nofun⟩) _

theorem Kept.startPlayer (h : Kept v m r₀ s) (p : Fin 8) (l : Fin 64) (policy : Policy) : Kept v m r₀ (startPlayer p l policy s).1 := by
  unfold Machine.startPlayer
  split
  · exact h
  · split
    · exact h.startList p l
    · cases policy with
      | skip => exact h
      | queue => exact h.tellPlayer p fun _ => by rfl
      | replace => exact .startList (h.endPlayer p fun _ => by exact .empty ⟨nofun, nofun⟩) p l

/-! ## Issue and contention (R127, R131, R132) -/

theorem Kept.issueAction (h : Kept v m r₀ s) (r : StepRec) : Kept v m r₀ (issueAction r s).1 := by
  unfold Machine.issueAction
  split
  · exact h.handleQuiet (r := .groupSetLevel ..) rfl
  · exact h.handleQuiet (r := .groupSetMode ..) rfl
  · exact h.handleQuiet (r := .groupSetBlink ..) rfl
  · exact h.doTrainSpeed _ _
  · exact h.doTrainRoute _ _ _
  · exact h.doTrainRelease _
  · exact h.doTrainStop _
  · exact h.doAxisSpeed _ _ _
  · exact h.doAxisMove _ _
  · exact h.doAxisStopAt _ _
  · exact h.doAxisStop _
  · exact h.doAxisHome _
  · exact h.handleQuiet (r := .auxSet ..) rfl
  · exact h.handleQuiet (r := .clockSetRate ..) rfl
  · exact h.handleQuiet (r := .clockSetTime ..) rfl
  · exact h

theorem Kept.issue (h : Kept v m r₀ s) (p : Fin 8) : Kept v m r₀ (issue p s) := by
  have hissue := h.issueAction (s.stepOf p)
  unfold Machine.issue
  dsimp only
  split
  · exact hissue.goOn p _
  · split
    · exact hissue.tellPlayer p fun _ => by rfl
    · exact hissue.goOn p _

/-- A running player that contends for a target may become its holder. -/
theorem Kept.contendFor (h : Kept v m r₀ s) (hp : (s.cue.players.get p).state = .running) (x : Fin 57) :
    Kept v m r₀ (contendFor p x s) := by
  have hruns : (s.cue.players.get p).core.Runs :=
    Player.core_runs hp nofun nofun
  have htake : Kept v m r₀ (s.setHolder x (some p)) := h.setHolder x fun _ q hq => Option.some.inj hq ▸ hruns
  unfold Machine.contendFor
  split
  · exact h.block p _
  · split
    · exact htake.issue p
    · split
      · exact h.issue p
      · split
        · exact h.block p _
        · exact (htake.raise _).issue p

/-! ## Control steps (R127, R134 to R137) -/

theorem Kept.jumpStep (h : Kept v m r₀ s) (p : Fin 8) (i : Nat) : Kept v m r₀ (jumpStep p i s) := .goOn (h.tellPlayer p fun _ => by rfl) p _

theorem Kept.returnFrom (h : Kept v m r₀ s) (p : Fin 8) : Kept v m r₀ (returnFrom p s) := by
  unfold Machine.returnFrom
  dsimp only
  split
  · exact h.endRun p
  · next l i rest e =>
    refine .goOn (h.modPlayer p (fun hx => ⟨?_, ?_, hx.pause⟩) fun hx => hx) p _
    · have hcalls : (s.cue.players.get p).calls.length ≤ 4 := hx.calls
      simp only [e, List.length_cons] at hcalls
      exact Nat.le_of_succ_le hcalls
    · exact (List.length_filter_le _ _).trans hx.repeats

theorem Kept.callList (h : Kept v m r₀ s) (p : Fin 8) (k : Nat) : Kept v m r₀ (callList p k s) := by
  unfold Machine.callList
  dsimp only
  split
  · exact h.faultPlayer p _ _
  · next hroom =>
    split
    · exact h.faultPlayer p _ _
    · split
      · exact h.faultPlayer p _ _
      · split
        · exact h
        · split
          · exact h.faultPlayer p _ _
          · refine .goOn (h.modPlayer p (fun hx => ?_) fun hx => hx) p _
            exact ⟨Nat.lt_of_not_le hroom, hx.repeats, hx.pause⟩

theorem Kept.repeatBegin (h : Kept v m r₀ s) (p : Fin 8) (r : StepRec) : Kept v m r₀ (repeatBegin p r s) := by
  unfold Machine.repeatBegin
  dsimp only
  split
  · exact h.faultPlayer p _ _
  · next hroom =>
    refine .jumpStep (h.modPlayer p (fun hx => ?_) fun hx => hx) p _
    exact ⟨hx.calls, Nat.lt_of_not_le hroom, hx.pause⟩

theorem Kept.repeatEnd (h : Kept v m r₀ s) (p : Fin 8) : Kept v m r₀ (repeatEnd p s) := by
  unfold Machine.repeatEnd
  dsimp only
  split
  · exact h.jumpStep p _
  · next f rest e =>
    have hrest (hx : (s.cue.players.get p).core.Fits) : rest.length + 1 ≤ 8 := by
      have hrepeats : (s.cue.players.get p).repeats.length ≤ 8 := hx.repeats
      simpa only [e, List.length_cons] using hrepeats
    split
    · refine .jumpStep (h.modPlayer p (fun hx => ?_) fun hx => hx) p _
      exact ⟨hx.calls, Nat.le_of_succ_le (hrest hx), hx.pause⟩
    · refine .jumpStep (h.modPlayer p (fun hx => ?_) fun hx => hx) p _
      exact ⟨hx.calls, hrest hx, hx.pause⟩

theorem Kept.releaseStep (h : Kept v m r₀ s) (p : Fin 8) (k : Nat) : Kept v m r₀ (releaseStep p k s) := by
  unfold Machine.releaseStep
  split <;> exact h.releaseTargets _

theorem Kept.advanceStep (h : Kept v m r₀ s) (p : Fin 8) : Kept v m r₀ (advanceStep p s) := by
  unfold Machine.advanceStep
  dsimp only
  split
  · exact (h.raise _).jumpStep p _
  · exact h.callList p _
  · exact h.repeatBegin p _
  · exact h.repeatEnd p
  · exact (h.releaseStep p _).jumpStep p _
  · exact h.returnFrom p
  · exact h.jumpStep p _

/-! ## Stages, waits and awaits (R128, R130, R133) -/

theorem Kept.beginWait (h : Kept v m r₀ s) (p : Fin 8) : Kept v m r₀ (beginWait p s) := by
  unfold Machine.beginWait
  split
  · exact h
  · split
    · exact h.returnFrom p
    · split
      · exact h.goOn p _
      · exact h.putPlayer p (st := .waiting) nofun nofun fun _ => by rfl

theorem Kept.runStage (h : Kept v m r₀ s) (p : Fin 8) (stage : Stage) : Kept v m r₀ (runStage p stage s) := by
  unfold Machine.runStage
  split
  · exact h
  · next hp =>
    cases stage with
    | wait => exact h.beginWait p
    | contend =>
      dsimp only
      unfold contend
      split
      · exact h.contendFor (not_not.mp hp) _
      · exact h.advanceStep p
    | advance => exact .advanceStep (h.tellPlayer p fun _ => by rfl) p
    | fail code detail => exact h.faultPlayer p code detail

theorem record_core (n : Nat) (item : CueItem) (x : Player) : (Player.record n item x).core = x.core := by
  unfold Player.record
  split
  · split <;> rfl
  · rfl

theorem Kept.runOn (h : Kept v m r₀ s) (n : Nat) (item : CueItem) (p : Fin 8) : Kept v m r₀ (runOn n item p s) := by
  unfold Machine.runOn
  split
  · exact h
  · exact .lineUp (h.tellPlayer p fun _ => by rfl) p _

theorem Kept.offerItem (h : Kept v m r₀ s) (n : Nat) (item : CueItem) : Kept v m r₀ (offerItem n item s) :=
  .forEach (fun p _ hu => hu.runOn n item p) _ (h.congr (modPlayers_ruled (record_core n item) s))

theorem Kept.waitExpire (h : Kept v m r₀ s) (p : Fin 8) : Kept v m r₀ (waitExpire p s) := by
  unfold Machine.waitExpire
  dsimp only
  split
  · exact .lineUp (h.tellPlayer p fun _ => by rfl) p _
  · exact h

theorem Kept.waitTimeOut (h : Kept v m r₀ s) (p : Fin 8) : Kept v m r₀ (waitTimeOut p s) := by
  unfold Machine.waitTimeOut
  dsimp only
  split
  · exact h.faultPlayer p _ _
  · exact h

theorem Kept.unblockInterlock (h : Kept v m r₀ s) : Kept v m r₀ (unblockInterlock s) := .forEach (fun p _ hu => hu.lineUp p _) _ h

theorem Kept.applyTrigger (h : Kept v m r₀ s) (k : Fin 32) : Kept v m r₀ (applyTrigger k s) := by
  unfold Machine.applyTrigger
  dsimp only
  split
  · exact h.congr (modTrigger_ruled k _ s)
  · exact (h.startPlayer _ _ _).congr (modTrigger_ruled k _ _)

/-! ## Player requests (R139 to R141) -/

theorem Kept.doPlayerStart (h : Kept v m r₀ s) (player list policy : Nat) : Kept v m r₀ (doPlayerStart player list policy s).1 := by
  unfold Machine.doPlayerStart
  split
  · exact h.startPlayer _ _ _
  · exact h

theorem Kept.doPlayerStop (h : Kept v m r₀ s) (player : Nat) : Kept v m r₀ (doPlayerStop player s).1 := by
  unfold Machine.doPlayerStop
  split
  · exact h
  · split
    · exact h
    · exact h.endPlayer _ fun _ => by exact .empty ⟨nofun, nofun⟩

theorem Kept.doPlayerPause (h : Kept v m r₀ s) (player : Nat) : Kept v m r₀ (doPlayerPause player s).1 := by
  unfold Machine.doPlayerPause
  split
  · exact h
  · next p _ =>
    dsimp only
    split
    · next hst =>
      refine h.runPlayer p ⟨nofun, nofun⟩ fun hx => ⟨hx.calls, hx.repeats, fun e => ?_, fun e => ?_⟩
      all_goals
        rw [Option.some.inj e] at hst
        simp at hst
    · exact h

theorem Kept.resumePlayer (h : Kept v m r₀ s) (p : Fin 8) : Kept v m r₀ (resumePlayer p s) := by
  have hresume : Kept v m r₀ (s.modPlayer p fun y =>
      { y with prePause := none, state := (s.cue.players.get p).prePause.getD .running }) := by
    refine h.toCue rfl fun hs => ?_
    have hpause : (s.cue.players.get p).prePause ≠ some .idle ∧ (s.cue.players.get p).prePause ≠ some .fault := (hs.fits p).pause
    have hcore : (Player.core { s.cue.players.get p with
        prePause := none, state := (s.cue.players.get p).prePause.getD .running }).Runs := by
      cases e : (s.cue.players.get p).prePause with
      | none => exact ⟨nofun, nofun⟩
      | some st => exact ⟨fun e' => hpause.1 (e' ▸ e), fun e' => hpause.2 (e' ▸ e)⟩
    have hkept : Kept s.ruled.mode s.ruled.mode s.ruled (s.modPlayer p fun y =>
        { y with prePause := none, state := (s.cue.players.get p).prePause.getD .running }) :=
      (Kept.refl s).runPlayer p hcore fun hx => ⟨hx.calls, hx.repeats, nofun, nofun⟩
    exact hkept.staged hs
  unfold Machine.resumePlayer
  dsimp only
  split
  · exact hresume.lineUp p _
  · split
    · exact .lineUp (hresume.tellPlayer p fun _ => by rfl) p _
    · exact hresume
  · exact hresume

theorem Kept.doPlayerResume (h : Kept v m r₀ s) (player : Nat) : Kept v m r₀ (doPlayerResume player s).1 := by
  unfold Machine.doPlayerResume
  split
  · exact h
  · split
    · exact h.resumePlayer _
    · exact h

theorem Kept.doPlayerPriority (h : Kept v m r₀ s) (player priority : Nat) : Kept v m r₀ (doPlayerPriority player priority s).1 := by
  unfold Machine.doPlayerPriority
  split
  · exact h
  · split
    · exact h
    · split
      · exact h
      · exact h.tellPlayer _ fun _ => by rfl

/-- After a WARM reset every player is IDLE and nobody holds a target (R170). -/
theorem Kept.warmCue (h : Kept v m r₀ s) : Kept v m r₀ (warmCue s) := by
  refine h.toCue rfl fun _ => ⟨fun p => ?_, fun x p hx => ?_⟩
  · have e : (Machine.warmCue s).cue.players.get p = Player.initial (s.cue.players.get p).priority := Table.get_map _ _ _
    have hcore : (Machine.warmCue s).ruled.players p = (Player.initial (s.cue.players.get p).priority).core := congrArg Player.core e
    exact hcore ▸ Core.Fits.empty ⟨nofun, nofun⟩
  · have e : (Machine.warmCue s).ruled.holders x = none := Table.get_replicate _ x
    cases e.symm.trans hx

end Sys2Proof.Machine
end

section
/-! SUPPORT. The supply (R154 to R161): the rails, the cut-off and the dressing key change what may move, and the reactions put the trains,
the axes and the gate timeouts in order before the change is over. -/

namespace Sys2Proof.Machine

variable {s u : State} {v m : Mode} {r₀ : Ruled}

/-! ## A change of the supply -/

/-- The supply changed: the rules are taken with what they were taken with before, or with less. -/
theorem Kept.resupply (h : Kept v m r₀ s) (f : Supply → Supply) {m' : Mode} (covers : m'.Covers (s.modSupply f).ruled.mode)
    (run : m.run = true → m'.run = true) (up : m.up = true → m'.up = true) (lock : m'.lock = m.lock)
    (calm : m'.calm = true → m.calm = true) (booked : m'.booked = m.booked) : Kept (s.modSupply f).ruled.mode m' r₀ (s.modSupply f) where
  now := rfl
  covers := covers
  speeds := h.speeds
  stops h₀ t := (h.stops h₀ t).mono run
  moves h₀ a := (h.moves h₀ a).mono up
  heeds h₀ := ⟨lock ▸ (h.heeds h₀).1, fun hc => (h.heeds h₀).2 (calm hc)⟩
  staged h₀ := ⟨(h.staged h₀).fits, (h.staged h₀).runs⟩
  agrees hb := h.agrees (booked ▸ hb)

/-- What the rules speak of in the supply: the rails, the cut-off and the key. -/
def Supply.powers (k : Supply) : Rails × Bool × Bool := (k.rails, k.cutoff, k.keyOn)

/-- The supply changed in what no rule speaks of. -/
theorem Kept.supplyQuiet (h : Kept v m r₀ s) {f : Supply → Supply} (same : (f s.supply).powers = s.supply.powers) :
    Kept v m r₀ (s.modSupply f) := by
  simp only [Supply.powers, Prod.mk.injEq] at same
  exact h.congr (modSupply_ruled same.1 same.2.1 same.2.2)

theorem Kept.engaged_eq (h : Kept v m r₀ s) : s.engaged = v.lock := congrArg Mode.lock h.now

theorem Kept.motion_eq (h : Kept v m r₀ s) : s.supply.rails.motion = v.up := congrArg Mode.up h.now

/-! ## The rails (R154) -/

theorem Kept.railTrack (h : Kept v m r₀ s) {old : Rails} (hm : (old.track = true → s.supply.rails.track = true) → m.run = v.run) :
    Kept v { m with run := v.run } r₀ (railChanged old .track s) := by
  have hsame (e : old.track = true → s.supply.rails.track = true) {u : State} (hu : Kept v m r₀ u) : Kept v { m with run := v.run } r₀ u := by
    rw [← hm e]
    exact hu
  unfold railChanged
  dsimp only
  split
  · next e => exact hsame (fun ho => (show old.track = s.supply.rails.track from e) ▸ ho) h
  · change Kept v _ r₀ (railReaction .track s.supply.rails.track _)
    cases hup : s.supply.rails.track with
    | true => exact hsame (fun _ => hup) (h.raise _).resyncAll
    | false =>
      have hv : v.run = false := by rw [← h.run_eq]; simp [Ruled.run, State.ruled, hup]
      rw [hv]
      exact (h.raise _).emergencyStop hv _

theorem Kept.railMotion (h : Kept v m r₀ s) {old : Rails} (hm : (old.motion = true → s.supply.rails.motion = true) → m.up = v.up) :
    Kept v { m with up := v.up } r₀ (railChanged old .motion s) := by
  have hsame (e : old.motion = true → s.supply.rails.motion = true) {u : State} (hu : Kept v m r₀ u) : Kept v { m with up := v.up } r₀ u := by
    rw [← hm e]
    exact hu
  have hv := h.motion_eq
  unfold railChanged
  dsimp only
  split
  · next e => exact hsame (fun ho => (show old.motion = s.supply.rails.motion from e) ▸ ho) h
  · change Kept v _ r₀ (railReaction .motion s.supply.rails.motion _)
    cases hup : s.supply.rails.motion with
    | true => exact hsame (fun _ => hup) ((h.raise _).motionUp (h.up hup))
    | false =>
      rw [hup] at hv
      rw [← hv]
      exact (h.raise _).motionDown hv.symm

theorem Kept.railLights (h : Kept v m r₀ s) (old : Rails) : Kept v m r₀ (railChanged old .lights s) := by
  unfold railChanged
  dsimp only
  split
  · exact h
  · cases s.supply.rails.up .lights
    · exact (h.raise _).congr (modLight_ruled _ _)
    · exact h.raise _

theorem Kept.railAux (h : Kept v m r₀ s) (old : Rails) : Kept v m r₀ (railChanged old .aux s) := by
  unfold railChanged
  dsimp only
  split
  · exact h
  · cases s.supply.rails.up .aux <;> exact h.raise _

/-! ## What every command keeps -/

/-- A state keeps the rules that another one kept, each with the premises of the supply as it is. -/
def Upholds (r₀ : Ruled) (s : State) : Prop := ∃ v, Kept v v r₀ s

theorem Upholds.refl (s : State) : Upholds s.ruled s := ⟨_, .refl s⟩

/-- What leaves the supply alone. -/
theorem Upholds.map (h : Upholds r₀ s) (hf : ∀ v, Kept v v r₀ s → Kept v v r₀ u) : Upholds r₀ u := by
  obtain ⟨v, hv⟩ := h
  exact ⟨v, hf v hv⟩

theorem Upholds.congr (h : Upholds r₀ s) (e : u.ruled = s.ruled) : Upholds r₀ u := h.map fun _ hv => hv.congr e

theorem Upholds.setRails (h : Upholds r₀ s) (pattern : Rails) : Upholds r₀ (setRails pattern s) := by
  obtain ⟨v, h⟩ := h
  obtain rfl := h.now
  unfold Machine.setRails
  extract_lets old
  generalize hu : (s.modSupply fun k => { k with rails := pattern }) = u
  have h0 : Kept u.ruled.mode { u.ruled.mode with run := s.ruled.run || u.ruled.run, up := s.ruled.motionUp || u.ruled.motionUp } r₀ u := by
    subst hu
    refine h.resupply _ ⟨fun e => ?_, fun e => ?_, id⟩ (fun e => ?_) (fun e => ?_) rfl id rfl
    · simp [show (s.modSupply _).ruled.run = true from e]
    · simp [show (s.modSupply _).ruled.motionUp = true from e]
    · simp [show s.ruled.run = true from e]
    · simp [show s.ruled.motionUp = true from e]
  have htrack := h0.railTrack (old := old) fun hkeep => ?_
  have hmotion := htrack.railMotion (old := old) fun hkeep => ?_
  · exact ⟨_, (hmotion.railLights old).railAux old⟩
  · have hpattern := htrack.motion_eq
    rw [hpattern] at hkeep
    exact Bool.or_eq_right_iff_imp.mpr hkeep
  · have hrun (e : s.ruled.run = true) : u.ruled.run = true := by
      subst hu
      simp only [Ruled.run, Bool.and_eq_true] at e ⊢
      exact ⟨⟨hkeep e.1.1, e.1.2⟩, e.2⟩
    exact Bool.or_eq_right_iff_imp.mpr hrun

theorem Upholds.programStep (h : Upholds r₀ s) : Upholds r₀ (programStep s) := by
  unfold Machine.programStep
  split
  · next p i _ =>
    have hrails := h.setRails ((s.supply.program p).get i).2
    extract_lets s1
    split
    · exact hrails.map fun _ hv => hv.supplyQuiet (by rfl)
    · exact hrails.map fun _ hv => .raise (hv.supplyQuiet (by rfl)) _
  · exact h

theorem Upholds.doRailSet (h : Upholds r₀ s) (pattern : Nat) : Upholds r₀ (doRailSet pattern s).1 := by
  unfold Machine.doRailSet
  split
  · exact h
  · exact h.setRails _

/-! ## Overload (R159, R160) -/

theorem Upholds.onsetCutoff (h : Upholds r₀ s) : Upholds r₀ (onsetCutoff s) := by
  unfold Machine.onsetCutoff
  split
  · exact h.map fun _ hv => hv.supplyQuiet (by rfl)
  · obtain ⟨v, h⟩ := h
    obtain rfl := h.now
    have hrun : (s.modSupply fun k => { k with cutoff := true, endTimer := none }).ruled.run = false := by
      simp [Ruled.run, State.ruled, State.modSupply]
    have hcut := h.resupply (fun k => { k with cutoff := true, endTimer := none }) (m' := s.ruled.mode)
      ⟨fun e => (nomatch hrun.symm.trans e), id, id⟩ id id rfl id rfl
    have hstop := (hcut.raise (.overload .begin)).emergencyStop hrun .overload
    rw [← hrun] at hstop
    exact ⟨_, hstop⟩

theorem Upholds.lockout (h : Upholds r₀ s) : Upholds r₀ (lockout s) :=
  (h.setRails { s.supply.rails with track := false }).map fun _ hv => .raise (hv.supplyQuiet (by rfl)) _

theorem Upholds.overloadOnset (h : Upholds r₀ s) : Upholds r₀ (overloadOnset s) := by
  have honset : Upholds r₀ (Machine.onsetCutoff (s.modSupply fun k => { k with quiet := none, onsets := min 2 (s.supply.onsets + 1) })) :=
    Upholds.onsetCutoff (h.map fun _ hv => hv.supplyQuiet (by rfl))
  unfold Machine.overloadOnset
  dsimp only
  split
  · exact honset.lockout
  · exact honset

theorem Supply.sampleOverload_powers (level : Bool) (k : Supply) : (k.sampleOverload level).powers = k.powers := by
  unfold Supply.sampleOverload
  (repeat' split) <;> rfl

theorem Upholds.sampleOverload (h : Upholds r₀ s) : Upholds r₀ (sampleOverload s) := by
  unfold Machine.sampleOverload
  extract_lets c s1
  have h1 : Upholds r₀ s1 := (h.congr (modSched_ruled (fun d => { d with overload := false }) s)).map fun _ hv =>
    hv.supplyQuiet (Supply.sampleOverload_powers _ _)
  generalize c = c'
  split
  · exact h1.overloadOnset
  · exact h1.congr (overloadClear_ruled _)
  · exact h1

theorem Upholds.overloadFinish (h : Upholds r₀ s) : Upholds r₀ (overloadFinish s) := by
  unfold Machine.overloadFinish
  split
  · obtain ⟨v, h⟩ := h
    obtain rfl := h.now
    refine ⟨_, ((h.resupply _ (.refl _) (fun e => ?_) id rfl id rfl).raise _).resyncAll⟩
    have e' : s.ruled.run = true := e
    simp only [Ruled.run, Bool.and_eq_true] at e'
    change (_ && !false && _) = true
    simp only [Bool.not_false, Bool.and_true, Bool.and_eq_true]
    exact ⟨e'.1.1, e'.2⟩
  · exact h

/-! ## The dressing interlock (R79, R99, R120, R142, R161) -/

/-- A crossing suspended has no timeout that runs, and no other crossing's starts. -/
theorem suspendCrossing_couplings (c : Fin 4) (s : State) :
    (∀ k, (suspendCrossing c s).track.couplings.get c = some k → ¬k.times) ∧
      ∀ d, d ≠ c → (suspendCrossing c s).track.couplings.get d = s.track.couplings.get d := by
  unfold suspendCrossing
  split
  · next e => exact ⟨fun k hk => absurd (e.symm.trans hk) nofun, fun _ _ => rfl⟩
  · next k e =>
    refine ⟨fun k' hk' => ?_, fun d hd => ?_⟩
    · obtain rfl := Option.some.inj ((Table.get_set_self _ _ _).symm.trans hk')
      rintro ⟨ms, ht⟩
      dsimp only at ht
      split at ht
      · cases ht
      · next hno => exact hno ms ht
    · exact Table.get_set_ne _ _ hd

/-- The gate timeouts after a crossing is suspended: fewer run. -/
theorem Kept.suspendCrossing (h : Kept v m r₀ s) (c : Fin 4) : Kept v m r₀ (suspendCrossing c s) := by
  have hstill := (suspendCrossing_couplings c s).1
  unfold Machine.suspendCrossing at hstill ⊢
  split
  · exact h
  · next k e =>
    rw [e] at hstill
    exact h.setCoupling c fun _ _ k' hk' => hstill k' ((Table.get_set_self _ _ _).trans hk')

/-- Every gate timeout suspended: the gate timeouts stand (R79). -/
theorem Kept.suspendAll (h : Kept v m r₀ s) (hv : v.calm = true) :
    Kept v { m with calm := true } r₀ (Machine.forEach (indices 4) Machine.suspendCrossing s) := by
  have hloop : Kept v m r₀ (Machine.forEach (indices 4) Machine.suspendCrossing s) := .forEach (fun c _ hu => hu.suspendCrossing c) _ h
  have huntimed (c : Fin 4) := forEach_indices (I := fun _ => True) (s := s)
    (P := fun c u => ∀ k, u.track.couplings.get c = some k → ¬k.times) (f := Machine.suspendCrossing) (fun _ _ _ => trivial)
    (fun c u _ => (suspendCrossing_couplings c u).1)
    (fun c d u _ hd => by
      by_cases e : d = c
      · exact e ▸ (suspendCrossing_couplings c u).1
      · rw [(suspendCrossing_couplings c u).2 d e]
        exact hd) trivial c
  exact { hloop with
    covers := { hloop.covers with calm := fun _ => hv }
    heeds := fun h₀ => ⟨(hloop.heeds h₀).1, fun _ => huntimed⟩ }

theorem Kept.recommandAll (h : Kept v m r₀ s) (hv : v.lock = false) :
    Kept v m r₀ (Machine.forEach (indices 4) Machine.recommandCrossing s) :=
  .forEach (fun c _ hu => hu.recommandCrossing (hu.engaged_eq.trans hv) c) _ h

/-- The key confirmed ON (R161): the rules are taken with what held before, and the reactions put the rest in order. -/
theorem Upholds.dressingOn (h : Upholds r₀ s) (f : Supply → Supply) (hkey : (f s.supply).keyOn = true)
    (hrails : (f s.supply).rails = s.supply.rails) : Upholds r₀ (dressingOn (s.modSupply f)) := by
  obtain ⟨v, h⟩ := h
  obtain rfl := h.now
  have hrun : (s.modSupply f).ruled.mode.run = false := by simp [Ruled.mode, Ruled.run, State.ruled, State.engaged, State.modSupply, hkey]
  have hup : (s.modSupply f).ruled.mode.up = s.ruled.mode.up := by simp [Ruled.mode, State.ruled, State.modSupply, hrails]
  have hlock : (s.modSupply f).ruled.engaged = true := hkey
  have h0 := h.resupply f (m' := s.ruled.mode) ⟨fun e => absurd e (by simp [hrun]), fun e => hup ▸ e, fun _ => hlock⟩
    id id rfl id rfl
  have hend := Kept.suspendAll ((h0.raise (.dressing true)).emergencyStop hrun .dressing).holdAxes hlock
  have hmode : (⟨false, s.ruled.mode.up, true, true, true⟩ : Mode) = (s.modSupply f).ruled.mode :=
    Mode.ext hrun.symm hup.symm hlock.symm hlock.symm rfl
  exact ⟨_, hmode ▸ hend⟩

/-- The key confirmed OFF (R161). -/
theorem Upholds.dressingOff (h : Upholds r₀ s) (f : Supply → Supply) (hkey : (f s.supply).keyOn = false)
    (hrails : (f s.supply).rails = s.supply.rails) (hcutoff : (f s.supply).cutoff = s.supply.cutoff) :
    Upholds r₀ (dressingOff (s.modSupply f)) := by
  obtain ⟨v, h⟩ := h
  obtain rfl := h.now
  have hrun (e : s.ruled.run = true) : (s.modSupply f).ruled.run = true := by
    simp only [Ruled.run, State.ruled, Bool.and_eq_true] at e
    simp [Ruled.run, State.ruled, State.engaged, State.modSupply, hkey, hrails, hcutoff, e.1]
  have hup : (s.modSupply f).ruled.mode.up = s.ruled.mode.up := by simp [Ruled.mode, State.ruled, State.modSupply, hrails]
  have hlock : (s.modSupply f).ruled.engaged = false := hkey
  have h0 := h.resupply f (m' := { s.ruled.mode with run := (s.modSupply f).ruled.run, calm := false })
    ⟨id, fun e => hup ▸ e, fun e => absurd e (by simp)⟩ hrun id rfl (fun e => absurd e (by simp)) rfl
  have hend := ((((h0.raise (.dressing false)).recommandAll hlock).releaseAxes.resyncAll).later .examine).unblockInterlock
  have hmode : (⟨(s.modSupply f).ruled.run, s.ruled.mode.up, false, false, true⟩ : Mode) = (s.modSupply f).ruled.mode :=
    Mode.ext rfl hup.symm hlock.symm hlock.symm rfl
  exact ⟨_, hmode ▸ hend⟩

/-- What a sample of the key leaves of the supply, and the key it confirms. -/
theorem Supply.sampleKey_keeps (level : Bool) (k : Supply) : (k.sampleKey level).rails = k.rails ∧
    (k.sampleKey level).cutoff = k.cutoff ∧ (k.sampleKey level).keyOn = (k.keyConfirms level).getD k.keyOn := by
  unfold Supply.sampleKey Supply.keyConfirms
  (repeat' split) <;> exact ⟨rfl, rfl, rfl⟩

theorem Upholds.sampleKey (h : Upholds r₀ s) : Upholds r₀ (sampleKey s) := by
  obtain ⟨hrails, hcutoff, hkey⟩ := s.supply.sampleKey_keeps s.pins.key
  have h0 : Upholds r₀ (s.modSched fun d => { d with key := false }) := h.congr rfl
  unfold Machine.sampleKey
  extract_lets c s1
  change _ = c.getD _ at hkey
  generalize c = c' at hkey
  split
  · exact h0.dressingOn _ hkey hrails
  · exact h0.dressingOff _ hkey hrails hcutoff
  · exact h0.map fun _ hv => hv.supplyQuiet (Prod.ext hrails (Prod.ext hcutoff hkey))

end Sys2Proof.Machine
end

section
/-! SUPPORT. Every command keeps the rules: the work it puts off, the requests, the transmitter and the receiver, the resets and the passing
of time, each by what its parts keep. -/

namespace Sys2Proof.Machine

variable {s t : State} {r₀ : Ruled}

theorem Upholds.ite {c : Prop} [Decidable c] {a b : State} (ha : Upholds r₀ a) (hb : Upholds r₀ b) : Upholds r₀ (if c then a else b) := by
  split
  · exact ha
  · exact hb

theorem Upholds.pins (h : Upholds r₀ s) (f : Pins → Pins) : Upholds r₀ (s.modPins f) := h.congr rfl

theorem Upholds.link (h : Upholds r₀ s) (f : ShowLink → ShowLink) : Upholds r₀ (s.modLink f) := h.congr rfl

theorem Upholds.work (h : Upholds r₀ s) (f : Work → Work) : Upholds r₀ (s.modWork f) := h.congr rfl

/-! ## Work put off, carried out -/

theorem Upholds.doTask (h : Upholds r₀ s) (t : Task) : Upholds r₀ (doTask t s) := by
  cases t with
  | claim t => exact h.map fun _ hv => hv.testClaim t
  | complete t => exact h.map fun _ hv => hv.completeGrant t
  | examine => exact h.congr (examineHead_ruled s)
  | expire x => exact h.map fun _ hv => hv.expireSec x
  | gateSeen c st => exact h.map fun _ hv => hv.gateSeen c st
  | run p stage => exact h.map fun _ hv => hv.runStage p stage

theorem Upholds.settleOne (h : Upholds r₀ s) (e : settleOne s = some t) : Upholds r₀ t := by
  unfold Machine.settleOne at e
  split at e <;> cases e
  case h_1 task rest _ _ _ _ _ _ => exact (((h.work _).work _).doTask task).work _
  case h_2 => exact (h.work _).map fun _ hv => hv.runStage _ _
  case h_3 => exact (h.work _).map fun _ hv => hv.offerItem _ _
  case h_4 => exact (h.work _).map fun _ hv => hv.applyTrigger _
  case h_5 => exact h.work _

theorem Upholds.settleN (n : Nat) (h : Upholds r₀ s) : Upholds r₀ (settleN n s) := by
  induction n generalizing s with
  | zero => exact h
  | succ n ih =>
    unfold Machine.settleN
    split
    · next e => exact ih (h.settleOne e)
    · exact h

theorem Upholds.settle (h : Upholds r₀ s) : Upholds r₀ (settle s) := h.settleN _

theorem Upholds.eachSettled {α : Type} {f : α → State → State} (hf : ∀ a s, Upholds r₀ s → Upholds r₀ (f a s)) (l : List α)
    (h : Upholds r₀ s) : Upholds r₀ (eachSettled l f s) := keeps_forEach (f := fun a s => Machine.settle (f a s)) (fun a s hs => (hf a s hs).settle) l h

theorem Upholds.finish (h : Upholds r₀ s) : Upholds r₀ (finish s) :=
  Upholds.settle (.ite (h.settle.congr (pick_ruled _)) h.settle)

/-- Work left over is carried on first (log entry 5). -/
theorem Upholds.perform (h : Upholds r₀ s) {f : State → State} (e : perform f s = .next t) (hf : ∀ s, Upholds r₀ s → Upholds r₀ (f s)) :
    Upholds r₀ t := by
  unfold Machine.perform at e
  dsimp only at e
  split at e
  · cases e; exact hf _ h
  · split at e <;> cases e
    exact hf _ h.settle

/-! ## Requests -/

theorem Upholds.handle (h : Upholds r₀ s) (r : Request) : Upholds r₀ (handle r s).1 := by
  cases hr : Request.acts r with
  | false => exact h.congr (handle_ruled hr s)
  | true =>
    cases r
    case layoutOpen => exact h.map fun _ hv => hv.doLayoutOpen
    case layoutClose => exact h.map fun _ hv => hv.doLayoutClose
    case gateRetry => exact h.map fun _ hv => hv.doGateRetry _
    case trainConfig => exact h.map fun _ hv => hv.doTrainConfig _ _ _ _
    case trainPlace => exact h.map fun _ hv => hv.doTrainPlace _ _
    case trainRemove => exact h.map fun _ hv => hv.doTrainRemove _
    case trainSpeed => exact h.map fun _ hv => hv.doTrainSpeed _ _
    case trainStop => exact h.map fun _ hv => hv.doTrainStop _
    case trainRoute => exact h.map fun _ hv => hv.doTrainRoute _ _ _
    case trainRelease => exact h.map fun _ hv => hv.doTrainRelease _
    case trainDirection => exact h.map fun _ hv => hv.doTrainDirection _
    case trainClearFault => exact h.map fun _ hv => hv.doTrainClearFault _
    case axisConfig => exact h.map fun _ hv => hv.doAxisConfig _ _
    case axisSpeed => exact h.map fun _ hv => hv.doAxisSpeed _ _ _
    case axisStopAt => exact h.map fun _ hv => hv.doAxisStopAt _ _
    case axisMove => exact h.map fun _ hv => hv.doAxisMove _ _
    case axisHome => exact h.map fun _ hv => hv.doAxisHome _
    case axisStop => exact h.map fun _ hv => hv.doAxisStop _
    case playerStart => exact h.map fun _ hv => hv.doPlayerStart _ _ _
    case playerStop => exact h.map fun _ hv => hv.doPlayerStop _
    case playerPause => exact h.map fun _ hv => hv.doPlayerPause _
    case playerResume => exact h.map fun _ hv => hv.doPlayerResume _
    case playerPriority => exact h.map fun _ hv => hv.doPlayerPriority _ _
    case railSet => exact h.doRailSet _
    all_goals cases hr

theorem Upholds.handleBody (h : Upholds r₀ s) (b : Body) : Upholds r₀ (handleBody b s).1 := by
  cases b with
  | request r => exact h.handle r
  | unknownKind => exact h
  | badLength => exact h

theorem Upholds.takeRequests (n : Nat) (h : Upholds r₀ s) : Upholds r₀ (takeRequests n s) := by
  induction n generalizing s with
  | zero => exact h
  | succ n ih =>
    unfold Machine.takeRequests
    split
    · exact h
    · split
      · exact ih (((h.link _).handleBody _).settle.link _)
      · exact h

theorem Upholds.deliver (h : Upholds r₀ s) (f : Frame) : Upholds r₀ (deliver f s) :=
  ((h.congr (placeFrame_ruled f s)).settle.takeRequests _).finish

theorem Upholds.receive (h : Upholds r₀ s) (b : Byte) (gapUs : Nat) : Upholds r₀ (receive b gapUs s) :=
  ((h.congr (acceptByte_ruled b gapUs s)).settle.takeRequests _).finish

/-! ## Resets (R170) -/

/-- After power-on and reset every rule holds, whatever held before. -/
theorem Upholds.start (r₀ : Ruled) (cause : StartCause) (pins : Pins) (pending : List Instr) : Upholds r₀ (State.start cause pins pending) := by
  refine Upholds.congr (s := State.reset) ?_ (ruled_congr rfl rfl rfl rfl (fun _ => rfl) rfl)
  have htrain (t : Fin 8) (run : Bool) : (State.reset.ruled.trains t).Sound run := by
    rw [show State.reset.ruled.trains t = _ from reset_train t]
    exact ⟨⟨by decide, by decide, by decide, .inl rfl⟩, nofun⟩
  refine ⟨State.reset.ruled.mode, rfl, .refl _, fun _ t => htrain t _, fun _ t => htrain t _, fun _ a => ?_, fun _ => ⟨fun a => ?_, nofun⟩,
    fun _ => ⟨fun p => ?_, fun x p hx => ?_⟩, fun _ _ => (heldWf_iff _).mp reset_heldWf⟩
  · rw [show State.reset.ruled.axes a = _ from reset_axis a, Axis.fits_iff]
    decide
  · rw [show State.reset.ruled.axes a = _ from reset_axis a]
    exact ⟨by decide, nofun⟩
  · rw [show State.reset.ruled.players p = _ from congrArg Player.core (reset_player p)]
    exact .empty ⟨nofun, nofun⟩
  · exact absurd ((reset_holder x).symm.trans hx) nofun

theorem Upholds.warmReset (h : Upholds r₀ s) : Upholds r₀ (warmReset s) := by
  have hlight : Upholds r₀ (warmLight (warmCue s)) := (h.map fun _ hv => hv.warmCue).congr (modLight_ruled _ _)
  have haxes : Upholds r₀ (warmAxes (warmTrack (warmTrains (warmLight (warmCue s))))) :=
    hlight.map fun _ hv => hv.warmTrains.warmTrack.warmAxes
  have htrig (s : State) : (warmTrig s).ruled = s.ruled := modTrig_ruled _ s
  exact haxes.congr (htrig _)

theorem Upholds.takeEffect (h : Upholds r₀ s) (scope : Scope) : Upholds r₀ (takeEffect scope s) := by
  cases scope with
  | warm => exact (h.link fun l => { l with resetWaiting := none }).warmReset.settle.link fun l => { l with tx := .idle }
  | cold => exact .start r₀ _ _ _

theorem Upholds.frameEnd (h : Upholds r₀ s) : Upholds r₀ (frameEnd s) := by
  have hafter : Upholds r₀ (afterFrame s) := by
    unfold afterFrame
    split
    · split
      · exact h.link _
      · exact h.link _
      · exact (h.link _).takeEffect _
    · exact h.link _
    · exact h
  have hkick : Upholds r₀ (kick (afterFrame s)) := .ite (hafter.congr (pick_ruled _)) hafter
  exact .ite h (hkick.settle.takeRequests _).finish

/-! ## The passing of time -/

theorem Upholds.lightFrame (h : Upholds r₀ s) : Upholds r₀ (lightFrame s) := h.congr (lightFrame_ruled s)

theorem Upholds.sampleInput (h : Upholds r₀ s) (i : Fin 8) : Upholds r₀ (sampleInput i s) := h.congr (sampleInput_ruled i s)

theorem Upholds.sampleDetector (h : Upholds r₀ s) (x : Fin 48) : Upholds r₀ (sampleDetector x s) := h.map fun _ hv => hv.sampleDetector x

theorem Upholds.updateAxis (h : Upholds r₀ s) (a : Fin 8) : Upholds r₀ (updateAxis a s) := h.map fun _ hv => hv.updateAxis a

theorem Upholds.flushSupply (h : Upholds r₀ s) : Upholds r₀ (flushSupply s) := by
  have h1 := h.programStep.settle
  have h2 : Upholds r₀ (if (Machine.settle (Machine.programStep s)).sched.overload then
      Machine.settle (Machine.sampleOverload (Machine.settle (Machine.programStep s))) else Machine.settle (Machine.programStep s)) := .ite h1.sampleOverload.settle h1
  have h3 := (h2.overloadFinish.settle.congr (quietExpire_ruled _)).settle
  exact .ite h3.sampleKey.settle h3

theorem Upholds.flushInputs (h : Upholds r₀ s) : Upholds r₀ (flushInputs s) :=
  .eachSettled (fun x _ hs => hs.sampleDetector x) _ (.eachSettled (fun i _ hs => hs.sampleInput i) _ h)

theorem Upholds.flushTrack (h : Upholds r₀ s) : Upholds r₀ (flushTrack s) := by
  have hthrow := ((h.congr (pulseFinish_ruled s)).settle.congr (rechargeFinish_ruled _)).settle
  have hsecs := hthrow.eachSettled (fun x _ hs => hs.map fun _ hv => hv.expireSec x) (indices 48)
  have hdelays := hsecs.eachSettled (fun c _ hs => hs.map fun _ hv => hv.openDelayExpire c) (indices 4)
  exact hdelays.eachSettled (fun c _ hs => hs.map fun _ hv => hv.gateTimeoutExpire c) (indices 4)

theorem Upholds.flushMoves (h : Upholds r₀ s) : Upholds r₀ (flushMoves s) :=
  .eachSettled (fun t _ hs => hs.map fun _ hv => hv.rampStep t) _ (.eachSettled (fun a _ hs => hs.updateAxis a) _ h)

theorem Upholds.flushWaits (h : Upholds r₀ s) : Upholds r₀ (flushWaits s) :=
  .eachSettled (fun p _ hs => hs.map fun _ hv => hv.waitTimeOut p) _
    (.eachSettled (fun p _ hs => hs.map fun _ hv => hv.waitExpire p) _ h)

theorem Upholds.flush (h : Upholds r₀ s) : Upholds r₀ (flush s) := by
  have hlight : Upholds r₀ (flushLight (Machine.settle s)) := .ite h.settle.lightFrame.settle h.settle
  exact hlight.flushSupply.flushInputs.flushTrack.flushMoves.flushWaits

theorem Upholds.tick (h : Upholds r₀ s) : Upholds r₀ (tick s) := ((h.map fun _ hv => hv.countMs).congr (advanceClock_ruled _)).finish

theorem Upholds.whenDue (h : Upholds r₀ s) {f : State → State} (hf : Upholds r₀ s → Upholds r₀ (f s)) (due : Bool) :
    Upholds r₀ (whenDue due f s) := .ite (hf h).finish h

theorem Upholds.glideArrivalStep (h : Upholds r₀ s) : Upholds r₀ (glideArrivalStep s) := by
  unfold Machine.glideArrivalStep
  exact .ite h.flush.tick h

theorem Upholds.fadeDoneStep (h : Upholds r₀ s) (g : Fin 32) : Upholds r₀ (fadeDoneStep g s) :=
  .ite h.lightFrame.finish (.ite h.flush.tick h)

theorem Upholds.confirmStep (h : Upholds r₀ s) (c : Confirm) (x : Fin 48) : Upholds r₀ (confirmStep c x s) :=
  .ite ((h.pins _).sampleDetector x).finish h

theorem Upholds.axisOutcome (h : Upholds r₀ s) (input : Bool) (test : UpdateResult → Bool) (a : Fin 8) :
    Upholds r₀ (axisOutcome input test a s) := .ite ((h.pins _).updateAxis a).finish h

theorem Upholds.overloadConfirmStep (h : Upholds r₀ s) (active : Bool) : Upholds r₀ (overloadConfirmStep active s) :=
  .ite (h.pins _).sampleOverload.finish h

/-! ## Every command -/

/-- Every command keeps the rules. The rows of the part's own steps are named; every other command is a request's frame. -/
theorem Upholds.exec (h : Upholds r₀ s) (i : Instr) (e : exec i s = .next t) : Upholds r₀ t := by
  have light (due : State → Bool) (s : State) (hs : Upholds r₀ s) : Upholds r₀ (Machine.whenDue (due s) Machine.lightFrame s) :=
    hs.whenDue (fun hs => hs.lightFrame) _
  cases i
  case powerOn => cases e; exact .start r₀ _ _ _
  case resetPin => cases e; exact .start r₀ _ _ _
  case receiveByte => exact h.perform e (fun _ hs => hs.receive _ _)
  case transmitFrameEnd => exact h.perform e (fun _ hs => hs.frameEnd)
  case realMillisecond => exact h.perform e (fun _ hs => hs.flush.tick)
  case glideArrival => exact h.perform e (fun _ hs => hs.glideArrivalStep)
  case fadeDone => exact h.perform e (keeps_forItem (fun g _ hs => hs.fadeDoneStep g) _)
  case lightFrame => exact h.perform e (light fun s => s.sched.light)
  case blinkPhaseEnd => exact h.perform e (keeps_forItem (fun g => light fun s => s.sched.light && s.endsPhase g) _)
  case sodiumWarmReached => exact h.perform e (keeps_forItem (fun c => light fun s => s.sched.light && s.reachesWarm c) _)
  case sodiumCoolingEnd => exact h.perform e (keeps_forItem (fun c => light fun s => s.sched.light && s.endsCooling c) _)
  case detectorSample =>
    exact h.perform e (fun _ hs => (Upholds.eachSettled (fun x _ hs => hs.sampleDetector x) _ (hs.pins _)).finish)
  case detectorEnter => exact h.perform e (keeps_forItem (fun x _ hs => hs.confirmStep .enter x) _)
  case detectorLeave => exact h.perform e (keeps_forItem (fun x _ hs => hs.confirmStep .leave x) _)
  case clearanceExpiry => exact h.perform e (keeps_forItem (fun x _ hs => hs.whenDue (·.map fun _ hv => hv.expireSec x) _) _)
  case pulseEnd =>
    exact h.perform (f := fun s => Machine.whenDue s.pulseDue Machine.pulseFinish s)
      e (fun _ hs => hs.whenDue (·.congr (pulseFinish_ruled _)) _)
  case rechargeEnd =>
    exact h.perform (f := fun s => Machine.whenDue s.rechargeDue Machine.rechargeFinish s)
      e (fun _ hs => hs.whenDue (·.congr (rechargeFinish_ruled _)) _)
  case openDelayExpiry => exact h.perform e (keeps_forItem (fun c _ hs => hs.whenDue (·.map fun _ hv => hv.openDelayExpire c) _) _)
  case gateTimeoutExpiry => exact h.perform e (keeps_forItem (fun c _ hs => hs.whenDue (·.map fun _ hv => hv.gateTimeoutExpire c) _) _)
  case trainRampStep => exact h.perform e (keeps_forItem (fun k _ hs => hs.whenDue (·.map fun _ hv => hv.rampStep k) _) _)
  case axisUpdate => exact h.perform e (fun _ hs => (Upholds.eachSettled (fun a _ hs => hs.updateAxis a) _ (hs.pins _)).finish)
  case axisArrival => exact h.perform e (keeps_forItem (fun a _ hs => hs.axisOutcome _ _ a) _)
  case speedReached => exact h.perform e (keeps_forItem (fun a _ hs => hs.axisOutcome _ _ a) _)
  case stopModeRest => exact h.perform e (keeps_forItem (fun a _ hs => hs.axisOutcome _ _ a) _)
  case indexConfirm => exact h.perform e (keeps_forItem (fun a _ hs => hs.axisOutcome _ _ a) _)
  case homeConfirm => exact h.perform e (keeps_forItem (fun a _ hs => hs.axisOutcome _ _ a) _)
  case indexMissing => exact h.perform e (keeps_forItem (fun a _ hs => hs.axisOutcome _ _ a) _)
  case homeMissing => exact h.perform e (keeps_forItem (fun a _ hs => hs.axisOutcome _ _ a) _)
  case waitExpiry => exact h.perform e (keeps_forItem (fun p _ hs => hs.whenDue (·.map fun _ hv => hv.waitExpire p) _) _)
  case waitTimeout => exact h.perform e (keeps_forItem (fun p _ hs => hs.whenDue (·.map fun _ hv => hv.waitTimeOut p) _) _)
  case inputSample => exact h.perform e (fun _ hs => (Upholds.eachSettled (fun i _ hs => hs.sampleInput i) _ (hs.pins _)).finish)
  case inputEdge => exact h.perform e (keeps_forItem (f := edgeStep) (fun i _ hs => .ite ((hs.pins _).sampleInput i).finish hs) _)
  case railProgramStep =>
    exact h.perform (f := fun s => Machine.whenDue s.programDue Machine.programStep s) e (fun _ hs => hs.whenDue (·.programStep) _)
  case overloadSample => exact h.perform e (fun _ hs => .ite (hs.pins _).sampleOverload.finish (hs.pins _))
  case overloadOnset => exact h.perform e (fun _ hs => hs.overloadConfirmStep true)
  case overloadClear => exact h.perform e (fun _ hs => hs.overloadConfirmStep false)
  case overloadEnd =>
    exact h.perform (f := fun s => Machine.whenDue (s.supply.endTimer == some 0) Machine.overloadFinish s)
      e (fun _ hs => hs.whenDue (·.overloadFinish) _)
  case quietTimerExpiry =>
    exact h.perform (f := fun s => Machine.whenDue (s.supply.quiet == some 0) Machine.quietExpire s)
      e (fun _ hs => hs.whenDue (·.congr (quietExpire_ruled _)) _)
  case dressingKeySample => exact h.perform e (fun _ hs => .ite (hs.pins _).sampleKey.finish (hs.pins _))
  case dressing => exact h.perform e (fun _ hs => .ite (hs.pins _).sampleKey.finish hs)
  all_goals exact h.perform e (fun _ hs => hs.deliver _)

/-- Every step keeps the rules (log entry 21 for the empty queue). -/
theorem Upholds.step (h : Upholds r₀ s) (e : step s = .next t) : Upholds r₀ t := by
  unfold Machine.step at e
  split at e
  · cases e; exact h
  · next i rest _ => exact Upholds.exec (s := { s with pending := rest }) (h.congr rfl) i e

end Sys2Proof.Machine
end

section
/-! SUPPORT. POINT_THROW (R76): its checks in their order. -/

namespace Sys2Proof.Machine

variable {s : State} {p : Fin 24} {w : Position} {d : PointDef}

/-- The operand of a throw names its position; UNKNOWN is none. -/
theorem positionOf_code (hw : w ≠ .unknown) : positionOf w.code = some w := by
  cases w
  · rfl
  · rfl
  · exact absurd rfl hw

theorem positionOf_beyond {position : Nat} (h : 1 < position) : positionOf position = none := by
  unfold positionOf
  split
  · omega
  · omega
  · rfl

/-- A point lies elsewhere, or a pulse for it is in progress. -/
theorem pointAt_eq (s : State) (p : Fin 24) (w : Position) :
    s.pointAt p w = true ↔ (s.track.points.get p).position = w ∧ s.pulsing p = false := by
  rw [State.pointAt, Bool.and_eq_true, beq_iff_eq, Bool.not_eq_true']

theorem doPointThrow_unread {point position : Nat} (h : 23 < point ∨ 1 < position) (s : State) :
    doPointThrow point position s = (s, refuse .outOfRange) := by
  unfold doPointThrow
  rcases h with h | h
  · rw [fin?_of_le h]
  · rw [positionOf_beyond h]
    cases fin? 24 point <;> rfl

theorem doPointThrow_wrongState (hw : w ≠ .unknown) (h : s.track.config ≠ .operational ∨ s.pointDef p = none) :
    doPointThrow p.1 w.code s = (s, refuse .wrongState) := by
  unfold doPointThrow
  rw [fin?_val, positionOf_code hw]
  dsimp only
  split
  · rfl
  · next hc => rw [h.resolve_left hc]

theorem doPointThrow_inUse (hw : w ≠ .unknown) (hc : s.track.config = .operational) (hd : s.pointDef p = some d)
    (hsec : s.sec d.sec ≠ .free) : doPointThrow p.1 w.code s = (s, refuse .inUse) := by
  unfold doPointThrow
  rw [fin?_val, positionOf_code hw]
  dsimp only
  rw [if_neg (not_not.mpr hc), hd]
  exact if_pos hsec

section
variable (hw : w ≠ .unknown) (hc : s.track.config = .operational) (hd : s.pointDef p = some d) (hsec : s.sec d.sec = .free)
include hw hc hd hsec

/-- A throw that no check refuses: the queue and the point's position decide. -/
theorem doPointThrow_free : doPointThrow p.1 w.code s =
    if s.track.queue.any fun e => e.point == p then
      (s.setQueue (s.track.queue.map fun e => if e.point = p then { e with position := w } else e), taken)
    else if s.pointAt p w then (s.raise (.pointSet p w), okay)
    else (queueThrow { point := p, position := w, origin := .request } s, taken) := by
  rw [doPointThrow, fin?_val, positionOf_code hw]
  dsimp only
  rw [if_neg (not_not.mpr hc), hd]
  exact if_neg (not_not.mpr hsec)

theorem doPointThrow_queued (hq : ∃ e ∈ s.track.queue, e.point = p) : doPointThrow p.1 w.code s =
    (s.setQueue (s.track.queue.map fun e => if e.point = p then { e with position := w } else e), taken) := by
  rw [doPointThrow_free hw hc hd hsec, if_pos (by simpa using hq)]

theorem doPointThrow_inPlace (hq : ∀ e ∈ s.track.queue, e.point ≠ p) (hat : (s.track.points.get p).position = w)
    (hp : s.pulsing p = false) : doPointThrow p.1 w.code s = (s.raise (.pointSet p w), okay) := by
  rw [doPointThrow_free hw hc hd hsec, if_neg (by simpa using hq), if_pos ((pointAt_eq s p w).mpr ⟨hat, hp⟩)]

theorem doPointThrow_thrown (hq : ∀ e ∈ s.track.queue, e.point ≠ p) (hno : (s.track.points.get p).position ≠ w ∨ s.pulsing p = true) :
    doPointThrow p.1 w.code s = (queueThrow { point := p, position := w, origin := .request } s, taken) := by
  have hat : ¬s.pointAt p w = true := fun h => by
    obtain ⟨hpos, hp⟩ := (pointAt_eq s p w).mp h
    exact hno.elim (· hpos) (by simp [hp])
  rw [doPointThrow_free hw hc hd hsec, if_neg (by simpa using hq), if_neg hat]

end

end Sys2Proof.Machine
end

section
/-! SUPPORT. The discharge unit, the crossings and their gate axes (R71, R74, R75, R77 to R79, R117, R118), case by case. -/

namespace Sys2Proof.Machine

variable {s : State}

/-! ## The discharge unit (R74, R75) -/

theorem testServed_origin (o : ThrowOrigin) (s : State) :
    testServed o.serves s = match o with | .grant t _ => s.later (.complete t) | .request => s := by
  cases o <;> rfl

section
variable {e : ThrowEntry} {rest : List ThrowEntry}

theorem examineHead_empty (hq : s.track.queue = []) : examineHead s = s := by simp only [examineHead, hq]

/-- A head whose point lies in place leaves, and completion is tested for the grant it served. -/
theorem examineHead_placed (hq : s.track.queue = e :: rest)
    (hp : (s.track.points.get e.point).position = e.position ∧ s.pulsing e.point = false) :
    examineHead s = (testServed e.origin.serves ((s.setQueue rest).raise (.pointSet e.point e.position))).later .examine := by
  simp only [examineHead, hq, (pointAt_eq s _ _).mpr hp, if_true]

theorem examineHead_thrown (hq : s.track.queue = e :: rest)
    (hp : ¬((s.track.points.get e.point).position = e.position ∧ s.pulsing e.point = false)) (hu : s.track.unit_ = .ready)
    (he : s.engaged = false) : examineHead s = ((s.setQueue rest).setUnit
      (.pulsing e.point e.position (s.track.points.get e.point).pulse e.origin.serves)).later .examine := by
  simp only [examineHead, hq]
  rw [if_neg (mt (pointAt_eq s _ _).mp hp), if_pos ⟨hu, he⟩]

theorem examineHead_waits (hq : s.track.queue = e :: rest)
    (hp : ¬((s.track.points.get e.point).position = e.position ∧ s.pulsing e.point = false))
    (hno : s.track.unit_ ≠ .ready ∨ s.engaged = true) : examineHead s = s := by
  have hfree : ¬(s.track.unit_ = .ready ∧ s.engaged = false) := fun ⟨hu, he⟩ => hno.elim (· hu) fun h => by simp [he] at h
  simp only [examineHead, hq]
  rw [if_neg (mt (pointAt_eq s _ _).mp hp), if_neg hfree]

theorem dropThrows_head (hq : s.track.queue = e :: rest) {drop : ThrowEntry → Bool} (h : drop e = true) :
    dropThrows drop s = (s.setQueue (rest.filter fun x => !drop x)).later .examine := by
  simp [dropThrows_eq, hq, h]

theorem dropThrows_behind (hq : s.track.queue = e :: rest) {drop : ThrowEntry → Bool} (h : drop e = false) :
    dropThrows drop s = s.setQueue (e :: rest.filter fun x => !drop x) := by
  simp [dropThrows_eq, hq, h]

theorem dropThrows_empty (hq : s.track.queue = []) (drop : ThrowEntry → Bool) : dropThrows drop s = s := by
  rw [dropThrows_eq, if_neg (by simp [hq]), hq]
  exact congrArg (fun q => s.setQueue q) hq.symm

end

theorem exec_pulseEnd (hw : s.work.isClear = true) : exec .pulseEnd s = .next (whenDue s.pulseDue pulseFinish s) :=
  perform_clear hw fun s => whenDue s.pulseDue pulseFinish s

theorem exec_pulseEnd_due (hw : s.work.isClear = true) {p : Fin 24} {w : Position} {serves : Option (Fin 8)}
    (hu : s.track.unit_ = .pulsing p w 0 serves) : exec .pulseEnd s = .next (finish ((testServed serves
      (((s.modPoint p fun r => { r with position := w }).setUnit (.recharging s.track.recharge)).raise (.pointSet p w))).later .examine)) := by
  have hdue : s.pulseDue = true := by simp only [State.pulseDue, hu]
  have hfinish : pulseFinish s = (testServed serves (((s.modPoint p fun r => { r with position := w }).setUnit
      (.recharging s.track.recharge)).raise (.pointSet p w))).later .examine := by simp only [pulseFinish, hu]
  rw [exec_pulseEnd hw, whenDue, hdue, hfinish]
  rfl

theorem exec_pulseEnd_running (hw : s.work.isClear = true) (hu : ∀ p w serves, s.track.unit_ ≠ .pulsing p w 0 serves) :
    exec .pulseEnd s = .next s := by
  have hdue : ¬s.pulseDue = true := by
    unfold State.pulseDue
    split
    · next h => exact absurd h (hu _ _ _)
    · simp
  rw [exec_pulseEnd hw, whenDue, if_neg hdue]

theorem exec_rechargeEnd (hw : s.work.isClear = true) : exec .rechargeEnd s = .next (whenDue s.rechargeDue rechargeFinish s) :=
  perform_clear hw fun s => whenDue s.rechargeDue rechargeFinish s

theorem exec_rechargeEnd_due (hw : s.work.isClear = true) (hu : s.track.unit_ = .recharging 0) :
    exec .rechargeEnd s = .next (finish ((s.setUnit .ready).later .examine)) := by
  have hfinish : rechargeFinish s = (s.setUnit .ready).later .examine := by simp only [rechargeFinish, hu]
  rw [exec_rechargeEnd hw, ← hfinish]
  exact congrArg _ (if_pos (beq_iff_eq.mpr hu))

theorem exec_rechargeEnd_running (hw : s.work.isClear = true) (hu : s.track.unit_ ≠ .recharging 0) : exec .rechargeEnd s = .next s :=
  (exec_rechargeEnd hw).trans (congrArg _ (if_neg (beq_iff_eq.not.mpr hu)))

/-! ## The select and fire lines (R75) -/

theorem fireLine_pulsing {q : Fin 24} {w : Position} {ms : Nat} {serves : Option (Fin 8)} (hu : s.track.unit_ = .pulsing q w ms serves) :
    s.fireLine = true ↔ w = .reverse := by
  simp only [State.fireLine, hu, beq_iff_eq]

theorem fireLine_idle (hu : ∀ q w ms serves, s.track.unit_ ≠ .pulsing q w ms serves) : s.fireLine = false := by
  unfold State.fireLine
  split
  · next h => exact absurd h (hu _ _ _ _)
  · rfl

/-! ## The crossings (R77, R79) -/

theorem SecState.demandsClose_iff (st : SecState) : st.demandsClose = true ↔
    st = .stray ∨ ∃ t, st = .pending t ∨ st = .reserved t ∨ st = .occupied t := by
  cases st <;> simp [SecState.demandsClose]

section
variable {c : Fin 4} {d : CrossingDef} {k : Coupling} (hd : (s.track.crossings.get c).defn = some d) (hk : s.track.couplings.get c = some k)
include hd hk

/-- A crossing in service works its demand out again. -/
theorem redemand_eq : redemand c s = if demandOf s d.members = k.demand then s
    else if s.engaged then s.setCoupling c (some { k with demand := demandOf s d.members })
    else actOnDemand c d { k with demand := demandOf s d.members } s := by
  simp only [redemand, hd, hk]

theorem redemand_close (hw : demandOf s d.members = .close) (ho : k.demand = .open_) (he : s.engaged = false) : redemand c s =
    if k.last = some .close then s.setCoupling c (some { k with demand := .close, openDelay := none })
    else commandClose c d { k with demand := .close, openDelay := none } s := by
  rw [redemand_eq hd hk, hw, ho, if_neg nofun, he]
  rfl

theorem redemand_open (hw : demandOf s d.members = .open_) (ho : k.demand = .close) (he : s.engaged = false) :
    redemand c s = startOpenDelay c d { k with demand := .open_ } s := by
  rw [redemand_eq hd hk, hw, ho, if_neg nofun, he]
  rfl

omit hd in
theorem suspendCrossing_running {ms : Nat} (ht : k.timeout = .running ms) :
    suspendCrossing c s = s.setCoupling c (some { k with openDelay := none, retry := false, timeout := .suspended ms }) := by
  simp only [suspendCrossing, hk, ht]

omit hd in
theorem suspendCrossing_still (ht : ∀ ms, k.timeout ≠ .running ms) :
    suspendCrossing c s = s.setCoupling c (some { k with openDelay := none, retry := false }) := by
  have hsame : (match k.timeout with | .running ms => .suspended ms | t => t) = k.timeout := by
    split
    · next ms h => exact absurd h (ht ms)
    · rfl
  rw [suspendCrossing, hk]
  exact congrArg (fun t => s.setCoupling c (some { k with openDelay := none, retry := false, timeout := t })) hsame

theorem recommandCrossing_close (ho : k.demand = .close) : recommandCrossing c s = commandClose c d k s := by
  simp only [recommandCrossing, hd, hk, ho]

theorem recommandCrossing_open (ho : k.demand = .open_) {left : GateTimer}
    (hl : (left = k.timeout ∧ ∀ ms, k.timeout ≠ .suspended ms) ∨ (left = .absent ∧ ∃ ms, k.timeout = .suspended ms)) :
    recommandCrossing c s = startOpenDelay c d { k with last := none, timeout := left } s := by
  have hleft : (match k.timeout with | .suspended _ => .absent | t => t) = left := by
    rcases hl with ⟨rfl, hno⟩ | ⟨rfl, ms, hms⟩
    · split
      · next ms h => exact absurd h (hno ms)
      · rfl
    · simp only [hms]
  simp only [recommandCrossing, hd, hk, ho]
  exact congrArg (fun t => startOpenDelay c d { k with demand := .open_, last := none, timeout := t } s) hleft

theorem exec_openDelayExpiry_due (hw : s.work.isClear = true) (ho : k.openDelay = some 0) :
    exec (.openDelayExpiry c.1) s = .next (finish (openNow c d k s)) := by
  have hdue : s.openDelayDue c = true := by simp [State.openDelayDue, hk, ho]
  have hexpire : openDelayExpire c s = openNow c d k s := by simp only [openDelayExpire, hd, hk, ho, if_true]
  rw [← hexpire]
  exact (perform_clear hw _).trans (congrArg _ ((forItem_val c _ s).trans (if_pos hdue)))

theorem exec_gateTimeoutExpiry_due (hw : s.work.isClear = true) (ht : k.timeout = .running 0) : exec (.gateTimeoutExpiry c.1) s =
    .next (finish (faultAxis d.axis .gateTimeout (s.setCoupling c (some { k with timeout := .absent, retry := false })))) := by
  have hdue : s.gateTimeoutDue c = true := by simp [State.gateTimeoutDue, hk, ht]
  have hexpire : gateTimeoutExpire c s =
      faultAxis d.axis .gateTimeout (s.setCoupling c (some { k with timeout := .absent, retry := false })) := by
    simp only [gateTimeoutExpire, hd, hk, ht, if_true]
  rw [← hexpire]
  exact (perform_clear hw _).trans (congrArg _ ((forItem_val c _ s).trans (if_pos hdue)))

omit hd in
theorem exec_openDelayExpiry_running (hw : s.work.isClear = true) (ho : k.openDelay ≠ some 0) :
    exec (.openDelayExpiry c.1) s = .next s := by
  have hdue : ¬s.openDelayDue c = true := by simp [State.openDelayDue, hk, ho]
  exact (perform_clear hw _).trans (congrArg _ ((forItem_val c _ s).trans (if_neg hdue)))

omit hd in
theorem exec_gateTimeoutExpiry_running (hw : s.work.isClear = true) (ht : k.timeout ≠ .running 0) :
    exec (.gateTimeoutExpiry c.1) s = .next s := by
  have hdue : ¬s.gateTimeoutDue c = true := by simp [State.gateTimeoutDue, hk, ht]
  exact (perform_clear hw _).trans (congrArg _ ((forItem_val c _ s).trans (if_neg hdue)))

/-! ## GATE_STATE CLOSED and GATE_RETRY (R71, R78) -/

/-- A coupling record after GATE_STATE CLOSED: a running timeout and a retry have ended (R78). -/
def Coupling.passed (k : Coupling) : Coupling :=
  { k with timeout := (match k.timeout with | .running _ => .absent | t => t), retry := false }

/-- A crossing seen CLOSED: the grants pending there are put up for their test (R71). -/
def seenClosed (c : Fin 4) (k : Coupling) (s : State) : State :=
  forEach (trainsPendingAt s c) (fun t => State.later (.complete t)) (s.setCoupling c (some k.passed))

theorem gateSeen_closed : gateSeen c .closed s =
    if k.retry = true ∧ k.demand = .open_ ∧ s.engaged = false then startOpenDelay c d k.passed (seenClosed c k s) else seenClosed c k s := by
  simp only [gateSeen, hd, hk]
  rfl

omit hd hk in
/-- Tests put up leave the crossings and the axes alone. -/
theorem seenClosed_keeps : (seenClosed c k s).track.crossings = s.track.crossings ∧ (seenClosed c k s).axes = s.axes :=
  keeps_forEach (P := fun u => u.track.crossings = s.track.crossings ∧ u.axes = s.axes) (f := fun t => State.later (.complete t))
    (fun _ _ hu => hu) _ ⟨rfl, rfl⟩

theorem gateSeen_passed (hr : ¬(k.retry = true ∧ k.demand = .open_ ∧ s.engaged = false)) : gateSeen c .closed s = seenClosed c k s := by
  rw [gateSeen_closed hd hk, if_neg hr]

/-- The open delay after a retry. -/
theorem gateSeen_delayed (hr : k.retry = true ∧ k.demand = .open_ ∧ s.engaged = false) (hn : 0 < (s.track.crossings.get c).openDelay) :
    gateSeen c .closed s =
      (seenClosed c k s).setCoupling c (some { k.passed with openDelay := some (s.track.crossings.get c).openDelay }) := by
  rw [gateSeen_closed hd hk, if_pos hr, startOpenDelay, seenClosed_keeps.1]
  exact if_neg hn.ne'

/-- A delay of 0 after a retry ends at once (log entry 35). -/
theorem gateSeen_opens (hr : k.retry = true ∧ k.demand = .open_ ∧ s.engaged = false) (hn : (s.track.crossings.get c).openDelay = 0) :
    gateSeen c .closed s =
      if (s.axes.get d.axis).gateState = .unknown then (seenClosed c k s).setCoupling c (some { k.passed with openDelay := none })
      else gateCommand d.axis .open_ ((seenClosed c k s).setCoupling c (some
        { k.passed with openDelay := none, last := some .open_, timeout := .absent })) := by
  rw [gateSeen_closed hd hk, if_pos hr, startOpenDelay, seenClosed_keeps.1, ← seenClosed_keeps.2]
  exact if_pos hn

omit hd hk in
theorem gateSeen_other {st : GateState} (h : st ≠ .closed) : gateSeen c st s = s := by
  unfold gateSeen
  split
  · exact if_neg h
  · rfl

omit hd hk in
theorem trainsPendingAt_eq (s : State) (c : Fin 4) : trainsPendingAt s c = (indices 8).filter fun t =>
    (s.heldOf t).any fun e => s.sec e.1 == .pending t && (s.track.defs.get e.1).crossing == some c := by
  refine List.filter_congr fun t _ => ?_
  rw [State.pendingOf, List.any_filter, List.any_map]
  rfl

end

/-- GATE_RETRY refused before its crossing is looked at, or for want of a crossing in service (R78). -/
theorem doGateRetry_beyond {n : Nat} (h : 3 < n) (s : State) : doGateRetry n s = (s, refuse .outOfRange) := by
  rw [doGateRetry, fin?_of_le h]

theorem doGateRetry_wrongState {c : Fin 4} (h : s.track.config ≠ .operational ∨ (s.track.crossings.get c).defn = none ∨
    s.track.couplings.get c = none) : doGateRetry c.1 s = (s, refuse .wrongState) := by
  rw [doGateRetry, fin?_val]
  dsimp only
  split
  · rfl
  · next hc =>
    split
    · next hd hk => exact absurd (h.resolve_left hc) (by simp [hd, hk])
    · rfl

section
variable {c : Fin 4} {d : CrossingDef} {k : Coupling} (hd : (s.track.crossings.get c).defn = some d) (hk : s.track.couplings.get c = some k)
  (hc : s.track.config = .operational)
include hd hk hc

theorem doGateRetry_interlocked (he : s.engaged = true) : doGateRetry c.1 s = (s, refuse .interlocked) := by
  simp only [doGateRetry, fin?_val, hc, hd, hk, he]
  rfl

theorem doGateRetry_taken (he : s.engaged = false) : doGateRetry c.1 s = (retryGate d.axis (s.setCoupling c (some
    { k with last := some .close, timeout := .running (s.track.crossings.get c).gateTimeout, openDelay := none, retry := true })), taken) := by
  simp only [doGateRetry, fin?_val, hc, hd, hk, he]
  rfl

end

/-! ## The gate axis (R117, R118) -/

theorem syncGate_same {a : Fin 8} (h : (s.axes.get a).gateState = (s.axes.get a).reported) : syncGate a s = s := if_pos h

theorem syncGate_other {a : Fin 8} (h : (s.axes.get a).gateState ≠ (s.axes.get a).reported) (hk : (s.axes.get a).kind ≠ .gate) :
    syncGate a s = s.modAxis a fun x => { x with reported := x.gateState } := (if_neg h).trans (if_neg hk)

/-- GATE_STATE for each crossing of the axis, in order. -/
theorem syncGate_changed {a : Fin 8} (h : (s.axes.get a).gateState ≠ (s.axes.get a).reported) (hk : (s.axes.get a).kind = .gate)
    {l : List (Fin 4)} (hasc : l.Pairwise (· < ·)) (hmem : ∀ c, c ∈ l ↔ s.gateAxisOf c a) : syncGate a s =
      forEach l (fun c u => (u.raise (.gateState c (s.axes.get a).gateState)).later (.gateSeen c (s.axes.get a).gateState))
        (s.modAxis a fun x => { x with reported := x.gateState }) := by
  have hl : s.crossingsOf a = l :=
    List.Pairwise.eq_of_mem_iff ((indices_ascending 4).filter _) hasc fun c => mem_crossingsOf.trans (hmem c).symm
  rw [← hl]
  exact (if_neg h).trans (if_pos hk)

theorem faultAxis_fault {a : Fin 8} (h : (s.axes.get a).state = .fault) (code : AxisFaultCode) : faultAxis a code s = s := if_pos h

theorem faultAxis_new {a : Fin 8} (h : (s.axes.get a).state ≠ .fault) (code : AxisFaultCode) :
    faultAxis a code s = syncGate a ((s.modAxis a (Axis.enterFault code)).raise (.axisFault a code)) := if_neg h

section
variable {x : Axis}

/-- Entering HOMING, with the direction and the phase as their conditions give them (R114). -/
theorem Axis.enterHoming_eq (x : Axis) : x.enterHoming = { x with
    state := .homing, homed := false, fault := none, homeRun := 0, homeTravel := 0, motion := .home, met := false
    dir := if x.v = 0 then x.homeDir else x.dir, phase := if x.v = 0 ∨ x.dir = x.homeDir then .cruise else .reversing } := by
  unfold Axis.enterHoming
  dsimp only
  split
  · next hv => simp [hv]
  · next hv =>
    split
    · next hd => simp [hv, hd]
    · next hd => simp [hv, hd]

section
variable (hk : x.kind = .gate) (hf : x.state ≠ .fault)
include hk hf

/-- A command that a gate axis takes: its goal, and what its state makes of it (R117). -/
theorem Axis.command_gate (up : Bool) (w : GateWish) : x.command up w =
    if x.state = .held ∨ up = false then { x with goal := w.goal }
    else if x.state = .homing then { x with goal := w.goal }
    else if x.homed = false then { x with goal := w.goal }.enterHoming
    else if x.state = .idle ∧ x.pos = x.wishPos w then { x with goal := w.goal }
    else { x with goal := w.goal }.retarget (x.wishPos w) :=
  if_neg fun h => h.elim (· hk) hf

theorem Axis.command_kept {up : Bool} (h : x.state = .held ∨ up = false ∨ x.state = .homing) (w : GateWish) :
    x.command up w = { x with goal := w.goal } := by
  rw [Axis.command_gate hk hf]
  split
  · rfl
  · next hno => rw [if_pos (by tauto)]

theorem Axis.command_homes {up : Bool} (hu : up = true) (hheld : x.state ≠ .held) (hhoming : x.state ≠ .homing) (hh : x.homed = false) (w : GateWish) :
    x.command up w = { x with goal := w.goal }.enterHoming := by
  rw [Axis.command_gate hk hf, if_neg (by simp [hheld, hu]), if_neg hhoming, if_pos hh]

theorem Axis.command_there {up : Bool} (hu : up = true) (hh : x.homed = true) (hi : x.state = .idle) {w : GateWish} (hp : x.pos = x.wishPos w) :
    x.command up w = { x with goal := w.goal } := by
  rw [Axis.command_gate hk hf, if_neg (by simp [hi, hu]), if_neg (by simp [hi]), if_neg (by simp [hh]), if_pos ⟨hi, hp⟩]

theorem Axis.command_travels {up : Bool} (hu : up = true) (hh : x.homed = true) {w : GateWish} (h : x.state = .moving ∨ (x.state = .idle ∧ x.pos ≠ x.wishPos w)) :
    x.command up w = { x with goal := w.goal }.retarget (x.wishPos w) := by
  rw [Axis.command_gate hk hf, if_neg (by rcases h with h | h <;> simp [h, hu]), if_neg (by rcases h with h | h <;> simp [h]),
    if_neg (by simp [hh]), if_neg fun hno => by rcases h with h | h <;> simp_all]

end

theorem Axis.command_none (h : x.kind ≠ .gate ∨ x.state = .fault) (up : Bool) (w : GateWish) : x.command up w = x := if_pos h

theorem Axis.gateState_unknown_iff (x : Axis) : x.gateState = .unknown ↔ x.kind ≠ .gate ∨ x.homed = false := by
  unfold Axis.gateState
  (repeat' split) <;> simp_all

section
variable (hk : x.kind = .gate) (hh : x.homed = true) (hne : x.openPos ≠ x.closedPos)
include hk hh

/-- The gate state of a homed gate (R118). -/
theorem Axis.gateState_gate : x.gateState =
    if x.state = .idle ∧ x.pos = x.openPos then .open_
    else if x.state = .idle ∧ x.pos = x.closedPos then .closed
    else if x.state = .moving ∧ x.motion = .position x.closedPos then .closing
    else .opening := if_neg (by simp [hk, hh])

theorem Axis.gateState_open_iff : x.gateState = .open_ ↔ x.state = .idle ∧ x.pos = x.openPos := by
  rw [Axis.gateState_gate hk hh]
  (repeat' split) <;> simp_all

include hne in
theorem Axis.gateState_closed_iff : x.gateState = .closed ↔ x.state = .idle ∧ x.pos = x.closedPos := by
  rw [Axis.gateState_gate hk hh]
  split
  · next h => exact iff_of_false nofun fun ⟨_, hp⟩ => hne (h.2.symm.trans hp)
  · (repeat' split) <;> simp_all

theorem Axis.gateState_closing_iff : x.gateState = .closing ↔ x.state = .moving ∧ x.motion = .position x.closedPos := by
  rw [Axis.gateState_gate hk hh]
  (repeat' split) <;> simp_all

end
end

end Sys2Proof.Machine
end

section
/-! SUPPORT. The dressing key (R161), and what the interlock makes of each axis (R120). -/

namespace Sys2Proof.Machine

variable {s u : State}

theorem State.modSupply_congr {f g : Supply → Supply} (h : f s.supply = g s.supply) : s.modSupply f = s.modSupply g := by
  simp only [State.modSupply, h]

/-! ## A sample of the key (R161) -/

theorem sampleKey_same (h : s.pins.key = s.supply.keyOn) :
    sampleKey s = (s.modSched fun d => { d with key := false }).modSupply fun k => { k with keyRun := 0 } := by
  have hconfirm : s.supply.keyConfirms s.pins.key = none := if_pos h
  simp only [sampleKey, hconfirm]
  exact State.modSupply_congr (if_pos h)

theorem sampleKey_counts (h : s.pins.key ≠ s.supply.keyOn) (hn : s.supply.keyRun + 1 < 50) :
    sampleKey s = (s.modSched fun d => { d with key := false }).modSupply fun k => { k with keyRun := k.keyRun + 1 } := by
  have hfew : ¬Config.keySamples ≤ s.supply.keyRun + 1 := Nat.not_le.mpr hn
  have hconfirm : s.supply.keyConfirms s.pins.key = none := (if_neg h).trans (if_neg hfew)
  simp only [sampleKey, hconfirm]
  exact State.modSupply_congr ((if_neg h).trans (if_neg hfew))

/-- The state in which the interlock follows a confirmation of the key's other state. -/
def State.turned (s : State) : State :=
  ((s.modPins fun p => { p with key := !s.supply.keyOn }).modSched fun d => { d with key := false }).modSupply
    fun k => { k with keyOn := !k.keyOn, keyRun := 0 }

theorem keyConfirms_other {k : Supply} (hn : 50 ≤ k.keyRun + 1) : k.keyConfirms (!k.keyOn) = some (!k.keyOn) :=
  (if_neg (by simp)).trans (if_pos hn)

/-- The fiftieth sample of the other state is confirmed. -/
theorem sampleKey_confirms (hn : 50 ≤ s.supply.keyRun + 1) : sampleKey (s.modPins fun p => { p with key := !s.supply.keyOn }) =
    if s.supply.keyOn then dressingOff s.turned else dressingOn s.turned := by
  have hturned : ((s.modPins fun p => { p with key := !s.supply.keyOn }).modSched fun d => { d with key := false }).modSupply
      (Supply.sampleKey (!s.supply.keyOn)) = s.turned :=
    State.modSupply_congr ((if_neg (by simp)).trans (if_pos hn))
  simp only [sampleKey, State.modPins_supply, State.modPins_pins, keyConfirms_other hn, hturned]
  cases s.supply.keyOn <;> rfl

theorem exec_keySample (hw : s.work.isClear = true) (on : Bool) : exec (.dressingKeySample on) s = .next (keyStep on s) := perform_clear hw _

theorem exec_dressing (hw : s.work.isClear = true) : exec .dressing s = .next (dressingStep s) := perform_clear hw _

theorem keyStep_due (hd : s.sched.key = true) (on : Bool) : keyStep on s = finish (sampleKey (s.modPins fun p => { p with key := on })) := if_pos hd

theorem keyStep_taken (hd : s.sched.key = false) (on : Bool) : keyStep on s = s.modPins fun p => { p with key := on } := if_neg (by simpa using hd)

theorem dressingStep_due (hd : s.sched.key = true) (hn : 50 ≤ s.supply.keyRun + 1) :
    dressingStep s = finish (sampleKey (s.modPins fun p => { p with key := !s.supply.keyOn })) :=
  if_pos (by rw [hd, keyConfirms_other hn]; simp)

theorem dressingStep_none (h : s.sched.key = false ∨ s.supply.keyRun + 1 < 50) : dressingStep s = s := by
  refine if_neg ?_
  rcases h with h | h
  · simp [h]
  · have hconfirm : s.supply.keyConfirms (!s.supply.keyOn) = none := (if_neg (by simp)).trans (if_neg (Nat.not_le.mpr h))
    simp [hconfirm]

/-! ## The gate state reported at every axis (R118) -/

/-- An axis whose gate state has been reported. -/
def Axis.shown (x : Axis) : Axis := { x with reported := x.gateState }

theorem syncGate_axis (a b : Fin 8) (s : State) : (syncGate a s).axes.get b = if b = a then (s.axes.get b).shown else s.axes.get b := by
  have hshown : (s.modAxis a fun x => { x with reported := x.gateState }).axes.get b =
      if b = a then (s.axes.get b).shown else s.axes.get b := Table.get_modify _ a b _
  by_cases h : (s.axes.get a).gateState = (s.axes.get a).reported
  · rw [syncGate_same h]
    split
    · next e => subst e; rw [Axis.shown, h]
    · rfl
  · rw [← hshown]
    by_cases hk : (s.axes.get a).kind = .gate
    · rw [syncGate_changed h hk ((indices_ascending 4).filter _) fun _ => mem_crossingsOf]
      exact keeps_forEach (P := fun u => u.axes.get b = (s.modAxis a fun x => { x with reported := x.gateState }).axes.get b)
        (fun _ _ hu => by rw [State.later_axes, State.raise_axes]; exact hu) _ rfl
    · rw [syncGate_other h hk]

/-- Every gate state reported. -/
theorem syncGates_axis (a : Fin 8) (s : State) : (forEach (indices 8) syncGate s).axes.get a = (s.axes.get a).shown := by
  have hshown {b : Fin 8} {u : State} (hu : u.axes.get b = s.axes.get b ∨ u.axes.get b = (s.axes.get b).shown) :
      (u.axes.get b).shown = (s.axes.get b).shown := by
    rcases hu with hu | hu <;> rw [hu]
    rfl
  refine forEach_indices (I := fun u => ∀ b, u.axes.get b = s.axes.get b ∨ u.axes.get b = (s.axes.get b).shown)
    (P := fun b u => u.axes.get b = (s.axes.get b).shown) (fun i u hu b => ?_) (fun i u hu => ?_) (fun i b u hu hb => ?_)
    (fun _ => .inl rfl) a
  · rw [syncGate_axis]
    split
    · exact .inr (hshown (hu b))
    · exact hu b
  · rw [syncGate_axis, if_pos rfl]
    exact hshown (hu i)
  · rw [syncGate_axis]
    split
    · exact hshown (hu b)
    · exact hb

theorem stopAxes_axis (f : Axis → Axis) (ended : List (Fin 8)) (a : Fin 8) (s : State) :
    (stopAxes f ended s).axes.get a = (f (s.axes.get a)).shown := by
  have hends : (forEach ended (fun a => State.handEnding (.axis a)) (s.modAxes f)).axes.get a = f (s.axes.get a) :=
    keeps_forEach (P := fun u => u.axes.get a = f (s.axes.get a)) (f := fun a => State.handEnding (.axis a)) (fun _ _ hu => hu) _
      (Table.get_map _ _ a)
  rw [stopAxes, syncGates_axis, hends]

/-! ## The axes at DRESSING(on) (R120) -/

theorem holdAxes_axis (a : Fin 8) (s : State) : (holdAxes s).axes.get a = (s.axes.get a).hold.shown := stopAxes_axis _ _ a s

/-- What one round of a loop brings about, and no other undoes, holds after the loop. -/
theorem forEach_of_mem {α : Type} {P : State → Prop} {f : α → State → State} {a : α} (own : ∀ u, P (f a u))
    (others : ∀ b u, P u → P (f b u)) {l : List α} (ha : a ∈ l) (s : State) : P (forEach l f s) := by
  induction l generalizing s with
  | nil => cases ha
  | cons b l ih =>
    rcases List.mem_cons.mp ha with rfl | ha
    · exact keeps_forEach others l (own s)
    · exact ih ha (f b s)

/-- An item held for the players stays held through what a change of the axes reports. -/
theorem syncStable_held (x : Nat × CueItem) : SyncStable fun u => x ∈ u.work.held where
  report _ h := h
  gate _ _ h := State.raise_keeps (P := fun u => x ∈ u.work.held) (fun _ _ h => h) (fun _ _ _ h => List.mem_append_left _ h) h
  later _ h := h

/-- Each ending handed over is held for the players. -/
theorem handEndings_held {a : Fin 8} {l : List (Fin 8)} (ha : a ∈ l) (s : State) :
    ∃ n, (n, .ending (.axis a)) ∈ (forEach l (fun a => State.handEnding (.axis a)) s).work.held := by
  refine forEach_of_mem (P := fun u => ∃ n, (n, CueItem.ending (.axis a)) ∈ u.work.held) (fun u => ?_) (fun b u hu => ?_) ha s
  · exact ⟨u.work.arrival, List.mem_append_right _ (List.mem_singleton_self _)⟩
  · obtain ⟨n, hn⟩ := hu
    exact ⟨n, List.mem_append_left _ hn⟩

theorem mem_axesUnderWay {a : Fin 8} : a ∈ s.axesUnderWay ↔ (s.axes.get a).state = .moving ∨ (s.axes.get a).state = .homing := by
  rw [State.axesUnderWay, List.mem_filter, Axis.underWay, Bool.or_eq_true, beq_iff_eq, beq_iff_eq]
  exact and_iff_right (mem_indices a)

/-- Every axis is changed, the endings are handed over, and each changed gate state is reported. -/
theorem SyncStable.syncAll {P : State → Prop} (h : SyncStable P) {f : Axis → Axis} {ended : List (Fin 8)}
    (hs : P (Machine.forEach ended (fun a => State.handEnding (.axis a)) (s.modAxes f))) : P (Machine.stopAxes f ended s) :=
  keeps_forEach (fun a _ hs => h.syncGate a hs) _ hs

/-- Each axis under way ends at DRESSING(on). -/
theorem holdAxes_ending {a : Fin 8} (h : (s.axes.get a).state = .moving ∨ (s.axes.get a).state = .homing) :
    ∃ n, (n, .ending (.axis a)) ∈ (holdAxes s).work.held := by
  obtain ⟨n, hn⟩ := handEndings_held (mem_axesUnderWay.mpr h) (s.modAxes Axis.hold)
  rw [holdAxes]
  exact ⟨n, (syncStable_held (n, .ending (.axis a))).syncAll hn⟩

/-! ## The axes at DRESSING(off) (R120) -/

/-- A gate axis after its kept goal has been carried out, by its state with the gate state reported. -/
def Axis.carried (up : Bool) (x : Axis) : Axis :=
  match x.goal with
  | .none => x
  | .open_ => (x.command up .open_).shown
  | .closed => (x.command up .close).shown

theorem gateCommand_axis (a b : Fin 8) (w : GateWish) (s : State) : (gateCommand a w s).axes.get b =
    if b = a then ((s.axes.get b).command s.supply.rails.motion w).shown else s.axes.get b := by
  rw [gateCommand, syncGate_axis, State.modAxis_axes, Table.get_modify]
  split <;> rfl

theorem syncStable_supply (k : Supply) : SyncStable fun u => u.supply = k where
  report _ h := h
  gate _ _ h := by rw [State.raise_supply]; exact h
  later _ h := h

theorem carryGoal_supply (a : Fin 8) (s : State) : (carryGoal a s).supply = s.supply := by
  unfold carryGoal
  split
  · rfl
  all_goals exact (syncStable_supply s.supply).syncGate a rfl

theorem carryGoal_axis (a b : Fin 8) (s : State) :
    (carryGoal a s).axes.get b = if b = a then (s.axes.get b).carried s.supply.rails.motion else s.axes.get b := by
  unfold carryGoal
  split
  · next h =>
    split
    · next e => subst e; simp only [Axis.carried, h]
    · rfl
  all_goals
    next h =>
      rw [gateCommand_axis]
      split
      · next e => subst e; simp only [Axis.carried, h]
      · rfl

theorem carryGoals_axis {l : List (Fin 8)} (hl : l.Nodup) (a : Fin 8) (s : State) : (forEach l carryGoal s).axes.get a =
    if a ∈ l then (s.axes.get a).carried s.supply.rails.motion else s.axes.get a := by
  induction l generalizing s with
  | nil => rfl
  | cons b l ih =>
    obtain ⟨hb, hl⟩ := List.nodup_cons.mp hl
    rw [forEach, List.foldl_cons, ← forEach, ih hl, carryGoal_axis, carryGoal_supply]
    by_cases e : a = b
    · subst e; simp [hb]
    · simp [e]

/-- Which axes carry a goal out at DRESSING(off). -/
theorem releaseAxes_axis (a : Fin 8) (s : State) : (releaseAxes s).axes.get a =
    if s.supply.rails.motion = true ∧ (s.axes.get a).kind = .gate ∧ (s.axes.get a).state = .held then
      (s.axes.get a).unhold.shown.carried true
    else (s.axes.get a).unhold.shown := by
  have hsupply : (stopAxes Axis.unhold [] s).supply = s.supply := (syncStable_supply s.supply).stopAxes rfl
  unfold releaseAxes
  dsimp only
  split
  · next hm =>
    have hnodup : (indices 8).Nodup := List.nodup_finRange 8
    rw [carryGoals_axis (hnodup.filter _), hsupply, hm, stopAxes_axis]
    simp
  · next hm => rw [if_neg (by simp [hm]), stopAxes_axis]

theorem Axis.unhold_goal {x : Axis} (hs : x.state = .held) : x.unhold.goal = if x.fault.isSome then .none else x.goal := by
  rw [Axis.unhold, if_pos hs]
  split <;> rfl

theorem Axis.carried_none {x : Axis} (h : x.goal = .none) (up : Bool) : x.carried up = x := by simp only [Axis.carried, h]

theorem Axis.carried_open {x : Axis} (h : x.goal = .open_) (up : Bool) : x.carried up = (x.command up .open_).shown := by
  simp only [Axis.carried, h]

theorem Axis.carried_closed {x : Axis} (h : x.goal = .closed) (up : Bool) : x.carried up = (x.command up .close).shown := by
  simp only [Axis.carried, h]

/-- An axis that leaves HELD without a fault keeps its goal. -/
theorem Axis.unhold_goal_kept {x : Axis} (hs : x.state = .held) (hf : x.fault = none) : x.unhold.shown.goal = x.goal := by
  change x.unhold.goal = x.goal
  rw [Axis.unhold_goal hs, hf]
  rfl

/-- One that leaves it for FAULT has none (log entry 28). -/
theorem Axis.unhold_goal_dropped {x : Axis} (hs : x.state = .held) (h : x.fault = none → x.goal = .none) : x.unhold.shown.goal = .none := by
  change x.unhold.goal = .none
  rw [Axis.unhold_goal hs]
  split
  · rfl
  · next hf => exact h (by simpa using hf)

end Sys2Proof.Machine
end

section
/-! SUPPORT. The statements of the family settled: each by its lemmas above. -/

namespace Sys2Proof.Sections

open Sys2Proof.Machine

/-- Settles O60: every step keeps each rule of the records, with the supply's conditions as they stand after it. -/
theorem recordInvariants : Obligations.RecordInvariants := by
  intro s t e
  obtain ⟨_, h⟩ := (Upholds.refl s).step e
  obtain rfl := h.now
  simp only [Train.wf_iff, axesWf_iff, cueWf_iff, heldWf_iff, trainsWf_iff, interlockWf_iff]
  exact ⟨h.speeds, h.moves, h.staged, h.agrees rfl, h.stops, h.heeds⟩

/-- Settles O32: the checks of POINT_THROW one after the other, on the state in which the Track Controller sees the request. -/
theorem pointThrow : Obligations.PointThrow := by
  intro tag p w recharge s h hw r
  refine ⟨fun hno => ?_, fun d hc hd => ⟨fun hsec => ?_, fun hsec hq => ?_, fun hsec hq hat hp => ?_, fun hsec hq hno => ?_⟩,
    fun point position hbad => ?_, ?_⟩
  · exact exec_query h rfl rfl (doPointThrow_wrongState hw hno)
  · exact exec_query h rfl rfl (doPointThrow_inUse hw hc hd hsec)
  · exact exec_served h rfl rfl (doPointThrow_queued hw hc hd hsec hq)
  · exact exec_served h rfl rfl (doPointThrow_inPlace hw hc hd hsec hq hat hp)
  · exact exec_served h rfl rfl (doPointThrow_thrown hw hc hd hsec hq hno)
  · exact exec_query h rfl rfl (doPointThrow_unread hbad _)
  · exact exec_served h rfl rfl rfl

/-- Settles O33: the discharge unit, the lines, the crossings, GATE_STATE CLOSED, the gate axis, its faults, GATE_RETRY and the two
expiries, each case by its equation. -/
theorem throwsAndCrossings : Obligations.ThrowsAndCrossings := by
  refine ⟨fun s => ⟨examineHead_empty, fun e rest hq => ⟨fun hp => ?_, examineHead_thrown hq, examineHead_waits hq⟩,
      fun drop => ⟨fun hq => dropThrows_empty hq drop, fun e rest hq => ⟨dropThrows_head hq, dropThrows_behind hq⟩⟩,
      fun hw p w serves hu => ?_, exec_pulseEnd_running, exec_rechargeEnd_due, exec_rechargeEnd_running⟩,
    fun p x st s => ⟨pulsing_iff s p, fun _ _ _ _ => fireLine_pulsing, fireLine_idle, fun h => setSec_noCrossing h st,
      fun c h => setSec_crossing h st⟩,
    fun c d k s hd hk => ⟨?_, ?_, ?_, redemand_close hd hk, redemand_open hd hk, fun _ => suspendCrossing_running hk,
      suspendCrossing_still hk, recommandCrossing_close hd hk, fun ho left => recommandCrossing_open hd hk ho⟩,
    fun c d k st s hd hk => ?_, fun a w s => ⟨rfl, rfl, syncGate_same, syncGate_other,
      fun l h hkind hasc hmem => syncGate_changed h hkind hasc hmem⟩,
    fun x => ⟨x.enterHoming_eq, rfl, rfl⟩, fun x up w => ⟨fun h => Axis.command_none h up w, fun hkind hf => ?_,
      x.gateState_unknown_iff, fun hkind hh hne => ⟨Axis.gateState_open_iff hkind hh, Axis.gateState_closed_iff hkind hh hne,
        Axis.gateState_closing_iff hkind hh⟩⟩,
    fun a code s => ⟨fun h => faultAxis_fault h code, fun h => faultAxis_new h code⟩,
    fun tag c s h => ⟨fun n hn => exec_query h rfl rfl (doGateRetry_beyond hn _), fun hno => exec_query h rfl rfl (doGateRetry_wrongState hno)⟩,
    fun tag c d k s hd hk hw => ⟨exec_openDelayExpiry_due hd hk hw, exec_openDelayExpiry_running hk hw, exec_gateTimeoutExpiry_due hd hk hw,
      exec_gateTimeoutExpiry_running hk hw, fun h hc he => exec_query h rfl rfl (doGateRetry_interlocked hd hk hc he),
      fun h hc he => exec_served h rfl rfl (doGateRetry_taken hd hk hc he)⟩⟩
  · exact (examineHead_placed hq hp).trans (congrArg (fun u => u.later .examine) (testServed_origin _ _))
  · rw [exec_pulseEnd_due hw hu]
    cases serves <;> rfl
  · simp only [demandOf_close_iff, SecState.demandsClose_iff]
  · exact fun h => (redemand_eq hd hk).trans (if_pos h)
  · exact fun h he => (redemand_eq hd hk).trans ((if_neg h).trans (if_pos he))
  · intro delay passed waits seen retried
    have hseen : seen = seenClosed c k s := by
      rw [seenClosed, trainsPendingAt_eq]
      rfl
    rw [hseen]
    exact ⟨gateSeen_other, gateSeen_passed hd hk, gateSeen_delayed hd hk, gateSeen_opens hd hk⟩
  · have hkept := fun h => Axis.command_kept (up := up) hkind hf h w
    have hhomes := fun hu hheld hhoming hh => Axis.command_homes (up := up) hkind hf hu hheld hhoming hh w
    have hthere := fun hu hh hi => Axis.command_there (up := up) (w := w) hkind hf hu hh hi
    have htravels := fun hu hh => Axis.command_travels (up := up) (w := w) hkind hf hu hh
    cases w <;> exact ⟨hkept, hhomes, hthere, htravels⟩

/-- Settles O55: the samples of the key one by one, then each axis at DRESSING(on) and at DRESSING(off). -/
theorem dressingKey : Obligations.DressingKey := by
  intro on s hw k read sampled turned
  have hother (h : on ≠ k.keyOn) : on = !s.supply.keyOn := Bool.eq_not.mpr h
  refine ⟨fun hd => ?_, fun hd h => ?_, fun hd h hn => ?_, fun hd hn h => ?_, fun hd hn h => ?_, fun hd h hn => ?_, fun h => ?_,
    fun a => ?_, fun a => ?_⟩
  · rw [exec_keySample hw, keyStep_taken hd]
  · rw [exec_keySample hw, keyStep_due hd, sampleKey_same (s := read) h]
  · rw [exec_keySample hw, keyStep_due hd, sampleKey_counts (s := read) h hn]
  · rw [exec_dressing hw, dressingStep_due hd hn, sampleKey_confirms hn, if_neg (by simp [show s.supply.keyOn = _ from h])]
    rfl
  · rw [exec_dressing hw, dressingStep_due hd hn, sampleKey_confirms hn, if_pos h]
    rfl
  · rw [exec_keySample hw, exec_dressing hw, keyStep_due hd, dressingStep_due hd hn, hother h]
  · rw [exec_dressing hw, dressingStep_none h]
  · rw [holdAxes_axis]
    exact ⟨rfl, rfl, rfl⟩
  · intro x heldNow free carries shown
    refine ⟨holdAxes_axis a s, holdAxes_ending, fun hc hg => ?_, fun hc hg => ?_, fun hno => ?_⟩
    all_goals rw [releaseAxes_axis]
    · obtain ⟨hm, hk, hs, hf⟩ := hc
      exact (if_pos ⟨hm, hk, hs⟩).trans (Axis.carried_open ((Axis.unhold_goal_kept hs hf).trans hg) true)
    · obtain ⟨hm, hk, hs, hf⟩ := hc
      exact (if_pos ⟨hm, hk, hs⟩).trans (Axis.carried_closed ((Axis.unhold_goal_kept hs hf).trans hg) true)
    · split
      · next hc =>
        obtain ⟨hm, hk, hs⟩ := hc
        exact Axis.carried_none (Axis.unhold_goal_dropped hs fun hf => by_contra fun hg => hno ⟨⟨hm, hk, hs, hf⟩, hg⟩) true
      · rfl

end Sys2Proof.Sections
end

section
/-! SUPPORT. A train's record changed, its settings (R90, R97, R101), its ramp (R95, R96) and the emergency stop (R99). -/

namespace Sys2Proof.Table

/-- Of two records set at one index the later one stands. -/
theorem set_set {α : Type} {n : Nat} (t : Table α n) (i : Fin n) (a b : α) : (t.set i a).set i b = t.set i b := by
  simp [set]

end Sys2Proof.Table

namespace Sys2Proof.Machine

variable {s u : State} {t : Fin 8} {speed : Nat}

/-! ## A train's record changed -/

/-- A change of a train is what it makes of that train's record. -/
theorem State.modTrain_congr {f g : Train → Train} (h : f (s.trains.get t) = g (s.trains.get t)) : s.modTrain t f = s.modTrain t g := by
  simp only [State.modTrain, Table.modify, h]

/-- A change that leaves the train's record leaves the state. -/
theorem State.modTrain_same {f : Train → Train} (h : f (s.trains.get t) = s.trains.get t) : s.modTrain t f = s := by
  simp only [State.modTrain, Table.modify, h, Table.set_get]

/-- Two changes of one train are one. -/
theorem State.modTrain_twice (t : Fin 8) (f g : Train → Train) (s : State) :
    (s.modTrain t f).modTrain t g = s.modTrain t fun x => g (f x) := by
  simp only [State.modTrain, Table.modify, Table.get_set_self, Table.set_set]

/-- A loop whose rounds each change their own train: every train of the list is changed once. -/
theorem forEach_trains {f : Fin 8 → State → State} {g : Train → Train}
    (hf : ∀ t k s, (f t s).trains.get k = if k = t then g (s.trains.get k) else s.trains.get k) {l : List (Fin 8)} (hl : l.Nodup)
    (k : Fin 8) (s : State) : (forEach l f s).trains.get k = if k ∈ l then g (s.trains.get k) else s.trains.get k := by
  induction l generalizing s with
  | nil => rfl
  | cons t l ih =>
    obtain ⟨ht, hl⟩ := List.nodup_cons.mp hl
    rw [forEach, List.foldl_cons, ← forEach, ih hl, hf]
    by_cases e : k = t
    · subst e; simp [ht]
    · simp [e]

/-! ## TRAIN_CONFIG, TRAIN_SPEED, TRAIN_STOP, TRAIN_CLEAR_FAULT (R90, R97, R101) -/

theorem doTrainConfig_stored (t : Fin 8) (top accel decel : Nat) (s : State) : doTrainConfig t.1 top accel decel s =
    (resync t (s.modTrain t fun x => { x with
        maxSpeed := max 1 top, accel := max 1 accel, decel := max 1 decel, requested := min (max 1 top) x.requested
        speed := min (max 1 top) x.speed
        stepDue := x.stepDue && decide ((if x.dir = .up then max 1 accel else max 1 decel) ≤ x.timer) }),
      okay.clampedBy (decide (top = 0) || decide (accel = 0) || decide (decel = 0) ||
        decide (max 1 top < (s.trains.get t).requested))) := by
  rw [doTrainConfig, fin?_val]

theorem doTrainConfig_beyond {train : Nat} (h : 7 < train) (top accel decel : Nat) :
    doTrainConfig train top accel decel s = (s, refuse .outOfRange) := by
  rw [doTrainConfig, fin?_eq_none_iff.mpr h]

theorem doTrainSpeed_stored (hp : (s.trains.get t).placed = true) (hh : (s.trains.get t).halt = none) :
    doTrainSpeed t.1 speed s = (resync t (s.modTrain t fun x => { x with requested := min x.maxSpeed speed }),
      okay.clampedBy (decide ((s.trains.get t).maxSpeed < speed))) := by
  rw [doTrainSpeed, fin?_val]
  exact if_neg (by simp [hp, hh])

theorem doTrainSpeed_wrongState (h : (s.trains.get t).placed = false ∨ (s.trains.get t).halt.isSome = true) :
    doTrainSpeed t.1 speed s = (s, refuse .wrongState) := by
  rw [doTrainSpeed, fin?_val]
  exact if_pos h

theorem doTrainSpeed_beyond {train : Nat} (h : 7 < train) : doTrainSpeed train speed s = (s, refuse .outOfRange) := by
  rw [doTrainSpeed, fin?_eq_none_iff.mpr h]

theorem doTrainStop_stored (h : (s.trains.get t).placed = true) :
    doTrainStop t.1 s = (resync t (s.modTrain t fun x => { x with requested := 0 }), okay) := by
  rw [doTrainStop, fin?_val]
  exact if_neg (by simp [h])

theorem doTrainStop_wrongState (h : (s.trains.get t).placed = false) : doTrainStop t.1 s = (s, refuse .wrongState) := by
  rw [doTrainStop, fin?_val]
  exact if_pos h

theorem doTrainStop_beyond {train : Nat} (h : 7 < train) : doTrainStop train s = (s, refuse .outOfRange) := by
  rw [doTrainStop, fin?_eq_none_iff.mpr h]

theorem doTrainClearFault_cleared (hp : (s.trains.get t).placed = true) (hh : (s.trains.get t).halt.isSome = true) :
    doTrainClearFault t.1 s = (resync t (s.modTrain t fun x => { x with halt := none }), okay) := by
  rw [doTrainClearFault, fin?_val]
  exact if_neg (not_not.mpr ((Train.state_halted_iff _).mpr ⟨hp, hh⟩))

theorem doTrainClearFault_wrongState (h : (s.trains.get t).placed = false ∨ (s.trains.get t).halt = none) :
    doTrainClearFault t.1 s = (s, refuse .wrongState) := by
  rw [doTrainClearFault, fin?_val]
  refine if_pos fun hst => ?_
  obtain ⟨hp, hh⟩ := (Train.state_halted_iff _).mp hst
  rcases h with h | h
  · simp [h] at hp
  · simp [h] at hh

theorem doTrainClearFault_beyond {train : Nat} (h : 7 < train) : doTrainClearFault train s = (s, refuse .outOfRange) := by
  rw [doTrainClearFault, fin?_eq_none_iff.mpr h]

/-! ## The needed step (R95, R96) -/

theorem neededDir_up {target : Nat} (h : speed < target) : neededDir speed target = .up := if_pos h

theorem neededDir_down {target : Nat} (h : target < speed) : neededDir speed target = .down :=
  (if_neg h.le.not_gt).trans (if_pos h)

@[simp] theorem Train.aim_dir (d : RampDir) (x : Train) : (x.aim d).dir = d := by
  obtain ⟨_, _, e⟩ := x.aim_keeps d
  rw [e]

@[simp] theorem Train.aim_speed (d : RampDir) (x : Train) : (x.aim d).speed = x.speed := by
  obtain ⟨_, _, e⟩ := x.aim_keeps d
  rw [e]

/-- The step needed is the one the train makes already: the timer runs on. -/
theorem resync_same (h : (s.trains.get t).dir = neededDir (s.trains.get t).speed (s.effective t)) : resync t s = s :=
  State.modTrain_same (if_pos h)

/-- Another step is needed, or none: the timer starts again at 0. -/
theorem resync_turns (h : (s.trains.get t).dir ≠ neededDir (s.trains.get t).speed (s.effective t)) : resync t s =
    s.modTrain t fun x => { x with dir := neededDir (s.trains.get t).speed (s.effective t), timer := 0, stepDue := false } :=
  State.modTrain_congr (if_neg h)

theorem resync_dir (t : Fin 8) (s : State) :
    ((resync t s).trains.get t).dir = neededDir (s.trains.get t).speed (s.effective t) := by
  rw [resync_train, if_pos rfl, Train.aim_dir]

theorem resync_speed (t k : Fin 8) (s : State) : ((resync t s).trains.get k).speed = (s.trains.get k).speed := by
  rw [resync_train]
  split
  · exact Train.aim_speed _ _
  · rfl

theorem resyncAll_speed (k : Fin 8) (s : State) : ((resyncAll s).trains.get k).speed = (s.trains.get k).speed :=
  keeps_forEach (P := fun u => (u.trains.get k).speed = (s.trains.get k).speed)
    (fun t u hu => (resync_speed t k u).trans hu) _ rfl

/-- The authority is read from the sections' states and the train's held list (R87). -/
theorem authority_congr (track : u.track = s.track) (held : u.heldOf t = s.heldOf t) : u.authority t = s.authority t := by
  simp only [State.authority, State.headIndex, State.sec, track, held]

theorem effective_congr (supply : u.supply = s.supply) (authority : u.authority t = s.authority t)
    (placed : (u.trains.get t).placed = (s.trains.get t).placed) (halt : (u.trains.get t).halt = (s.trains.get t).halt)
    (requested : (u.trains.get t).requested = (s.trains.get t).requested) : u.effective t = s.effective t := by
  refine if_congr ?_ rfl requested
  simp only [State.trackPowered, State.engaged, supply, authority, placed, halt]

/-- The target does not depend on the step under way, so working the step out again leaves it. -/
theorem resync_effective (t : Fin 8) (s : State) : (resync t s).effective t = s.effective t := by
  have htrain := resync_train t t s
  obtain ⟨_, _, e⟩ := (s.trains.get t).aim_keeps (neededDir (s.trains.get t).speed (s.effective t))
  rw [if_pos rfl, e] at htrain
  exact effective_congr rfl (authority_congr rfl (resync_heldOf t s t)) (by rw [htrain]) (by rw [htrain]) (by rw [htrain])

/-! ## The ramp step (R96) -/

theorem exec_trainRampStep_due (hw : s.work.isClear = true) (h : (s.trains.get t).stepDue = true) :
    exec (.trainRampStep t.1) s = .next (finish (rampStep t s)) :=
  (perform_clear hw _).trans (congrArg _ ((forItem_val t _ s).trans (if_pos h)))

theorem exec_trainRampStep_early (hw : s.work.isClear = true) (h : (s.trains.get t).stepDue = false) :
    exec (.trainRampStep t.1) s = .next s :=
  (perform_clear hw _).trans (congrArg _ ((forItem_val t _ s).trans (if_neg (by simp [h]))))

theorem rampStep_level (h : (s.trains.get t).dir = .level) : rampStep t s = s := if_neg fun ⟨_, hno⟩ => hno h

section
variable (hdue : (s.trains.get t).stepDue = true)
include hdue

/-- A due step that leaves the train moving changes its speed by one. -/
theorem rampStep_moves (hdir : (s.trains.get t).dir ≠ .level) (hlast : ¬((s.trains.get t).dir = .down ∧ (s.trains.get t).speed = 1)) :
    rampStep t s = resync t (s.modTrain t Train.step) :=
  (if_pos ⟨hdue, hdir⟩).trans (congrArg (resync t) (if_neg hlast))

theorem rampStep_up (hdir : (s.trains.get t).dir = .up) :
    rampStep t s = resync t (s.modTrain t fun x => { x with timer := 0, stepDue := false, speed := x.speed + 1 }) := by
  rw [rampStep_moves hdue (by simp [hdir]) (by simp [hdir])]
  exact congrArg (resync t) (State.modTrain_congr (by simp only [Train.step, hdir, if_true]))

theorem rampStep_down (hdir : (s.trains.get t).dir = .down) (hlast : (s.trains.get t).speed ≠ 1) :
    rampStep t s = resync t (s.modTrain t fun x => { x with timer := 0, stepDue := false, speed := x.speed - 1 }) := by
  rw [rampStep_moves hdue (by simp [hdir]) (by simp [hlast])]
  exact congrArg (resync t) (State.modTrain_congr (by simp only [Train.step, hdir, reduceCtorEq, if_false]))

/-- The step to speed 0 writes the stop reason and reports the stop. -/
theorem rampStep_stops (hdir : (s.trains.get t).dir = .down) (hlast : (s.trains.get t).speed = 1) :
    rampStep t s = resync t ((s.modTrain t fun x =>
      { x with timer := 0, stepDue := false, speed := 0, stop := (s.trains.get t).rampReason }).raise
        (.trainStopped t (s.trains.get t).rampReason)) := by
  have hrecord : (s.modTrain t Train.step).modTrain t (fun y => { y with stop := y.rampReason }) =
      s.modTrain t fun x => { x with timer := 0, stepDue := false, speed := 0, stop := (s.trains.get t).rampReason } := by
    rw [State.modTrain_twice]
    exact State.modTrain_congr (by simp [Train.step, Train.rampReason, hdir, hlast])
  exact (if_pos ⟨hdue, by simp [hdir]⟩).trans
    (congrArg (resync t) ((if_pos ⟨hdir, hlast⟩).trans (congrArg (State.raise _) hrecord)))

end

/-! ## The emergency stop (R99) -/

section
variable (hp : (s.trains.get t).placed = true) (hh : (s.trains.get t).halt = none) (reason : StopReason)
include hp hh

theorem emergencyStopOne_moving (hv : (s.trains.get t).speed ≠ 0) : emergencyStopOne reason t s =
    (s.modTrain t fun y => { y with timer := 0, stepDue := false, speed := 0, stop := reason }).raise (.trainStopped t reason) :=
  (if_pos ⟨hp, hh⟩).trans (if_neg hv)

theorem emergencyStopOne_standing (hv : (s.trains.get t).speed = 0) :
    emergencyStopOne reason t s = s.modTrain t fun y => { y with timer := 0, stepDue := false } :=
  (if_pos ⟨hp, hh⟩).trans (if_pos hv)

end

theorem emergencyStopOne_left (h : (s.trains.get t).placed = false ∨ (s.trains.get t).halt.isSome = true) (reason : StopReason) :
    emergencyStopOne reason t s = s :=
  if_neg fun ⟨hp, hh⟩ => h.elim (by simp [hp]) (by simp [hh])

/-- The record of a train that an emergency stop reaches. -/
def Train.emergency (reason : StopReason) (x : Train) : Train :=
  if x.placed = true ∧ x.halt = none then
    { x with timer := 0, stepDue := false, speed := 0, stop := if x.speed = 0 then x.stop else reason }
  else x

theorem Train.emergency_speed (reason : StopReason) (x : Train) :
    (x.emergency reason).speed = if x.placed = true ∧ x.halt = none then 0 else x.speed := by
  unfold Train.emergency
  split <;> rfl

theorem emergencyStopOne_train (reason : StopReason) (t k : Fin 8) (s : State) : (emergencyStopOne reason t s).trains.get k =
    if k = t then (s.trains.get k).emergency reason else s.trains.get k := by
  by_cases e : k = t
  · subst e
    rw [if_pos rfl, Train.emergency]
    split
    · next h =>
      obtain ⟨hp, hh⟩ := h
      by_cases hv : (s.trains.get k).speed = 0
      · rw [emergencyStopOne_standing hp hh reason hv, State.modTrain_trains, Table.get_modify_self, if_pos hv, ← hv]
      · rw [emergencyStopOne_moving hp hh reason hv, State.raise_trains, State.modTrain_trains, Table.get_modify_self, if_neg hv]
    · next h => rw [emergencyStopOne, if_neg h]
  · rw [if_neg e, emergencyStopOne_other reason e]

/-- After an emergency stop every placed train that is not halted stands, and every other train has the speed it had. -/
theorem emergencyStop_speed (reason : StopReason) (k : Fin 8) (s : State) : ((emergencyStop reason s).trains.get k).speed =
    if (s.trains.get k).placed = true ∧ (s.trains.get k).halt = none then 0 else (s.trains.get k).speed := by
  have hnodup : (indices 8).Nodup := List.nodup_finRange 8
  rw [emergencyStop, resyncAll_speed, forEach_trains (emergencyStopOne_train reason) hnodup, if_pos (mem_indices k), Train.emergency_speed]

end Sys2Proof.Machine
end

section
/-! SUPPORT. The statements on a train's settings and its ramp settled: each by its lemmas above. -/

namespace Sys2Proof.Trains

open Sys2Proof.Machine

/-- Settles O39: the step by its direction and the speed before it, the needed step by the target, the emergency stop by the train. -/
theorem rampAndEmergencyStop : Obligations.RampAndEmergencyStop := by
  refine ⟨fun t s hw => ⟨exec_trainRampStep_early hw, fun h hd => ?_, fun h hd => ?_, fun h hd hv => ?_, fun h hd hv => ?_⟩,
    fun t s => ⟨resync_same, resync_turns, resync_dir t s, resync_effective t s,
      fun hw h hd => ⟨fun hlt => ?_, fun hlt hv => ?_⟩, rfl⟩,
    fun reason t s => ⟨fun hp hh => emergencyStopOne_moving hp hh reason, fun hp hh => emergencyStopOne_standing hp hh reason,
      fun h => emergencyStopOne_left h reason, fun u => emergencyStop_speed reason u s⟩⟩
  · rw [exec_trainRampStep_due hw h, rampStep_level hd]
  · rw [exec_trainRampStep_due hw h, rampStep_up h hd]
  · rw [exec_trainRampStep_due hw h, rampStep_down h hd hv]
  · rw [exec_trainRampStep_due hw h, rampStep_stops h hd hv]
    rfl
  · rw [exec_trainRampStep_due hw h, rampStep_up h (hd.trans (neededDir_up hlt))]
  · rw [exec_trainRampStep_due hw h, rampStep_down h (hd.trans (neededDir_down hlt)) hv]

/-- Settles O37: each request by the train's place and its halt fault. -/
theorem trainSettings : Obligations.TrainSettings := by
  intro tag t top accel decel speed s h
  refine ⟨?_, fun hp hh => ?_, fun hno => ?_, fun hp => ?_, fun hno => ?_, fun hp hh => ?_, fun hno => ?_,
    fun train ht => ⟨?_, ?_, ?_, ?_⟩⟩
  · exact exec_served h rfl rfl (doTrainConfig_stored t top accel decel _)
  · exact exec_served h rfl rfl (doTrainSpeed_stored hp hh)
  · exact exec_query h rfl rfl (doTrainSpeed_wrongState hno)
  · exact exec_served h rfl rfl (doTrainStop_stored hp)
  · exact exec_query h rfl rfl (doTrainStop_wrongState hno)
  · exact exec_served h rfl rfl (doTrainClearFault_cleared hp hh)
  · exact exec_query h rfl rfl (doTrainClearFault_wrongState hno)
  · exact exec_query h rfl rfl (doTrainConfig_beyond ht top accel decel)
  · exact exec_query h rfl rfl (doTrainSpeed_beyond ht)
  · exact exec_query h rfl rfl (doTrainStop_beyond ht)
  · exact exec_query h rfl rfl (doTrainClearFault_beyond ht)

end Sys2Proof.Trains
end

section
/-! SUPPORT. The motion requests (R110 to R116): what turns each away, check by check, and what each one makes of the axis it is for. -/

namespace Sys2Proof.Machine

variable {s : State} {a : Fin 8} {x : Axis} {c : ResultCode} {speed angle direction : Nat} {d : Dir} {position p : Int}

@[simp] theorem dirOf_code (d : Dir) : dirOf d.code = some d := by cases d <;> rfl

theorem dirOf_beyond {n : Nat} (h : 1 < n) : dirOf n = none := by
  obtain ⟨k, rfl⟩ := Nat.exists_eq_add_of_le' (show 2 ≤ n from h)
  rfl

/-- A change of an axis is what it makes of that axis's record. -/
theorem State.modAxis_congr {f g : Axis → Axis} (h : f (s.axes.get a) = g (s.axes.get a)) : s.modAxis a f = s.modAxis a g := by
  simp only [State.modAxis, Table.modify, h]

/-! ## What turns a request away (R116) -/

/-- What AXIS_SPEED, AXIS_STOP_AT and AXIS_MOVE ask first, in the order of R116: no GATE axis, the kind the request is for, an axis that
is not HELD, the MOTION rail UP. The code of the first that fails. -/
def State.bars (k : AxisKind) (a : Fin 8) (s : State) : Option ResultCode :=
  let x := s.axes.get a
  if x.kind = .gate then some .inUse
  else if x.kind ≠ k then some .wrongState
  else if x.state = .held then some .interlocked
  else if s.supply.rails.motion = false then some .interlocked
  else none

theorem bars_gate {k : AxisKind} (h : (s.axes.get a).kind = .gate) : s.bars k a = some .inUse := if_pos h

section
variable {k : AxisKind} (hkind : (s.axes.get a).kind = k) (hk : k ≠ .gate)
include hkind hk

theorem bars_kind {k' : AxisKind} (hne : k ≠ k') : s.bars k' a = some .wrongState :=
  (if_neg (hkind ▸ hk)).trans (if_pos (hkind ▸ hne))

theorem bars_interlocked (h : (s.axes.get a).state = .held ∨ ¬s.supply.rails.motion = true) : s.bars k a = some .interlocked := by
  rw [State.bars, if_neg (hkind ▸ hk), if_neg (not_not_intro hkind)]
  split
  · rfl
  · next hfree => exact if_pos (by simpa using h.resolve_left hfree)

theorem bars_none (hfree : (s.axes.get a).state ≠ .held) (hup : s.supply.rails.motion = true) : s.bars k a = none := by
  rw [State.bars, if_neg (hkind ▸ hk), if_neg (not_not_intro hkind), if_neg hfree, if_neg (by simp [hup])]

end

theorem doAxisSpeed_eq : doAxisSpeed a.1 speed direction s = match s.bars .rotary a with
    | some c => (s, refuse c)
    | none =>
      let x := s.axes.get a
      if ¬(x.state = .unhomed ∨ x.state = .idle ∨ x.state = .moving) then (s, refuse .wrongState)
      else match dirOf direction with
        | none => (s, refuse .outOfRange)
        | some d =>
          let w := min speed x.maxSpeed
          let clamped := decide (x.maxSpeed < speed)
          if x.meets w d then
            ((if x.state = .moving then s.modAxis a fun x => { x.startSpeed w d with met := true } else s).raise (.axisDone a),
              okay.clampedBy clamped)
          else (s.modAxis a (Axis.startSpeed w d), taken.clampedBy clamped) := by
  rw [doAxisSpeed, fin?_val, State.bars]
  dsimp only
  split_ifs <;> rfl

theorem doAxisStopAt_eq : doAxisStopAt a.1 angle s = match s.bars .rotary a with
    | some c => (s, refuse c)
    | none =>
      let x := s.axes.get a
      if ¬(x.homed = true ∧ (x.state = .idle ∨ x.state = .moving)) then (s, refuse .wrongState)
      else if x.spr ≤ angle then (s, refuse .outOfRange)
      else if (x.startStopAt angle).motion = .stopAt angle 0 then
        ((s.modAxis a fun x => (x.startStopAt angle).rest).raise (.axisDone a), okay)
      else (s.modAxis a (Axis.startStopAt angle), taken) := by
  rw [doAxisStopAt, fin?_val, State.bars]
  dsimp only
  split_ifs <;> rfl

theorem doAxisMove_eq : doAxisMove a.1 position s = match s.bars .positional a with
    | some c => (s, refuse c)
    | none =>
      let x := s.axes.get a
      let p := clampInt x.low x.high position
      if ¬(x.homed = true ∧ (x.state = .idle ∨ x.state = .moving)) then (s, refuse .wrongState)
      else if x.state = .idle ∧ x.pos = p then (s.raise (.axisDone a), okay.clampedBy (decide (p ≠ position)))
      else (s.modAxis a (Axis.retarget p), taken.clampedBy (decide (p ≠ position))) := by
  rw [doAxisMove, fin?_val, State.bars]
  dsimp only
  split_ifs <;> rfl

theorem doAxisSpeed_barred (h : s.bars .rotary a = some c) : doAxisSpeed a.1 speed direction s = (s, refuse c) := by
  rw [doAxisSpeed_eq, h]

theorem doAxisStopAt_barred (h : s.bars .rotary a = some c) : doAxisStopAt a.1 angle s = (s, refuse c) := by
  rw [doAxisStopAt_eq, h]

theorem doAxisMove_barred (h : s.bars .positional a = some c) : doAxisMove a.1 position s = (s, refuse c) := by
  rw [doAxisMove_eq, h]

theorem doAxisSpeed_beyond {n : Nat} (h : 7 < n) : doAxisSpeed n speed direction s = (s, refuse .outOfRange) := by
  rw [doAxisSpeed, fin?_of_le h]

theorem doAxisStopAt_beyond {n : Nat} (h : 7 < n) : doAxisStopAt n angle s = (s, refuse .outOfRange) := by
  rw [doAxisStopAt, fin?_of_le h]

theorem doAxisMove_beyond {n : Nat} (h : 7 < n) : doAxisMove n position s = (s, refuse .outOfRange) := by
  rw [doAxisMove, fin?_of_le h]

theorem doAxisHome_beyond {n : Nat} (h : 7 < n) : doAxisHome n s = (s, refuse .outOfRange) := by
  rw [doAxisHome, fin?_of_le h]

theorem doAxisStop_beyond {n : Nat} (h : 7 < n) : doAxisStop n s = (s, refuse .outOfRange) := by
  rw [doAxisStop, fin?_of_le h]

/-! ## AXIS_SPEED (R111) -/

/-- An axis in a state that takes an AXIS_SPEED (R116). -/
abbrev Axis.takesSpeed (x : Axis) : Prop := x.state = .unhomed ∨ x.state = .idle ∨ x.state = .moving

theorem Axis.takesSpeed.free (h : x.takesSpeed) : x.state ≠ .held := by rcases h with h | h | h <;> simp [h]

/-- Entering SPEED mode, with the direction and the phase as their conditions give them. -/
theorem Axis.startSpeed_eq (w : Nat) (d : Dir) (x : Axis) : x.startSpeed w d = { x with
    state := .moving, motion := .speed w d, met := false, dir := if x.v = 0 then d else x.dir
    phase := if x.v = 0 ∨ x.dir = d then .cruise else .reversing } := by
  unfold Axis.startSpeed
  dsimp only
  split
  · next hv => simp [hv]
  · next hv => split <;> simp_all

theorem Axis.meets_iff (w : Nat) (d : Dir) (x : Axis) :
    x.meets w d = true ↔ (x.state = .moving ∧ 0 < w ∧ x.v = w ∧ x.dir = d) ∨ (x.state ≠ .moving ∧ w = 0) := by
  unfold Axis.meets
  split <;> simp_all [and_assoc]

section
variable (hk : (s.axes.get a).kind = .rotary) (hup : s.supply.rails.motion = true)
include hk hup

theorem doAxisSpeed_wrongState (h : (s.axes.get a).state = .homing ∨ (s.axes.get a).state = .fault) :
    doAxisSpeed a.1 speed direction s = (s, refuse .wrongState) := by
  have hfree : (s.axes.get a).state ≠ .held := by rcases h with h | h <;> simp [h]
  rw [doAxisSpeed_eq, bars_none hk nofun hfree hup]
  exact if_pos (by rcases h with h | h <;> simp [h])

variable (hs : (s.axes.get a).takesSpeed)
include hs

theorem doAxisSpeed_direction (h : 1 < direction) : doAxisSpeed a.1 speed direction s = (s, refuse .outOfRange) := by
  rw [doAxisSpeed_eq, bars_none hk nofun hs.free hup, dirOf_beyond h]
  exact if_neg (not_not_intro hs)

theorem doAxisSpeed_taken (h : (s.axes.get a).meets (min speed (s.axes.get a).maxSpeed) d = false) : doAxisSpeed a.1 speed d.code s =
    (s.modAxis a (Axis.startSpeed (min speed (s.axes.get a).maxSpeed) d), taken.clampedBy (decide ((s.axes.get a).maxSpeed < speed))) := by
  rw [doAxisSpeed_eq, bars_none hk nofun hs.free hup, dirOf_code]
  exact (if_neg (not_not_intro hs)).trans (if_neg (by simp [h]))

theorem doAxisSpeed_met (h : (s.axes.get a).meets (min speed (s.axes.get a).maxSpeed) d = true) : doAxisSpeed a.1 speed d.code s =
    ((if (s.axes.get a).state = .moving then
        s.modAxis a fun x => { x.startSpeed (min speed (s.axes.get a).maxSpeed) d with met := true } else s).raise (.axisDone a),
      okay.clampedBy (decide ((s.axes.get a).maxSpeed < speed))) := by
  rw [doAxisSpeed_eq, bars_none hk nofun hs.free hup, dirOf_code]
  exact (if_neg (not_not_intro hs)).trans (if_pos h)

end

/-- At rest a speed of 0 is met (log entry 39). -/
theorem doAxisSpeed_rests (hk : (s.axes.get a).kind = .rotary) (hup : s.supply.rails.motion = true)
    (hs : (s.axes.get a).state = .unhomed ∨ (s.axes.get a).state = .idle) : doAxisSpeed a.1 0 d.code s = (s.raise (.axisDone a), okay) := by
  have hstill : (s.axes.get a).state ≠ .moving := by rcases hs with h | h <;> simp [h]
  rw [doAxisSpeed_met hk hup (hs.imp_right .inl) ((Axis.meets_iff ..).mpr (.inr ⟨hstill, Nat.zero_min _⟩)), if_neg hstill]
  rfl

/-- The running speed and direction are met. -/
theorem doAxisSpeed_runs (hk : (s.axes.get a).kind = .rotary) (hup : s.supply.rails.motion = true) (hs : (s.axes.get a).state = .moving)
    (hw : 0 < min speed (s.axes.get a).maxSpeed) (hv : (s.axes.get a).v = min speed (s.axes.get a).maxSpeed) (hd : (s.axes.get a).dir = d) :
    doAxisSpeed a.1 speed d.code s =
      ((s.modAxis a fun x => { x with motion := .speed (min speed (s.axes.get a).maxSpeed) d, phase := .cruise, met := true }).raise (.axisDone a),
        okay.clampedBy (decide ((s.axes.get a).maxSpeed < speed))) := by
  rw [doAxisSpeed_met hk hup (.inr (.inr hs)) ((Axis.meets_iff ..).mpr (.inl ⟨hs, hw, hv, hd⟩)), if_pos hs]
  congr 2
  refine State.modAxis_congr ?_
  have hrun : (s.axes.get a).v ≠ 0 := by omega
  simp [Axis.startSpeed_eq, hrun, hd, hs]

/-! ## AXIS_STOP_AT (R112) -/

/-- The way from a position to an angle in a direction of travel. -/
def wayTo (angle : Nat) (pos : Int) : Dir → Int
  | .forward => angle - pos
  | .reverse => pos - angle

/-- The steps to an angle in a direction of travel: less than a revolution. -/
def stepsTo (spr angle : Nat) (pos : Int) (d : Dir) : Nat := (wayTo angle pos d % spr).toNat

theorem stopAtDistance_eq (spr angle : Nat) (pos : Int) (d : Dir) (S : Nat) : stopAtDistance spr angle pos d S =
    if stepsTo spr angle pos d < S then stepsTo spr angle pos d + spr else stepsTo spr angle pos d := by
  cases d <;> rfl

section
variable {spr : Nat} (h : 0 < spr) (angle : Nat) (pos : Int)
include h

theorem stepsTo_cast (d : Dir) : (stepsTo spr angle pos d : Int) = wayTo angle pos d % spr :=
  Int.toNat_of_nonneg (Int.emod_nonneg _ (by omega))

theorem stepsTo_lt (d : Dir) : stepsTo spr angle pos d < spr := by
  have hlt := Int.emod_lt_of_pos (wayTo angle pos d) (show (0 : Int) < spr by omega)
  rw [← stepsTo_cast h angle pos d] at hlt
  omega

theorem stepsTo_forward : (pos + stepsTo spr angle pos .forward - angle) % spr = 0 := by
  rw [stepsTo_cast h, wayTo, Int.emod_def (angle - pos)]
  exact Int.emod_eq_zero_of_dvd (Dvd.intro (-((angle - pos) / spr)) (by ring))

theorem stepsTo_reverse : (pos - stepsTo spr angle pos .reverse - angle) % spr = 0 := by
  rw [stepsTo_cast h, wayTo, Int.emod_def (pos - angle)]
  exact Int.emod_eq_zero_of_dvd (Dvd.intro ((pos - angle) / spr) (by ring))

end

/-- The direction in which an axis goes to a stop angle: as it moves, and forward from rest (R112). -/
def Axis.stopAtDir (x : Axis) : Dir := if x.state = .moving then x.dir else .forward

/-- The distance to a stop angle in that direction (R112). -/
def Axis.stopAtWay (angle : Nat) (x : Axis) : Nat := stopAtDistance x.spr angle x.pos x.stopAtDir x.stopping

theorem Axis.startStopAt_motion (angle : Nat) (x : Axis) : (x.startStopAt angle).motion = .stopAt angle (x.stopAtWay angle) := rfl

/-- A homed axis at rest or in travel, as AXIS_STOP_AT and AXIS_MOVE ask for it (R116). -/
abbrev Axis.takesTarget (x : Axis) : Prop := x.homed = true ∧ (x.state = .idle ∨ x.state = .moving)

theorem Axis.takesTarget.free (h : x.takesTarget) : x.state ≠ .held := by rcases h.2 with h | h <;> simp [h]

theorem Axis.not_takesTarget (h : x.homed = false ∨ ¬(x.state = .idle ∨ x.state = .moving)) : ¬x.takesTarget := fun ⟨hh, hs⟩ =>
  h.elim (by simp [hh]) (· hs)

section
variable (hk : (s.axes.get a).kind = .rotary) (hup : s.supply.rails.motion = true)
include hk hup

theorem doAxisStopAt_wrongState (hfree : (s.axes.get a).state ≠ .held) (h : ¬(s.axes.get a).takesTarget) :
    doAxisStopAt a.1 angle s = (s, refuse .wrongState) := by
  rw [doAxisStopAt_eq, bars_none hk nofun hfree hup]
  exact if_pos h

variable (hs : (s.axes.get a).takesTarget)
include hs

theorem doAxisStopAt_angle (h : (s.axes.get a).spr ≤ angle) : doAxisStopAt a.1 angle s = (s, refuse .outOfRange) := by
  rw [doAxisStopAt_eq, bars_none hk nofun hs.free hup]
  exact (if_neg (not_not_intro hs)).trans (if_pos h)

variable (hangle : angle < (s.axes.get a).spr)
include hangle

theorem doAxisStopAt_taken (h : (s.axes.get a).stopAtWay angle ≠ 0) : doAxisStopAt a.1 angle s = (s.modAxis a fun x => { x with
    state := .moving, dir := (s.axes.get a).stopAtDir, phase := .cruise, met := false
    motion := .stopAt angle ((s.axes.get a).stopAtWay angle) }, taken) := by
  rw [doAxisStopAt_eq, bars_none hk nofun hs.free hup]
  refine (if_neg (not_not_intro hs)).trans ((if_neg (Nat.not_le.mpr hangle)).trans ((if_neg ?_).trans ?_))
  · rw [Axis.startStopAt_motion]
    simpa using h
  · rw [State.modAxis_congr (f := Axis.startStopAt angle)]
    rfl

/-- An axis that stands at the angle is done. -/
theorem doAxisStopAt_there (h : (s.axes.get a).stopAtWay angle = 0) : doAxisStopAt a.1 angle s = ((s.modAxis a fun x => { x with
    state := .idle, v := 0, f := 0, dir := (s.axes.get a).stopAtDir, phase := .cruise, met := false
    motion := .none }).raise (.axisDone a), okay) := by
  rw [doAxisStopAt_eq, bars_none hk nofun hs.free hup]
  refine (if_neg (not_not_intro hs)).trans ((if_neg (Nat.not_le.mpr hangle)).trans ((if_pos ?_).trans ?_))
  · rw [Axis.startStopAt_motion, h]
  · rw [State.modAxis_congr (f := fun x => (x.startStopAt angle).rest)]
    simp [Axis.rest, Axis.restState, Axis.startStopAt, Axis.stopAtDir, hs.1]

end

/-! ## AXIS_MOVE and the target taken (R110, R114) -/

section
variable (hk : (s.axes.get a).kind = .positional) (hup : s.supply.rails.motion = true)
include hk hup

theorem doAxisMove_wrongState (hfree : (s.axes.get a).state ≠ .held) (h : ¬(s.axes.get a).takesTarget) :
    doAxisMove a.1 position s = (s, refuse .wrongState) := by
  rw [doAxisMove_eq, bars_none hk nofun hfree hup]
  exact if_pos h

variable (hs : (s.axes.get a).takesTarget) (hp : p = max (s.axes.get a).low (min (s.axes.get a).high position))
include hs hp

theorem doAxisMove_there (h : (s.axes.get a).state = .idle ∧ (s.axes.get a).pos = p) :
    doAxisMove a.1 position s = (s.raise (.axisDone a), okay.clampedBy (decide (p ≠ position))) := by
  subst hp
  rw [doAxisMove_eq, bars_none hk nofun hs.free hup]
  exact (if_neg (not_not_intro hs)).trans (if_pos h)

theorem doAxisMove_taken (h : ¬((s.axes.get a).state = .idle ∧ (s.axes.get a).pos = p)) :
    doAxisMove a.1 position s = (s.modAxis a (Axis.retarget p), taken.clampedBy (decide (p ≠ position))) := by
  subst hp
  rw [doAxisMove_eq, bars_none hk nofun hs.free hup]
  exact (if_neg (not_not_intro hs)).trans (if_neg h)

end

/-- The position lies in the direction of travel. -/
def Axis.liesAhead (p : Int) (x : Axis) : Prop := x.dir = .forward ∧ x.pos < p ∨ x.dir = .reverse ∧ p < x.pos

theorem Axis.retarget_rest (h : x.v = 0) (p : Int) : x.retarget p =
    { x with state := .moving, motion := .position p, met := false, phase := .cruise, dir := x.toward p } := if_pos h

theorem Axis.retarget_ahead (hv : 0 < x.v) (h : x.liesAhead p) (hfar : x.stopping ≤ (p - x.pos).natAbs) :
    x.retarget p = { x with state := .moving, motion := .position p, met := false, phase := .cruise } :=
  (if_neg hv.ne').trans (if_pos ⟨h, hfar⟩)

theorem Axis.retarget_reverses (hv : 0 < x.v) (h : ¬(x.liesAhead p ∧ x.stopping ≤ (p - x.pos).natAbs)) :
    x.retarget p = { x with state := .moving, motion := .position p, met := false, phase := .reversing } :=
  (if_neg hv.ne').trans (if_neg h)

/-! ## AXIS_HOME (R114) -/

theorem doAxisHome_interlocked (h : (s.axes.get a).state = .held ∨ ¬s.supply.rails.motion = true) :
    doAxisHome a.1 s = (s, refuse .interlocked) := by
  rw [doAxisHome, fin?_val]
  by_cases hheld : (s.axes.get a).state = .held
  · exact if_pos hheld
  · exact (if_neg hheld).trans (if_pos (by simpa using h.resolve_left hheld))

section
variable (hup : s.supply.rails.motion = true)
include hup

/-- An axis that is HOMING goes on with its search. -/
theorem doAxisHome_homing (h : (s.axes.get a).state = .homing) : doAxisHome a.1 s = (s, taken) := by
  rw [doAxisHome, fin?_val]
  exact (if_neg (by simp [h])).trans ((if_neg (by simp [hup])).trans (if_pos h))

theorem doAxisHome_taken (hfree : (s.axes.get a).state ≠ .held) (h : (s.axes.get a).state ≠ .homing) :
    doAxisHome a.1 s = (syncGate a (s.modAxis a Axis.enterHoming), taken) := by
  rw [doAxisHome, fin?_val]
  exact (if_neg hfree).trans ((if_neg (by simp [hup])).trans (if_neg h))

end

/-! ## AXIS_STOP (R115) -/

theorem doAxisStop_gate (hk : (s.axes.get a).kind = .gate) : doAxisStop a.1 s = (s, refuse .inUse) := by
  rw [doAxisStop, fin?_val]
  exact if_pos hk

section
variable (hk : (s.axes.get a).kind ≠ .gate)
include hk

theorem doAxisStop_held (h : (s.axes.get a).state = .held) : doAxisStop a.1 s = (s, refuse .interlocked) := by
  rw [doAxisStop, fin?_val]
  exact (if_neg hk).trans (if_pos h)

theorem doAxisStop_fault (h : (s.axes.get a).state = .fault) : doAxisStop a.1 s = (s, refuse .wrongState) := by
  rw [doAxisStop, fin?_val]
  exact (if_neg hk).trans ((if_neg (by simp [h])).trans (if_pos h))

theorem doAxisStop_underWay (h : (s.axes.get a).state = .moving ∨ (s.axes.get a).state = .homing) : doAxisStop a.1 s =
    (s.modAxis a fun x => { x with state := .moving, motion := .stop, phase := .cruise, met := false }, taken) := by
  have hfree : (s.axes.get a).state ≠ .held ∧ (s.axes.get a).state ≠ .fault := by rcases h with h | h <;> simp [h]
  rw [doAxisStop, fin?_val]
  exact (if_neg hk).trans ((if_neg hfree.1).trans ((if_neg hfree.2).trans (if_pos ((Axis.underWay_iff _).mpr h))))

theorem doAxisStop_stands (h : (s.axes.get a).state = .idle ∨ (s.axes.get a).state = .unhomed) :
    doAxisStop a.1 s = (s.raise (.axisDone a), okay) := by
  have hstate : (s.axes.get a).state ≠ .held ∧ (s.axes.get a).state ≠ .fault ∧ (s.axes.get a).underWay ≠ true := by
    rcases h with h | h <;> simp [h, Axis.underWay]
  obtain ⟨hheld, hfault, hway⟩ := hstate
  rw [doAxisStop, fin?_val]
  exact (if_neg hk).trans ((if_neg hheld).trans ((if_neg hfault).trans (if_neg hway)))

end

end Sys2Proof.Machine
end

section
/-! SUPPORT. Step 1 of the axis update, the velocity of each motion mode (R107, R108, R110), and the stopping distance (R108). -/

namespace Sys2Proof.Machine

variable {x : Axis} {w r angle : Nat} {d : Dir} {p : Int}

/-! ## The stopping distance (R108) -/

/-- A quotient rounded up is the least whole number that covers its numerator. -/
theorem ceilDiv_bounds (n : Nat) {k : Nat} (hk : 0 < k) : n ≤ k * ((n + (k - 1)) / k) ∧ k * ((n + (k - 1)) / k) < n + k := by
  have hdiv := Nat.div_add_mod (n + (k - 1)) k
  have hmod := Nat.mod_lt (n + (k - 1)) hk
  omega

theorem Axis.stopping_bounds (h : 0 < x.accel) :
    x.v * x.v ≤ 2000 * x.accel * x.stopping ∧ 2000 * x.accel * x.stopping < x.v * x.v + 2000 * x.accel :=
  ceilDiv_bounds (x.v * x.v) (by omega)

/-! ## Toward a wanted speed (R107) -/

/-- In the wanted direction, or from rest, the speed moves toward the wanted one. -/
theorem Axis.rampTo_on (h : d = x.dir ∨ x.v = 0) : x.rampTo w d =
    { x with v := if x.v < w then min (x.v + x.accel) w else max (x.v - x.accel) w, dir := d, phase := .cruise } :=
  if_neg fun ⟨hd, hv⟩ => h.elim hd hv.ne'

section
variable (hd : d ≠ x.dir)
include hd

theorem Axis.rampTo_turns (hv : 0 < x.v) (h : x.v ≤ x.accel) : x.rampTo w d = { x with v := 0, dir := d, phase := .cruise } :=
  (if_pos ⟨hd, hv⟩).trans (if_pos h)

theorem Axis.rampTo_slows (h : x.accel < x.v) : x.rampTo w d = { x with v := x.v - x.accel, phase := .reversing } :=
  (if_pos ⟨hd, Nat.zero_lt_of_lt h⟩).trans (if_neg (Nat.not_le.mpr h))

end

/-! ## The velocity of each motion mode -/

theorem Axis.velocity_fault (h : x.state = .fault) : x.velocity = { x with v := x.v - x.accel } := if_pos h

section
variable (h : x.state ≠ .fault)
include h

theorem Axis.velocity_none (hm : x.motion = .none) : x.velocity = x := by
  simp only [Axis.velocity, if_neg h, hm]

theorem Axis.velocity_speed (hm : x.motion = .speed w d) : x.velocity = x.rampTo w d := by
  simp only [Axis.velocity, if_neg h, hm]

theorem Axis.velocity_home (hm : x.motion = .home) : x.velocity = x.rampTo x.creep x.homeDir := by
  simp only [Axis.velocity, if_neg h, hm]

theorem Axis.velocity_stop (hm : x.motion = .stop) : x.velocity = { x with v := x.v - x.accel } := by
  simp only [Axis.velocity, if_neg h, hm]

theorem Axis.velocity_stopAt (hm : x.motion = .stopAt angle r) : x.velocity = { x with v := x.targetSpeed r } := by
  simp only [Axis.velocity, if_neg h, hm]

section
variable (hm : x.motion = .position p)
include hm

theorem Axis.velocity_cruise (hp : x.phase = .cruise) : x.velocity = { x with v := x.targetSpeed (p - x.pos).natAbs } := by
  simp only [Axis.velocity, if_neg h, hm, hp]

variable (hp : x.phase = .reversing)
include hp

theorem Axis.velocity_reversing (hv : x.accel < x.v) : x.velocity = { x with v := x.v - x.accel } := by
  simp only [Axis.velocity, if_neg h, hm, hp, if_neg (Nat.not_le.mpr hv)]

theorem Axis.velocity_turns (hv : x.v ≤ x.accel) : x.velocity = { x with v := 0, dir := x.toward p, phase := .cruise } := by
  simp only [Axis.velocity, if_neg h, hm, hp, if_pos hv]

end
end

/-! ## What step 1 leaves alone -/

theorem Axis.rampTo_eta (w : Nat) (d : Dir) (x : Axis) :
    x.rampTo w d = { x with v := (x.rampTo w d).v, dir := (x.rampTo w d).dir, phase := (x.rampTo w d).phase } := by
  unfold Axis.rampTo
  split
  · split <;> rfl
  · rfl

/-- Step 1 changes the speed, the direction and the phase alone. -/
theorem Axis.velocity_eta (x : Axis) : x.velocity = { x with v := x.velocity.v, dir := x.velocity.dir, phase := x.velocity.phase } := by
  unfold Axis.velocity
  split
  · rfl
  · split
    · rfl
    · exact x.rampTo_eta _ _
    · exact x.rampTo_eta _ _
    · rfl
    · rfl
    · split
      · rfl
      · split <;> rfl

end Sys2Proof.Machine
end

section
/-! SUPPORT. Steps 2 to 6 of the axis update: the steps sent, what they move, and the end of the update (R107, R109, R112 to R114). -/

namespace Sys2Proof.Machine

variable {x : Axis} {input : Bool}

/-! ## The step count (R107, R109) -/

/-- The steps before the limit's cut: the fraction with the speed, cut to the target (R107, R108). -/
def Axis.aimed (x : Axis) : Nat := x.velocity.cutToTarget ((x.velocity.f + x.velocity.v) / 1000)

/-- The steps an update sends: cut to the limit too (R109). -/
def Axis.steps (x : Axis) : Nat := (x.velocity.limitDistance.map fun d => min x.aimed d).getD x.aimed

/-- Whether the steps reach the limit (R109). -/
def Axis.limited (x : Axis) : Bool := x.velocity.limitDistance.any fun d => d ≤ x.aimed

/-- The record after the emission of an update's steps (R107). -/
def Axis.moved (x : Axis) : Axis := { x.velocity with f := (x.velocity.f + x.velocity.v) % 1000 }.emit x.steps

/-- What does not read the speed, the direction or the phase is as it was before step 1. -/
theorem Axis.velocity_reads {α : Type} (x : Axis) (g : Axis → α) (h : ∀ v d e, g { x with v := v, dir := d, phase := e } = g x) :
    g x.velocity = g x := (congrArg g x.velocity_eta).trans (h _ _ _)

@[simp] theorem Axis.velocity_kind (x : Axis) : x.velocity.kind = x.kind := x.velocity_reads Axis.kind fun _ _ _ => rfl
@[simp] theorem Axis.velocity_homed (x : Axis) : x.velocity.homed = x.homed := x.velocity_reads Axis.homed fun _ _ _ => rfl
@[simp] theorem Axis.velocity_spr (x : Axis) : x.velocity.spr = x.spr := x.velocity_reads Axis.spr fun _ _ _ => rfl
@[simp] theorem Axis.velocity_motion (x : Axis) : x.velocity.motion = x.motion := x.velocity_reads Axis.motion fun _ _ _ => rfl
@[simp] theorem Axis.velocity_pos (x : Axis) : x.velocity.pos = x.pos := x.velocity_reads Axis.pos fun _ _ _ => rfl
@[simp] theorem Axis.velocity_highLimit (x : Axis) : x.velocity.highLimit = x.highLimit := x.velocity_reads Axis.highLimit fun _ _ _ => rfl
@[simp] theorem Axis.velocity_lowLimit (x : Axis) : x.velocity.lowLimit = x.lowLimit := x.velocity_reads Axis.lowLimit fun _ _ _ => rfl

@[simp] theorem Axis.moved_kind (x : Axis) : x.moved.kind = x.kind := x.velocity_kind
@[simp] theorem Axis.moved_homed (x : Axis) : x.moved.homed = x.homed := x.velocity_homed
@[simp] theorem Axis.moved_spr (x : Axis) : x.moved.spr = x.spr := x.velocity_spr
@[simp] theorem Axis.moved_highLimit (x : Axis) : x.moved.highLimit = x.highLimit := x.velocity_highLimit
@[simp] theorem Axis.moved_lowLimit (x : Axis) : x.moved.lowLimit = x.lowLimit := x.velocity_lowLimit
@[simp] theorem Axis.moved_offset (x : Axis) : x.moved.offset = x.offset := x.velocity_reads Axis.offset fun _ _ _ => rfl
@[simp] theorem Axis.moved_tolerance (x : Axis) : x.moved.tolerance = x.tolerance := x.velocity_reads Axis.tolerance fun _ _ _ => rfl
@[simp] theorem Axis.moved_maxSpeed (x : Axis) : x.moved.maxSpeed = x.maxSpeed := x.velocity_reads Axis.maxSpeed fun _ _ _ => rfl
@[simp] theorem Axis.moved_state (x : Axis) : x.moved.state = x.state := x.velocity_reads Axis.state fun _ _ _ => rfl
@[simp] theorem Axis.moved_armed (x : Axis) : x.moved.armed = x.armed := x.velocity_reads Axis.armed fun _ _ _ => rfl
@[simp] theorem Axis.moved_indexRun (x : Axis) : x.moved.indexRun = x.indexRun := x.velocity_reads Axis.indexRun fun _ _ _ => rfl
@[simp] theorem Axis.moved_homeRun (x : Axis) : x.moved.homeRun = x.homeRun := x.velocity_reads Axis.homeRun fun _ _ _ => rfl
@[simp] theorem Axis.moved_goal (x : Axis) : x.moved.goal = x.goal := x.velocity_reads Axis.goal fun _ _ _ => rfl
@[simp] theorem Axis.moved_goalPos (x : Axis) : x.moved.goalPos = x.goalPos := x.velocity_reads Axis.goalPos fun _ _ _ => rfl
@[simp] theorem Axis.moved_openPos (x : Axis) : x.moved.openPos = x.openPos := x.velocity_reads Axis.openPos fun _ _ _ => rfl
@[simp] theorem Axis.moved_closedPos (x : Axis) : x.moved.closedPos = x.closedPos := x.velocity_reads Axis.closedPos fun _ _ _ => rfl

/-- The steps leave the motion mode as it is; a stop-at's remaining distance falls by them. -/
theorem Axis.moved_motion (x : Axis) : x.moved.motion = match x.motion with
    | .stopAt angle r => .stopAt angle (r - x.steps)
    | m => m := by
  rw [← x.velocity_motion]
  rfl

@[simp] theorem Axis.moved_home_iff (x : Axis) : x.moved.motion = .home ↔ x.motion = .home := by
  rw [Axis.moved_motion]
  cases x.motion <;> simp

/-! ## The cuts (R107 to R109) -/

/-- The cut to the target, by motion mode (log entry 23). -/
theorem Axis.cutToTarget_eq (n : Nat) (x : Axis) : x.cutToTarget n = match x.motion with
    | .position p => if x.phase = .cruise then min n (p - x.pos).natAbs else n
    | .stopAt _ r => min n r
    | _ => n := by
  unfold Axis.cutToTarget
  cases x.motion <;> cases x.phase <;> simp

/-- An axis with limits to its travel (R109). -/
abbrev Axis.bounded (x : Axis) : Prop := x.kind ≠ .rotary ∧ x.homed = true

/-- The way to the limit in the direction of travel. -/
def Axis.room (x : Axis) : Nat := if x.dir = .forward then (x.highLimit - x.pos).toNat else (x.pos - x.lowLimit).toNat

theorem Axis.limitDistance_eq (x : Axis) : x.limitDistance = if x.bounded then some x.room else none := by
  have hno : (x.kind = .rotary ∨ x.homed = false) ↔ ¬x.bounded := by simp [Axis.bounded, imp_iff_not_or]
  rw [Axis.limitDistance, Axis.room]
  by_cases h : x.bounded
  · rw [if_neg (hno.not.mpr (not_not_intro h)), if_pos h]
    cases x.dir <;> rfl
  · rw [if_pos (hno.mpr h), if_neg h]

theorem Axis.velocity_limitDistance (x : Axis) : x.velocity.limitDistance = if x.bounded then some x.velocity.room else none := by
  simp only [Axis.limitDistance_eq, Axis.bounded, velocity_kind, velocity_homed]

theorem Axis.steps_eq (x : Axis) : x.steps = if x.bounded then min x.aimed x.velocity.room else x.aimed := by
  rw [Axis.steps, velocity_limitDistance]
  split <;> rfl

theorem Axis.limited_eq (x : Axis) : x.limited = decide (x.bounded ∧ x.velocity.room ≤ x.aimed) := by
  rw [Axis.limited, velocity_limitDistance]
  split <;> simp_all

/-- What the emission of `n` steps makes of the record after step 1 (R107). -/
theorem Axis.moved_eq {n : Nat} (hn : x.steps = n) : x.moved = { x.velocity with
    f := (x.velocity.f + x.velocity.v) % 1000
    pos := if x.kind = .rotary then (x.velocity.pos + if x.velocity.dir = .forward then (n : Int) else -n) % x.spr
      else x.velocity.pos + if x.velocity.dir = .forward then (n : Int) else -n
    travel := if x.kind = .rotary ∧ x.velocity.dir = .forward then min (x.velocity.travel + n) (2 * x.spr + 20) else x.velocity.travel
    homeTravel := if x.velocity.motion = .home then x.velocity.homeTravel + n else x.velocity.homeTravel
    motion := match x.velocity.motion with
      | .stopAt angle r => .stopAt angle (r - n)
      | m => m } := by
  have hpos : (match x.velocity.dir with | .forward => x.velocity.pos + (n : Int) | .reverse => x.velocity.pos - n) =
      x.velocity.pos + if x.velocity.dir = .forward then (n : Int) else -n := by
    cases x.velocity.dir <;> rfl
  rw [← x.velocity_kind, ← x.velocity_spr, ← hpos, ← hn]
  rfl

/-! ## The update, branch by branch (R107, R112 to R114) -/

/-- The index run after an update's sample: it counts under forward travel (R113). -/
def Axis.indexRunNext (input : Bool) (x : Axis) : Nat := if input = true ∧ x.dir = .forward ∧ 0 < x.v then min 2 (x.indexRun + 1) else 0

/-- The home run after an update's sample (R114). -/
def Axis.homeRunNext (input : Bool) (x : Axis) : Nat := if input then min 2 (x.homeRun + 1) else 0

/-- The update confirms an index (R113). -/
abbrev Axis.confirms (input : Bool) (x : Axis) : Prop := x.indexRunNext input = 2 ∧ x.armed = true

/-- A confirmed index as it is reported: its error and slip for a homed axis (R113). -/
def Axis.indexReport (x : Axis) : Int × Bool :=
  if x.homed then (indexError x.spr x.offset x.moved.pos, decide (x.tolerance < (indexError x.spr x.offset x.moved.pos).natAbs)) else (0, false)

/-- The record after a confirmed index. -/
def Axis.indexed (x : Axis) : Axis := x.moved.confirmIndex x.stopping

/-- The record of a ROTARY axis after a sample that confirms no index. -/
def Axis.unindexed (input : Bool) (x : Axis) : Axis := { x.moved with indexRun := x.indexRunNext input, armed := x.armed || !input }

/-- The record of an axis that looks for its home after a sample that does not confirm it. -/
def Axis.searching (input : Bool) (x : Axis) : Axis := { x.moved with homeRun := x.homeRunNext input }

/-- The sample that confirms an index is high, so the flag that arms it is the one before (R113). -/
theorem Axis.confirms_iff (input : Bool) (x : Axis) : x.confirms input ↔
    indexRunAfter input (x.dir == .forward && 0 < x.v) x.indexRun = 2 ∧ (x.armed || !input) = true := by
  cases input <;> simp [Axis.confirms, Axis.indexRunNext, indexRunAfter]

theorem Axis.indexRunNext_eq (input : Bool) (x : Axis) : indexRunAfter input (x.dir == .forward && 0 < x.v) x.indexRun = x.indexRunNext input := by
  simp [Axis.indexRunNext, indexRunAfter]

/-- A result whose record and end come from the completion. -/
def UpdateResult.ofEnd (n : Nat) (index : Option (Int × Bool)) (c : Axis × UpdateEnd) : UpdateResult :=
  { axis := c.1, pulses := n, index := index, finish := c.2 }

theorem UpdateResult.ends {r : UpdateResult} {n : Nat} {index : Option (Int × Bool)} {c c' : Axis × UpdateEnd} (h : r = .ofEnd n index c)
    (hc : c = c') : r.axis = c'.1 ∧ r.finish = c'.2 := ⟨hc ▸ congrArg UpdateResult.axis h, hc ▸ congrArg UpdateResult.finish h⟩

/-- The update of a ROTARY axis, of one that looks for its home, and of one in travel. -/
theorem Axis.update_eq (input : Bool) (x : Axis) : x.update input =
    if x.kind = .rotary then
      if x.confirms input then
        .ofEnd x.steps (some x.indexReport)
          (if x.state ≠ .fault ∧ x.motion = .home then (x.indexed.rest, .homed) else x.indexed.conclude false)
      else .ofEnd x.steps none (if x.state ≠ .fault ∧ 2 * x.spr < x.moved.travel then
          ((x.unindexed input).enterFault .indexMissing, .missing .indexMissing)
        else (x.unindexed input).conclude false)
    else .ofEnd x.steps none (if x.state ≠ .fault ∧ x.motion = .home then
        if x.homeRunNext input = 2 then x.moved.homeConfirmed
        else if 2 * (x.highLimit - x.lowLimit).toNat + 100 < x.moved.homeTravel then
          ((x.searching input).enterFault .homeMissing, .missing .homeMissing)
        else (x.searching input, .goesOn)
      else x.moved.conclude x.limited) := by
  unfold Axis.update
  extract_lets x1 n0 n1 limited n x2 run armed err report x3 c x4 c4 runh c5 x6 c7
  have hkind : x2.kind = x.kind := x.moved_kind
  have hstate : x2.state = x.state := x.moved_state
  have hmotion : x2.motion = .home ↔ x.motion = .home := x.moved_home_iff
  have hspr : x4.spr = x.spr := x.moved_spr
  have hlimits : x6.highLimit = x.highLimit ∧ x6.lowLimit = x.lowLimit := ⟨x.moved_highLimit, x.moved_lowLimit⟩
  have hrun : run = x.indexRunNext input := (congrArg (indexRunAfter input _) x.moved_indexRun).trans (x.indexRunNext_eq input)
  have harmed : armed = (x.armed || !input) := congrArg (· || !input) x.moved_armed
  have hconfirms : (run = 2 ∧ armed = true) ↔ x.confirms input := by
    rw [hrun, harmed, x.confirms_iff, x.indexRunNext_eq]
  have hreport : report = x.indexReport := by
    rw [Axis.indexReport, ← x.moved_homed, ← x.moved_spr, ← x.moved_offset, ← x.moved_tolerance]
    rfl
  have hunindexed : x4 = x.unindexed input := by
    rw [Axis.unindexed, ← hrun, ← harmed]
    rfl
  have hrunh : runh = x.homeRunNext input := by
    rw [Axis.homeRunNext, ← x.moved_homeRun]
    rfl
  have hsearching : x6 = x.searching input := by
    rw [Axis.searching, ← hrunh]
    rfl
  have htravel : x4.travel = x.moved.travel := rfl
  have hhomeTravel : x6.homeTravel = x.moved.homeTravel := rfl
  rw [← hunindexed, ← hsearching]
  simp only [hkind, hstate, hmotion, hspr, hlimits, hconfirms, hreport, hrunh, htravel, hhomeTravel]
  split_ifs <;> rfl

section
variable (input)

theorem Axis.update_pulses (x : Axis) : (x.update input).pulses = x.steps := by
  rw [x.update_eq]
  split
  · split <;> rfl
  · rfl

theorem Axis.update_indexed (hk : x.kind = .rotary) (hc : x.confirms input) : x.update input = .ofEnd x.steps (some x.indexReport)
    (if x.state ≠ .fault ∧ x.motion = .home then (x.indexed.rest, .homed) else x.indexed.conclude false) := by
  rw [x.update_eq, if_pos hk, if_pos hc]

theorem Axis.update_unindexed (hk : x.kind = .rotary) (hc : ¬x.confirms input) : x.update input = .ofEnd x.steps none
    (if x.state ≠ .fault ∧ 2 * x.spr < x.moved.travel then ((x.unindexed input).enterFault .indexMissing, .missing .indexMissing)
      else (x.unindexed input).conclude false) := by
  rw [x.update_eq, if_pos hk, if_neg hc]

section
variable (hk : x.kind ≠ .rotary)
include hk

theorem Axis.update_index_none : (x.update input).index = none := by
  rw [x.update_eq, if_neg hk]
  rfl

theorem Axis.update_searches (hs : x.state ≠ .fault ∧ x.motion = .home) : x.update input = .ofEnd x.steps none
    (if x.homeRunNext input = 2 then x.moved.homeConfirmed
      else if 2 * (x.highLimit - x.lowLimit).toNat + 100 < x.moved.homeTravel then
        ((x.searching input).enterFault .homeMissing, .missing .homeMissing)
      else (x.searching input, .goesOn)) := by
  rw [x.update_eq, if_neg hk, if_pos hs]

theorem Axis.update_travels (hs : ¬(x.state ≠ .fault ∧ x.motion = .home)) :
    x.update input = .ofEnd x.steps none (x.moved.conclude x.limited) := by
  rw [x.update_eq, if_neg hk, if_neg hs]

end
end

/-! ## The ends of an update -/

/-- The record after a confirmed index, with S from the speed before the update (R113, log entry 19). -/
theorem Axis.indexed_eq (x : Axis) : x.indexed = { x.moved with
    indexRun := 0, armed := false, travel := 0, pos := x.offset, homed := x.state != .fault
    motion := match x.moved.motion with
      | .stopAt angle _ => .stopAt angle (stopAtDistance x.spr angle x.offset x.moved.dir x.stopping)
      | m => m } := by
  rw [← x.moved_offset, ← x.moved_spr, ← x.moved_state]
  rfl

/-- An index confirmed in HOME mode: the axis stands at the offset, homed (R114). -/
theorem Axis.indexed_rest (h : x.state ≠ .fault) : x.indexed.rest = { x.moved with
    indexRun := 0, armed := false, travel := 0, pos := x.offset, homed := x.state != .fault
    state := .idle, v := 0, f := 0, motion := .none, phase := .cruise, met := false } := by
  have hhomed : x.indexed.homed = true := by rw [x.indexed_eq]; simpa using h
  rw [Axis.rest, Axis.restState, if_pos hhomed, x.indexed_eq]

/-- Home confirmed: an axis without a goal, or with its goal at 0, stands at 0 with the direction it had (R114, log entry 56). -/
theorem Axis.homeConfirmed_stands
    (h : x.goal = .none ∨ x.kind ≠ .gate ∨ (x.goal = .open_ ∧ x.openPos = 0) ∨ (x.goal = .closed ∧ x.closedPos = 0)) :
    x.homeConfirmed = ({ x with
      pos := 0, v := 0, f := 0, homed := true, homeRun := 2, state := .idle, motion := .none, phase := .cruise, met := false }, .homed) := by
  have hstay : ∀ p, x.goalPos = some p → ¬(x.kind = .gate ∧ p ≠ 0) := by
    rintro p hp ⟨hk, hne⟩
    unfold Axis.goalPos at hp
    rcases h with h | h | ⟨h, h0⟩ | ⟨h, h0⟩ <;> simp_all
  unfold Axis.homeConfirmed
  extract_lets y
  split
  · next p hp => exact if_neg (hstay p hp)
  · rfl

/-- Home confirmed: a gate axis goes on to a goal away from 0 (R114). -/
theorem Axis.homeConfirmed_onward {p : Int} (hk : x.kind = .gate) (hp : x.goalPos = some p) (hne : p ≠ 0) : x.homeConfirmed = ({ x with
    pos := 0, v := 0, f := 0, homed := true, homeRun := 2, phase := .cruise, met := false
    state := .moving, motion := .position p, dir := if 0 < p then .forward else .reverse }, .homedOnward) := by
  have htoward : ({ x with pos := 0, v := 0, f := 0, homed := true, homeRun := 2 } : Axis).toward p = if 0 < p then .forward else .reverse := by
    rw [Axis.toward]
    split
    · rfl
    · exact if_pos (by dsimp only at *; omega)
  unfold Axis.homeConfirmed
  extract_lets y
  have hy : y.goalPos = some p := hp
  rw [hy]
  refine (if_pos ⟨hk, hne⟩).trans ?_
  rw [Axis.retarget_rest rfl, htoward]

/-! ## The error of an index (R113) -/

/-- The error is the remainder of the way from the offset, or that less a revolution. -/
theorem indexError_eq (spr offset : Nat) (angle : Int) :
    indexError spr offset angle = (angle - offset) % spr ∨ indexError spr offset angle = (angle - offset) % spr - spr := by
  unfold indexError
  dsimp only
  split
  · exact .inl rfl
  · exact .inr rfl

theorem indexError_congr (spr offset : Nat) (angle : Int) : (angle - offset - indexError spr offset angle) % spr = 0 := by
  refine Int.emod_eq_zero_of_dvd ?_
  have hdiv : angle - offset - (angle - offset) % spr = spr * ((angle - offset) / spr) := by rw [Int.emod_def]; ring
  rcases indexError_eq spr offset angle with e | e <;> rw [e]
  · exact Dvd.intro _ hdiv.symm
  · exact Dvd.intro ((angle - offset) / spr + 1) (by rw [mul_add, ← hdiv]; ring)

theorem indexError_bounds {spr : Nat} (h : 0 < spr) (offset : Nat) (angle : Int) :
    -(spr : Int) < 2 * indexError spr offset angle ∧ 2 * indexError spr offset angle ≤ spr := by
  have hlow := Int.emod_nonneg (angle - offset) (show (spr : Int) ≠ 0 by omega)
  have hhigh := Int.emod_lt_of_pos (angle - offset) (show (0 : Int) < spr by omega)
  unfold indexError
  dsimp only
  split <;> omega

/-! ## The completion by motion mode (R107 to R111) -/

/-- In FAULT nothing is completed; the fraction is cleared once the axis stands (log entry 49). -/
theorem Axis.conclude_fault (h : x.state = .fault) (limited : Bool) :
    x.conclude limited = ({ x with f := if x.v = 0 then 0 else x.f }, .goesOn) := if_pos h

section
variable (h : x.state ≠ .fault) {p : Int} {angle r w : Nat} {d : Dir} (limited : Bool)
include h

theorem Axis.conclude_complete : x.conclude limited = x.complete limited := if_neg h

section
variable (hm : x.motion = .position p)
include hm

theorem Axis.conclude_arrives (hp : x.phase = .cruise) (hat : x.pos = p) : x.conclude limited = (x.rest, .arrival) := by
  simp only [Axis.conclude_complete h, Axis.complete, hm]
  exact if_pos ⟨hp, hat⟩

theorem Axis.conclude_travels (hp : x.phase = .cruise) (hat : x.pos ≠ p) : x.conclude limited = (x, .goesOn) := by
  simp only [Axis.conclude_complete h, Axis.complete, hm]
  exact (if_neg fun hno => hat hno.2).trans (if_neg (by simp [hp]))

theorem Axis.conclude_turns (hp : x.phase = .reversing) :
    x.conclude true = ({ x with v := 0, f := 0, dir := x.toward p, phase := .cruise }, .goesOn) := by
  simp only [Axis.conclude_complete h, Axis.complete, hm]
  exact (if_neg (by simp [hp])).trans (if_pos ⟨trivial, hp⟩)

theorem Axis.conclude_reverses (hp : x.phase = .reversing) : x.conclude false = (x, .goesOn) := by
  simp only [Axis.conclude_complete h, Axis.complete, hm]
  exact (if_neg (by simp [hp])).trans (if_neg (by simp))

end

theorem Axis.conclude_stopAt (hm : x.motion = .stopAt angle r) :
    x.conclude limited = if r = 0 then (x.rest, .arrival) else (x, .goesOn) := by
  simp only [Axis.conclude_complete h, Axis.complete, hm]

section
variable (hm : x.motion = .speed w d)
include hm

theorem Axis.conclude_reached (hv : x.v = w ∧ x.dir = d ∧ x.met = false) :
    x.conclude limited = if w = 0 then (x.rest, .speedReached) else ({ x with met := true }, .speedReached) := by
  simp only [Axis.conclude_complete h, Axis.complete, hm]
  exact if_pos hv

theorem Axis.conclude_unreached (hv : ¬(x.v = w ∧ x.dir = d ∧ x.met = false)) : x.conclude limited = (x, .goesOn) := by
  simp only [Axis.conclude_complete h, Axis.complete, hm]
  exact if_neg hv

end

theorem Axis.conclude_stop (hm : x.motion = .stop) :
    x.conclude limited = if x.v = 0 ∨ limited = true then (x.rest, .stopRest) else (x, .goesOn) := by
  simp only [Axis.conclude_complete h, Axis.complete, hm]

theorem Axis.conclude_searches (hm : x.motion = .none ∨ x.motion = .home) : x.conclude limited = (x, .goesOn) := by
  rcases hm with hm | hm <;> simp only [Axis.conclude_complete h, Axis.complete, hm]

end

end Sys2Proof.Machine
end

section
/-! SUPPORT. The axis update as a command and its rows (R104, R107, R113, R118, R121), and the bounds that an update keeps (R107 to R109). -/

namespace Sys2Proof.Machine

variable {s : State} {a : Fin 8} {x y z : Axis} {input : Bool}

/-! ## The rows (log entry 2) -/

theorem exec_axisUpdate (hw : s.work.isClear = true) (levels : Nat) : exec (.axisUpdate levels) s = .next (axisStep levels s) := perform_clear hw _

/-- A row that names an outcome: the due update of one axis, with the level of its input, when its result passes the row's test. -/
theorem exec_axisOutcome (hw : s.work.isClear = true) {i : Instr} {test : UpdateResult → Bool}
    (hi : exec i s = perform (forItem a.1 (axisOutcome input test)) s) : exec i s = .next
      (if s.sched.axes.getLsbD a.1 && (s.axes.get a).updates && test ((s.axes.get a).update input) then
        finish (updateAxis a (s.modPins fun p => { p with index := setLine a.1 input p.index }))
      else s) := by
  rw [hi, perform_clear hw, forItem_val]
  rfl

/-- A row that names an end of the update. -/
theorem exec_axisEnd (hw : s.work.isClear = true) {i : Instr} {e : UpdateEnd}
    (hi : exec i s = perform (forItem a.1 (axisOutcome input fun r => r.finish == e)) s) : exec i s = .next
      (if s.sched.axes.getLsbD a.1 && (s.axes.get a).updates && (((s.axes.get a).update input).finish == e) then
        finish (updateAxis a (s.modPins fun p => { p with index := setLine a.1 input p.index }))
      else s) := exec_axisOutcome hw hi

theorem directionLine_iff (s : State) (a : Fin 8) : s.directionLine a = true ↔ (s.axes.get a).dir = .forward := beq_iff_eq

/-! ## The update of one due axis (R107, R113, R118, R121) -/

/-- An axis's update taken: its record and its pulses written. -/
def State.wroteAxis (a : Fin 8) (y : Axis) (n : Nat) (s : State) : State :=
  ((s.modSched fun d => { d with axes := d.axes &&& ~~~(1#8 <<< a.1) }).modAxis a fun _ => { y with resume := false }).modOuts fun o =>
    { o with pulses := o.pulses.set a n }

theorem wroteAxis_goal (y : Axis) (n : Nat) (s : State) : ((s.wroteAxis a y n).axes.get a).goal = y.goal := by
  rw [State.wroteAxis, State.modOuts_axes, State.modAxis_axes, Table.get_modify_self]

/-- The event of a confirmed index (R113). -/
def UpdateResult.indexEvents (a : Fin 8) (r : UpdateResult) : List Event :=
  match r.index with
  | some (err, slip) => [Event.axisIndex a err slip]
  | none => []

/-- The update of an axis that moves: its record and pulses, the event of its index before those of its end, then its gate state (log entry
36). -/
theorem updateAxis_ends (h : (s.axes.get a).updates = true) {es : List Event}
    (he : ((s.axes.get a).update (s.pins.index.getLsbD a.1)).finish.events a = es) : updateAxis a s = syncGate a
      ((s.wroteAxis a ((s.axes.get a).update (s.pins.index.getLsbD a.1)).axis ((s.axes.get a).update (s.pins.index.getLsbD a.1)).pulses).raiseAll
        (((s.axes.get a).update (s.pins.index.getLsbD a.1)).indexEvents a ++ es)) := by
  rw [← he]
  exact if_pos h

theorem UpdateEnd.events_done {e : UpdateEnd} (h : e = .arrival ∨ e = .speedReached ∨ e = .stopRest ∨ e = .homed) (a : Fin 8) :
    e.events a = [.axisDone a] := by
  rcases h with rfl | rfl | rfl | rfl <;> rfl

theorem UpdateEnd.events_onward {e : UpdateEnd} (h : e = .goesOn ∨ e = .homedOnward) (a : Fin 8) : e.events a = [] := by
  rcases h with rfl | rfl <;> rfl

section
variable (h : (s.axes.get a).updates = false)
include h

theorem updateAxis_stands : updateAxis a s =
    if (s.axes.get a).resume then carryGoal a (s.wroteAxis a (s.axes.get a) 0) else s.wroteAxis a (s.axes.get a) 0 := by
  have hwrote : ((s.modSched fun d => { d with axes := d.axes &&& ~~~(1#8 <<< a.1) }).modAxis a fun x => { x with resume := false }).modOuts
      (fun o => { o with pulses := o.pulses.set a 0 }) = s.wroteAxis a (s.axes.get a) 0 :=
    congrArg (State.modOuts _) (State.modAxis_congr rfl)
  rw [← hwrote]
  exact if_neg (by simp [h])

theorem updateAxis_left (hr : (s.axes.get a).resume = false ∨ (s.axes.get a).goal = .none) :
    updateAxis a s = s.wroteAxis a (s.axes.get a) 0 := by
  rw [updateAxis_stands h]
  split
  · next hres =>
    have hgoal : (s.axes.get a).goal = .none := hr.resolve_left (by simp [hres])
    simp only [carryGoal, wroteAxis_goal, hgoal]
  · rfl

variable (hr : (s.axes.get a).resume = true)
include hr

theorem updateAxis_opens (hg : (s.axes.get a).goal = .open_) : updateAxis a s = gateCommand a .open_ (s.wroteAxis a (s.axes.get a) 0) := by
  rw [updateAxis_stands h, if_pos hr]
  simp only [carryGoal, wroteAxis_goal, hg]

theorem updateAxis_closes (hg : (s.axes.get a).goal = .closed) : updateAxis a s = gateCommand a .close (s.wroteAxis a (s.axes.get a) 0) := by
  rw [updateAxis_stands h, if_pos hr]
  simp only [carryGoal, wroteAxis_goal, hg]

end

/-! ## The speed stays within the max speed (R107, R108) -/

/-- The order of an axis's speeds: creep, the present and the wanted speed are at most the max speed. -/
structure Axis.Paced (x : Axis) : Prop where
  creep : x.creep ≤ x.maxSpeed
  speed : x.v ≤ x.maxSpeed
  wanted : ∀ w d, x.motion = .speed w d → w ≤ x.maxSpeed

theorem Axis.Paced.rampTo_le (h : x.Paced) {w : Nat} (hw : w ≤ x.maxSpeed) (d : Dir) : (x.rampTo w d).v ≤ x.maxSpeed := by
  have hv := h.speed
  by_cases hd : d = x.dir ∨ x.v = 0
  · rw [Axis.rampTo_on hd]
    dsimp only
    split <;> omega
  · obtain ⟨hd, hrun⟩ := not_or.mp hd
    by_cases hstop : x.v ≤ x.accel
    · rw [Axis.rampTo_turns hd (Nat.pos_of_ne_zero hrun) hstop]
      exact Nat.zero_le _
    · rw [Axis.rampTo_slows hd (Nat.not_le.mp hstop)]
      exact (Nat.sub_le ..).trans hv

theorem Axis.Paced.targetSpeed_le (h : x.Paced) (r : Nat) : x.targetSpeed r ≤ x.maxSpeed := by
  have hv := h.speed
  have hc := h.creep
  unfold Axis.targetSpeed
  split <;> omega

theorem Axis.Paced.velocity_le (h : x.Paced) : x.velocity.v ≤ x.maxSpeed := by
  have hslower : x.v - x.accel ≤ x.maxSpeed := (Nat.sub_le ..).trans h.speed
  by_cases hf : x.state = .fault
  · rw [Axis.velocity_fault hf]
    exact hslower
  · cases hm : x.motion with
    | none =>
      rw [Axis.velocity_none hf hm]
      exact h.speed
    | speed w d =>
      rw [Axis.velocity_speed hf hm]
      exact h.rampTo_le (h.wanted w d hm) d
    | position p =>
      cases hp : x.phase with
      | cruise =>
        rw [Axis.velocity_cruise hf hm hp]
        exact h.targetSpeed_le _
      | reversing =>
        by_cases hv : x.v ≤ x.accel
        · rw [Axis.velocity_turns hf hm hp hv]
          exact Nat.zero_le _
        · rw [Axis.velocity_reversing hf hm hp (Nat.not_le.mp hv)]
          exact hslower
    | stopAt angle r =>
      rw [Axis.velocity_stopAt hf hm]
      exact h.targetSpeed_le r
    | stop =>
      rw [Axis.velocity_stop hf hm]
      exact hslower
    | home =>
      rw [Axis.velocity_home hf hm]
      exact h.rampTo_le h.creep _

/-! ## The place stays within the limits and the revolution (R107, R109) -/

/-- A record with the configuration of `x`, a speed within its max speed and a place within its limits or its revolution. -/
structure Axis.Within (x y : Axis) : Prop where
  maxSpeed : y.maxSpeed = x.maxSpeed
  lowLimit : y.lowLimit = x.lowLimit
  highLimit : y.highLimit = x.highLimit
  speed : y.v ≤ x.maxSpeed
  position : y.homed = true → x.kind ≠ .rotary → x.lowLimit ≤ y.pos ∧ y.pos ≤ x.highLimit
  angle : x.kind = .rotary → x.offset < x.spr → 0 ≤ y.pos ∧ y.pos < x.spr

/-- A record with the configuration, the place and the homed flag of another, no faster. -/
structure Axis.Slowed (y z : Axis) : Prop where
  maxSpeed : z.maxSpeed = y.maxSpeed
  lowLimit : z.lowLimit = y.lowLimit
  highLimit : z.highLimit = y.highLimit
  speed : z.v ≤ y.v
  homed : z.homed = true → y.homed = true
  pos : z.pos = y.pos

theorem Axis.Within.slowed (h : x.Within y) (hz : y.Slowed z) : x.Within z where
  maxSpeed := hz.maxSpeed.trans h.maxSpeed
  lowLimit := hz.lowLimit.trans h.lowLimit
  highLimit := hz.highLimit.trans h.highLimit
  speed := hz.speed.trans h.speed
  position hh := hz.pos ▸ h.position (hz.homed hh)
  angle := hz.pos ▸ h.angle

theorem Axis.slowed_rest (y : Axis) : y.Slowed y.rest := ⟨rfl, rfl, rfl, Nat.zero_le _, id, rfl⟩

theorem Axis.slowed_enterFault (y : Axis) (code : AxisFaultCode) : y.Slowed (y.enterFault code) := ⟨rfl, rfl, rfl, le_rfl, nofun, rfl⟩

theorem Axis.slowed_conclude (y : Axis) (limited : Bool) : y.Slowed (y.conclude limited).1 := by
  have hsame : y.Slowed y := ⟨rfl, rfl, rfl, le_rfl, id, rfl⟩
  by_cases hf : y.state = .fault
  · rw [Axis.conclude_fault hf]
    exact ⟨rfl, rfl, rfl, le_rfl, id, rfl⟩
  · rw [Axis.conclude_complete hf]
    unfold Axis.complete
    split
    · split
      · exact y.slowed_rest
      · split
        · exact ⟨rfl, rfl, rfl, Nat.zero_le _, id, rfl⟩
        · exact hsame
    · split <;> [exact y.slowed_rest; exact hsame]
    · split
      · split <;> [exact y.slowed_rest; exact ⟨rfl, rfl, rfl, le_rfl, id, rfl⟩]
      · exact hsame
    · split <;> [exact y.slowed_rest; exact hsame]
    · exact hsame
    · exact hsame

section
variable (hv : x.velocity.v ≤ x.maxSpeed)
include hv

/-- The steps end within the limit ahead and within the revolution. -/
theorem Axis.within_moved (hspr : 2 ≤ x.spr)
    (hpos : x.homed = true → x.kind ≠ .rotary → x.lowLimit ≤ x.pos ∧ x.pos ≤ x.highLimit) : x.Within x.moved where
  maxSpeed := x.moved_maxSpeed
  lowLimit := x.moved_lowLimit
  highLimit := x.moved_highLimit
  speed := hv
  position hh hk := by
    have hhomed : x.homed = true := x.moved_homed ▸ hh
    have hin := hpos hhomed hk
    have hsteps : x.steps ≤ x.velocity.room := by
      rw [x.steps_eq, if_pos ⟨hk, hhomed⟩]
      exact Nat.min_le_right _ _
    rw [x.moved_eq rfl]
    simp only [if_neg hk, Axis.velocity_pos]
    unfold Axis.room at hsteps
    simp only [Axis.velocity_highLimit, Axis.velocity_lowLimit, Axis.velocity_pos] at hsteps
    split at hsteps
    · next hd =>
      rw [if_pos hd]
      omega
    · next hd =>
      rw [if_neg hd]
      omega
  angle hk _ := by
    rw [x.moved_eq rfl]
    simp only [if_pos hk]
    exact ⟨Int.emod_nonneg _ (by omega), Int.emod_lt_of_pos _ (by omega)⟩

theorem Axis.within_indexed (hk : x.kind = .rotary) : x.Within x.indexed := by
  rw [x.indexed_eq]
  exact ⟨x.moved_maxSpeed, x.moved_lowLimit, x.moved_highLimit, hv, fun _ hno => absurd hk hno, fun _ hoff => by dsimp only; omega⟩

end

theorem Axis.within_homeConfirmed (hk : x.kind ≠ .rotary) (hlow : x.lowLimit ≤ 0) (hhigh : 0 ≤ x.highLimit) :
    x.Within x.moved.homeConfirmed.1 := by
  have hstands : x.Within { x.moved with pos := 0, v := 0, f := 0, homed := true, homeRun := 2 } :=
    ⟨x.moved_maxSpeed, x.moved_lowLimit, x.moved_highLimit, Nat.zero_le _, fun _ _ => ⟨hlow, hhigh⟩, fun hr => absurd hr hk⟩
  unfold Axis.homeConfirmed
  extract_lets y
  split
  · split
    · rw [Axis.retarget_rest rfl]
      exact hstands.slowed ⟨rfl, rfl, rfl, Nat.zero_le _, id, rfl⟩
    · exact hstands.slowed y.slowed_rest
  · exact hstands.slowed y.slowed_rest

/-- An update ends within the bounds, in each of its branches. -/
theorem Axis.within_update (h : x.Paced) (hspr : 2 ≤ x.spr) (hlow : x.lowLimit ≤ 0) (hhigh : 0 ≤ x.highLimit)
    (hpos : x.homed = true → x.kind ≠ .rotary → x.lowLimit ≤ x.pos ∧ x.pos ≤ x.highLimit) (input : Bool) : x.Within (x.update input).axis := by
  have hmoved := Axis.within_moved h.velocity_le hspr hpos
  have hunindexed : x.Within (x.unindexed input) := hmoved.slowed ⟨rfl, rfl, rfl, le_rfl, id, rfl⟩
  have hsearching : x.Within (x.searching input) := hmoved.slowed ⟨rfl, rfl, rfl, le_rfl, id, rfl⟩
  rw [x.update_eq]
  split
  · next hk =>
    have hindexed := Axis.within_indexed h.velocity_le hk
    split
    · change x.Within (Prod.fst _)
      split
      · exact hindexed.slowed (Axis.slowed_rest _)
      · exact hindexed.slowed (Axis.slowed_conclude _ _)
    · change x.Within (Prod.fst _)
      split
      · exact hunindexed.slowed (Axis.slowed_enterFault _ _)
      · exact hunindexed.slowed (Axis.slowed_conclude _ _)
  · next hk =>
    change x.Within (Prod.fst _)
    split
    · split
      · exact Axis.within_homeConfirmed hk hlow hhigh
      · split
        · exact hsearching.slowed (Axis.slowed_enterFault _ _)
        · exact hsearching
    · exact hmoved.slowed (Axis.slowed_conclude _ _)

/-- An axis that is completed as arrived at a position stands there. -/
theorem Axis.conclude_arrival {p : Int} {limited : Bool} (hm : y.motion = .position p) (h : (y.conclude limited).2 = .arrival) :
    y.pos = p ∧ (y.conclude limited).1 = y.rest := by
  have hf : y.state ≠ .fault := fun hf => by rw [Axis.conclude_fault hf] at h; cases h
  cases hp : y.phase with
  | cruise =>
    by_cases hat : y.pos = p
    · rw [Axis.conclude_arrives hf limited hm hp hat]
      exact ⟨hat, rfl⟩
    · rw [Axis.conclude_travels hf limited hm hp hat] at h
      cases h
  | reversing =>
    cases limited with
    | true => rw [Axis.conclude_turns hf hm hp] at h; cases h
    | false => rw [Axis.conclude_reverses hf hm hp] at h; cases h

/-- An update that ends in an arrival at a position leaves the axis there at rest. -/
theorem Axis.update_arrival {p : Int} (hk : x.kind ≠ .rotary) (hm : x.motion = .position p) (h : (x.update input).finish = .arrival) :
    (x.update input).axis.pos = p ∧ (x.update input).axis = x.moved.rest := by
  have hmoved : x.moved.motion = .position p := by rw [x.moved_motion, hm]
  have hupdate : x.update input = .ofEnd x.steps none (x.moved.conclude x.limited) := by
    rw [x.update_eq, if_neg hk, if_neg (by simp [hm])]
  rw [hupdate] at h ⊢
  obtain ⟨hat, hrest⟩ := Axis.conclude_arrival hmoved h
  exact ⟨(congrArg Axis.pos hrest).trans hat, hrest⟩

end Sys2Proof.Machine
end

section
/-! SUPPORT. The rails (R119, R154 to R158): the programs and their requests, a change of the rails with what the blocks do at it, and the
axes at the MOTION rail. -/

namespace Sys2Proof.Machine

variable {s : State} {q : Program} {i : Fin 8} {steps : List (Nat × Nat)}

@[simp] theorem programOf_code (q : Program) : programOf q.code = some q := by cases q <;> rfl

theorem programOf_beyond {n : Nat} (h : 1 < n) : programOf n = none := by
  obtain ⟨k, rfl⟩ := Nat.exists_eq_add_of_le' (show 2 ≤ n from h)
  rfl

/-! ## RAIL_PROGRAM (R155) -/

/-- The supply with one of its programs replaced. -/
def Supply.setProgram (q : Program) (t : Table (Nat × Rails) 8) (k : Supply) : Supply :=
  match q with
  | .raise => { k with raise := t }
  | .lower => { k with lower := t }

theorem readProgram_eq {t : Table (Nat × Rails) 8} (ht : t.items = steps.map fun x => (x.1, railsOf x.2)) : readProgram steps = some t := by
  obtain ⟨items, size⟩ := t
  subst ht
  exact dif_pos size

theorem doRailProgram_program {n : Nat} (h : 1 < n) : doRailProgram n steps s = (s, refuse .outOfRange) := by
  rw [doRailProgram, programOf_beyond h]

/-- The first step whose e lies above 15 is named (log entry 57). -/
theorem doRailProgram_delay {before after : List (Nat × Nat)} {x : Nat × Nat} (hs : steps = before ++ x :: after)
    (hb : ∀ y ∈ before, y.1 ≤ 15) (hx : 15 < x.1) : doRailProgram q.code steps s = (s, refuseAt .outOfRange 1 before.length 0) := by
  have hfirst : firstIdx (fun x : Nat × Nat => 15 < x.1) steps 0 = some before.length := by
    rw [hs, firstIdx_append (fun y hy => by simpa using hb y hy) (by simpa using hx), Nat.zero_add]
  simp only [doRailProgram, programOf_code, hfirst]

section
variable (hfit : ∀ x ∈ steps, x.1 ≤ 15)
include hfit

theorem firstDelay_none : firstIdx (fun x : Nat × Nat => 15 < x.1) steps 0 = none := firstIdx_none (fun x hx => by simpa using hfit x hx) 0

theorem doRailProgram_busy (h : s.supply.seq ≠ .idle) : doRailProgram q.code steps s = (s, refuse .wrongState) := by
  simp only [doRailProgram, programOf_code, firstDelay_none hfit]
  exact if_pos h

theorem doRailProgram_stored (h : s.supply.seq = .idle) {t : Table (Nat × Rails) 8}
    (ht : t.items = steps.map fun x => (x.1, railsOf x.2)) : doRailProgram q.code steps s = (s.modSupply (Supply.setProgram q t), okay) := by
  simp only [doRailProgram, programOf_code, firstDelay_none hfit, readProgram_eq ht]
  refine (if_neg (not_not_intro h)).trans ?_
  cases q <;> rfl

end

/-! ## RAIL_RAISE, RAIL_LOWER and RAIL_SET (R156, R158) -/

theorem startProgram_starts (h : s.supply.seq.runs q = false) : startProgram q s = (s.modSupply (Supply.load q 0), taken) :=
  if_neg (by simp [h])

theorem startProgram_runs (h : s.supply.seq.runs q = true) : startProgram q s = (s, okay) := if_pos h

theorem doRailSet_set (h : s.supply.seq = .idle) (pattern : Nat) : doRailSet pattern s = (setRails (railsOf pattern) s, okay) :=
  if_neg (not_not_intro h)

theorem doRailSet_busy (h : s.supply.seq ≠ .idle) (pattern : Nat) : doRailSet pattern s = (s, refuse .wrongState) := if_pos h

/-! ## What the blocks do at a rail's change leaves the supply (R154) -/

theorem resyncAll_supply (s : State) : (resyncAll s).supply = s.supply :=
  keeps_forEach (P := fun u => u.supply = s.supply) (f := resync) (fun _ _ h => h) _ rfl

theorem emergencyStopOne_supply (reason : StopReason) (t : Fin 8) (s : State) : (emergencyStopOne reason t s).supply = s.supply := by
  unfold emergencyStopOne
  dsimp only
  split
  · split
    · rfl
    · rw [State.raise_supply, State.modTrain_supply]
  · rfl

theorem emergencyStop_supply (reason : StopReason) (s : State) : (emergencyStop reason s).supply = s.supply := by
  rw [emergencyStop, resyncAll_supply]
  exact keeps_forEach (P := fun u => u.supply = s.supply) (fun t u h => (emergencyStopOne_supply reason t u).trans h) _ rfl

theorem stopAxes_supply (f : Axis → Axis) (ended : List (Fin 8)) (s : State) : (stopAxes f ended s).supply = s.supply :=
  (syncStable_supply s.supply).syncAll
    (keeps_forEach (P := fun u => u.supply = s.supply) (f := fun a => State.handEnding (.axis a)) (fun _ _ h => h) _ rfl)

theorem railReaction_supply (r : Rail) (up : Bool) (s : State) : (railReaction r up s).supply = s.supply := by
  cases r <;> cases up
  case track.false => exact emergencyStop_supply .rail s
  case track.true => exact resyncAll_supply s
  case motion.false => exact stopAxes_supply Axis.railDown s.axesUnderWay s
  case motion.true => exact stopAxes_supply Axis.railUp [] s
  all_goals rfl

theorem railChanged_supply (old : Rails) (r : Rail) (s : State) : (railChanged old r s).supply = s.supply := by
  unfold railChanged
  dsimp only
  split
  · rfl
  · rw [railReaction_supply, State.raise_supply]

/-! ## The rails set to a pattern (R154) -/

/-- A rail of the new pattern reported, with what the blocks do at it, when it was another before. -/
def railTurned (old new : Rails) (r : Rail) (s : State) : State :=
  if old.up r = new.up r then s else railReaction r (new.up r) (s.raise (.railChange r (new.up r)))

theorem railChanged_eq {old new : Rails} (h : s.supply.rails = new) (r : Rail) : railChanged old r s = railTurned old new r s := by
  subst h
  rfl

/-- The changes in their order, TRACK, MOTION, LIGHTS, AUX. -/
theorem setRails_eq (pattern : Rails) (s : State) : setRails pattern s =
    railTurned s.supply.rails pattern .aux (railTurned s.supply.rails pattern .lights (railTurned s.supply.rails pattern .motion
      (railTurned s.supply.rails pattern .track (s.modSupply fun k => { k with rails := pattern })))) := by
  have hset : (s.modSupply fun k => { k with rails := pattern }).supply.rails = pattern := rfl
  have hkeep {u : State} (h : u.supply.rails = pattern) (r : Rail) : (railChanged s.supply.rails r u).supply.rails = pattern := by
    rw [railChanged_supply, h]
  have htrack := hkeep hset .track
  have hmotion := hkeep htrack .motion
  rw [← railChanged_eq hset, ← railChanged_eq htrack, ← railChanged_eq hmotion, ← railChanged_eq (hkeep hmotion .lights)]
  rfl

theorem setRails_supply (pattern : Rails) (s : State) : (setRails pattern s).supply = { s.supply with rails := pattern } :=
  keeps_forEach (P := fun u => u.supply = { s.supply with rails := pattern }) (fun r u h => (railChanged_supply _ r u).trans h) _ rfl

/-- A pattern equal to the rails raises nothing. -/
theorem setRails_same (s : State) : setRails s.supply.rails s = s := by
  rw [setRails_eq]
  simp only [railTurned, if_true]
  rfl

/-! ## A program step (R157) -/

theorem exec_railProgramStep (hw : s.work.isClear = true) : exec .railProgramStep s = .next (whenDue s.programDue programStep s) :=
  perform_clear hw fun s => whenDue s.programDue programStep s

theorem exec_railProgramStep_early (hw : s.work.isClear = true) (h : ∀ q i, s.supply.seq ≠ .active q i 0) :
    exec .railProgramStep s = .next s := by
  have hdue : s.programDue = false := by
    unfold State.programDue
    split
    · next q i hq => exact absurd hq (h q i)
    · rfl
  rw [exec_railProgramStep hw, hdue]
  rfl

section
variable (h : s.supply.seq = .active q i 0)
include h

theorem exec_railProgramStep_due (hw : s.work.isClear = true) : exec .railProgramStep s = .next (finish (programStep s)) := by
  have hdue : s.programDue = true := by simp only [State.programDue, h]
  rw [exec_railProgramStep hw, hdue]
  rfl

/-- The next step is loaded with its own delay. -/
theorem programStep_next (hi : i.1 + 1 < 8) :
    programStep s = (setRails ((s.supply.program q).get i).2 s).modSupply (Supply.load q ⟨i.1 + 1, hi⟩) := by
  simp only [programStep, h]
  exact dif_pos hi

/-- After the last step the sequencer is IDLE. -/
theorem programStep_last (hi : ¬i.1 + 1 < 8) : programStep s =
    ((setRails ((s.supply.program q).get i).2 s).modSupply fun k => { k with seq := .idle }).raise (.railDone q) := by
  simp only [programStep, h]
  exact dif_neg hi

end

/-! ## The axes at the MOTION rail (R119) -/

section
variable {a : Fin 8} {x : Axis}

/-- At DOWN an axis stands, its home unknown. -/
theorem motionDown_axis (a : Fin 8) (s : State) : (motionDown s).axes.get a = { (s.axes.get a).railDown with reported := .unknown } := by
  have hunknown : (s.axes.get a).railDown.gateState = .unknown := (Axis.gateState_unknown_iff _).mpr (.inr rfl)
  rw [motionDown, stopAxes_axis, Axis.shown, hunknown]

/-- Each axis under way ends at DOWN. -/
theorem motionDown_ending (h : (s.axes.get a).state = .moving ∨ (s.axes.get a).state = .homing) :
    ∃ n, (n, .ending (.axis a)) ∈ (motionDown s).work.held := by
  obtain ⟨n, hn⟩ := handEndings_held (mem_axesUnderWay.mpr h) (s.modAxes Axis.railDown)
  rw [motionDown]
  exact ⟨n, (syncStable_held (n, .ending (.axis a))).syncAll hn⟩

theorem motionUp_axis (a : Fin 8) (s : State) : (motionUp s).axes.get a = (s.axes.get a).railUp.shown := stopAxes_axis _ _ a s

/-- A GATE axis that searches for its home, its gate state reported. -/
theorem Axis.enterHoming_shown (hk : x.kind = .gate) : x.enterHoming.shown = { x with
    state := .homing, homed := false, fault := none, homeRun := 0, homeTravel := 0, motion := .home, met := false, reported := .unknown
    dir := if x.v = 0 then .reverse else x.dir, phase := if x.v = 0 ∨ x.dir = .reverse then .cruise else .reversing } := by
  have hdir : x.homeDir = .reverse := if_neg (by simp [hk])
  have hunknown : x.enterHoming.gateState = .unknown := (Axis.gateState_unknown_iff _).mpr (.inr (by rw [x.enterHoming_eq]))
  rw [Axis.shown, hunknown, x.enterHoming_eq, hdir]

/-- At UP a GATE axis with a goal searches for its home. -/
theorem Axis.railUp_homes (hk : x.kind = .gate) (hs : x.state = .unhomed) (hg : x.goal ≠ .none) : x.railUp = x.enterHoming :=
  if_pos ⟨hk, hs, hg⟩

theorem Axis.railUp_stays (h : ¬(x.kind = .gate ∧ x.state = .unhomed ∧ x.goal ≠ .none)) : x.railUp = x := if_neg h

end

end Sys2Proof.Machine
end

section
/-! SUPPORT. The statements on the motion axes and the rails settled: each by its lemmas above. -/

namespace Sys2Proof.MotionAxes

open Sys2Proof.Machine

/-- Settles O43: each request by the axis's kind, homed flag and state; the steps to a stop angle by the direction, the target taken by
the speed and by what lies ahead. -/
theorem axisRequests : Obligations.AxisRequests := by
  refine ⟨fun tag a speed angle d position s h hup => ⟨fun hk hs hm => ?_, Axis.meets_iff _ _ _, fun hk hs h0 => ?_, fun hk hs hw hv hd => ?_,
    fun hk hh hs ha => ⟨fun hfar => ?_, fun hfar => ?_⟩, fun hk hh hs => ⟨fun hp => ?_, fun hp => ?_⟩, fun hfree hs => ?_, fun hs => ?_,
    fun hk hs => ?_, fun hk hs => ?_⟩, fun tag a s h hk => ⟨fun hs => ?_, fun hs => ?_⟩, fun spr angle S pos d hspr => ?_,
    fun p x => ⟨fun hv => x.retarget_rest hv p, fun hv hp hfar => x.retarget_ahead hv hp hfar, fun hv hno => x.retarget_reverses hv hno⟩⟩
  · rw [← funext (Axis.startSpeed_eq _ d)]
    exact exec_served h rfl rfl (doAxisSpeed_taken hk hup hs hm)
  · subst h0
    exact exec_served h rfl rfl (doAxisSpeed_rests hk hup hs)
  · exact exec_served h rfl rfl (doAxisSpeed_runs hk hup hs hw hv hd)
  · exact exec_served h rfl rfl (doAxisStopAt_taken hk hup ⟨hh, hs⟩ ha hfar)
  · exact exec_served h rfl rfl (doAxisStopAt_there hk hup ⟨hh, hs⟩ ha hfar)
  · exact exec_served h rfl rfl (doAxisMove_there hk hup ⟨hh, hs⟩ rfl hp)
  · exact exec_served h rfl rfl (doAxisMove_taken hk hup ⟨hh, hs⟩ rfl hp)
  · rw [← funext Axis.enterHoming_eq]
    exact exec_served h rfl rfl (doAxisHome_taken hup hfree hs)
  · exact exec_query h rfl rfl (doAxisHome_homing hup hs)
  · exact exec_served h rfl rfl (doAxisStop_underWay hk hs)
  · exact exec_served h rfl rfl (doAxisStop_stands hk hs)
  · exact exec_served h rfl rfl (doAxisStop_stands hk hs)
  · exact exec_served h rfl rfl (doAxisStop_underWay hk hs)
  · refine ⟨stepsTo spr angle pos d, stepsTo_lt hspr angle pos d, ?_, ?_, stopAtDistance_eq spr angle pos d S⟩
    · rintro rfl
      exact stepsTo_forward hspr angle pos
    · rintro rfl
      exact stepsTo_reverse hspr angle pos

/-- Settles O44: each request by the first check that fails. -/
theorem axisRequestsRefused : Obligations.AxisRequestsRefused := by
  intro tag a speed angle direction position s h
  refine ⟨fun hk => ⟨⟨?_, ?_, ?_⟩, ?_⟩, fun hk => ⟨?_, ?_⟩, fun hk => ?_, fun hno => ⟨fun hk => ⟨?_, ?_⟩, fun hk => ?_, ?_⟩, fun hk hs => ?_,
    fun hk hs => ?_, fun hk hs _ => ?_, fun hk hup hs => ?_, fun hk hup hfree hs => ?_, fun hk hup hfree hs => ?_, fun hk hup hs hd => ?_,
    fun hk hup hh hs ha => ?_, fun n hn => ⟨⟨?_, ?_, ?_⟩, ?_, ?_⟩⟩
  · exact exec_query h rfl rfl (doAxisSpeed_barred (bars_gate hk))
  · exact exec_query h rfl rfl (doAxisStopAt_barred (bars_gate hk))
  · exact exec_query h rfl rfl (doAxisMove_barred (bars_gate hk))
  · exact exec_query h rfl rfl (doAxisStop_gate hk)
  · exact exec_query h rfl rfl (doAxisSpeed_barred (bars_kind hk nofun nofun))
  · exact exec_query h rfl rfl (doAxisStopAt_barred (bars_kind hk nofun nofun))
  · exact exec_query h rfl rfl (doAxisMove_barred (bars_kind hk nofun nofun))
  · exact exec_query h rfl rfl (doAxisSpeed_barred (bars_interlocked hk nofun hno))
  · exact exec_query h rfl rfl (doAxisStopAt_barred (bars_interlocked hk nofun hno))
  · exact exec_query h rfl rfl (doAxisMove_barred (bars_interlocked hk nofun hno))
  · exact exec_query h rfl rfl (doAxisHome_interlocked hno)
  · exact exec_query h rfl rfl (doAxisStop_held hk hs)
  · exact exec_query h rfl rfl (doAxisStop_fault hk hs)
  · exact exec_served h rfl rfl (doAxisStop_stands hk hs)
  · exact exec_query h rfl rfl (doAxisSpeed_wrongState hk hup hs)
  · exact exec_query h rfl rfl (doAxisStopAt_wrongState hk hup hfree (Axis.not_takesTarget hs))
  · exact exec_query h rfl rfl (doAxisMove_wrongState hk hup hfree (Axis.not_takesTarget hs))
  · exact exec_query h rfl rfl (doAxisSpeed_direction hk hup hs hd)
  · exact exec_query h rfl rfl (doAxisStopAt_angle hk hup ⟨hh, hs⟩ ha)
  · exact exec_query h rfl rfl (doAxisSpeed_beyond hn)
  · exact exec_query h rfl rfl (doAxisStopAt_beyond hn)
  · exact exec_query h rfl rfl (doAxisMove_beyond hn)
  · exact exec_query h rfl rfl (doAxisHome_beyond hn)
  · exact exec_query h rfl rfl (doAxisStop_beyond hn)

/-- Settles O46: the branches of the update keep the bounds; an arrival stands at its target. -/
theorem axisStaysInBounds : Obligations.AxisStaysInBounds := by
  intro x input hc hv hspr hw _ hlow hhigh hpos
  have hwithin := Axis.within_update ⟨hc, hv, hw⟩ hspr hlow hhigh hpos input
  refine ⟨hwithin.maxSpeed ▸ hwithin.speed, fun hh hk => ?_, hwithin.angle, fun p hk hm he => ?_⟩
  · rw [hwithin.lowLimit, hwithin.highLimit]
    exact hwithin.position hh hk
  · obtain ⟨hat, hrest⟩ := Axis.update_arrival hk hm he
    refine ⟨hat, ?_⟩
    rw [hrest]
    exact ⟨rfl, rfl, rfl⟩

/-- Settles O45: the rows by the update's result, one due update by its end, the velocity by motion mode and phase, the update by the branches
of its equation, the completion by motion mode. -/
theorem axisRows : Obligations.AxisRows := by
  refine ⟨fun levels a input s hw => ⟨exec_axisUpdate hw levels, exec_axisEnd hw rfl, exec_axisEnd hw rfl, exec_axisEnd hw rfl,
      exec_axisEnd hw rfl, exec_axisEnd hw rfl, exec_axisOutcome hw (test := UpdateResult.seesIndex) rfl,
      exec_axisOutcome hw (test := UpdateResult.seesHome) rfl⟩,
    fun a s => ⟨directionLine_iff s a, fun h => ⟨fun he => ?_, fun code he => ?_, fun he => ?_⟩,
      fun h => ⟨updateAxis_left h, updateAxis_opens h, updateAxis_closes h⟩⟩,
    fun x w R d p => ?_, fun input x => ?_, fun spr offset angle h => ⟨indexError_congr spr offset angle, indexError_bounds h offset angle⟩,
    fun limited x p angle R w d => ⟨fun hf => Axis.conclude_fault hf limited, fun hf => ⟨fun hm => ⟨Axis.conclude_arrives hf limited hm,
      Axis.conclude_travels hf limited hm, ?_, ?_⟩, Axis.conclude_stopAt hf limited,
      fun hm => ⟨fun hv hd hmet => Axis.conclude_reached hf limited hm ⟨hv, hd, hmet⟩, Axis.conclude_unreached hf limited hm⟩,
      Axis.conclude_stop hf limited, Axis.conclude_searches hf limited⟩⟩⟩
  · exact updateAxis_ends h (UpdateEnd.events_done he a)
  · exact updateAxis_ends h (by rw [he]; rfl)
  · have hend := updateAxis_ends h (UpdateEnd.events_onward he a)
    rwa [List.append_nil] at hend
  · refine ⟨Axis.stopping_bounds, Axis.velocity_fault, fun hf => ⟨fun hm => ?_, fun hm => ?_, Axis.velocity_stop hf,
      fun angle => Axis.velocity_stopAt hf, Axis.velocity_cruise hf, Axis.velocity_reversing hf, Axis.velocity_turns hf⟩⟩
    · rw [Axis.velocity_speed hf hm]
      exact ⟨Axis.rampTo_on, Axis.rampTo_turns, Axis.rampTo_slows⟩
    · rw [Axis.velocity_home hf hm]
      exact ⟨Axis.rampTo_on, Axis.rampTo_turns, Axis.rampTo_slows⟩
  · intro y aimed bounded room n moved z u ends faulted stands run homeRun
    have haimed : x.aimed = aimed := x.velocity.cutToTarget_eq _
    have hsteps : x.steps = n := by rw [x.steps_eq, haimed]; rfl
    have hz : x.moved = z := x.moved_eq hsteps
    have hlimited : x.limited = decide (bounded ∧ room ≤ aimed) := by rw [x.limited_eq, haimed]; rfl
    clear_value aimed n z
    subst haimed hsteps hz
    refine ⟨x.update_pulses input, fun hk hc => ?_, fun hk hc => ?_, fun hk => ⟨?_, fun hf hm hr => ?_, fun hf hm hr => ?_, fun hno => ?_⟩⟩
    · have hu := x.update_indexed input hk hc
      exact ⟨congrArg UpdateResult.index hu,
        fun hf hm => UpdateResult.ends hu ((if_pos ⟨hf, hm⟩).trans (congrArg (·, UpdateEnd.homed) (x.indexed_rest hf))),
        fun hno => UpdateResult.ends hu ((if_neg hno).trans (congrArg (Axis.conclude false) x.indexed_eq))⟩
    · have hu := x.update_unindexed input hk hc
      exact ⟨congrArg UpdateResult.index hu, fun hf hfar => UpdateResult.ends hu (if_pos ⟨hf, hfar⟩),
        fun hno => UpdateResult.ends hu (if_neg hno)⟩
    · exact x.update_index_none input hk
    · have hu := x.update_searches input hk ⟨hf, hm⟩
      exact ⟨fun hg => UpdateResult.ends hu ((if_pos hr).trans (Axis.homeConfirmed_stands (by simpa using hg))),
        fun p hgate hp hne => UpdateResult.ends hu ((if_pos hr).trans
          (Axis.homeConfirmed_onward (by simpa using hgate) (by simpa using hp) hne))⟩
    · have hu := x.update_searches input hk ⟨hf, hm⟩
      exact ⟨fun hfar => UpdateResult.ends hu ((if_neg hr).trans (if_pos hfar)),
        fun hnear => UpdateResult.ends hu ((if_neg hr).trans (if_neg (Nat.not_lt.mpr hnear)))⟩
    · exact UpdateResult.ends (x.update_travels input hk hno) (by rw [hlimited])
  · rintro hp rfl
    exact Axis.conclude_turns hf hm hp
  · rintro hp rfl
    exact Axis.conclude_reverses hf hm hp

/-- Settles O53: each request by the sequencer, a program step by its place in the program, a change of the rails rail by rail, and the
axes one by one. -/
theorem railsAndPrograms : Obligations.RailsAndPrograms := by
  refine ⟨fun tag q steps pattern s h _ => ⟨fun t hfit hi ht => ?_, fun hfit hb => ?_, fun before x after hs hb hx => ?_, fun n hn => ?_,
      fun hr => ?_, fun hr => ?_, fun hr => ?_, fun hr => ?_, fun hi => ?_, fun hb => ?_⟩,
    fun q i s => ⟨fun hw hq hi => ?_, fun hw hq hi => ?_, exec_railProgramStep_early, setRails_same s, fun p => setRails_supply p s⟩,
    fun pattern up r s => ⟨setRails_eq pattern s, rfl, rfl, rfl, rfl, rfl, rfl, ?_, ?_⟩,
    fun a s => ⟨motionDown_axis a s, motionDown_ending, fun hk hs hg => ?_, fun hno => ?_⟩⟩
  · exact exec_served h rfl rfl (doRailProgram_stored (s := s.taking tag (.railProgram q.code steps)) hfit hi ht)
  · exact exec_query h rfl rfl (doRailProgram_busy hfit hb)
  · exact exec_query h rfl rfl (doRailProgram_delay hs hb hx)
  · exact exec_query h rfl rfl (doRailProgram_program hn)
  · exact exec_served h rfl rfl (startProgram_starts hr)
  · exact exec_query h rfl rfl (startProgram_runs hr)
  · exact exec_served h rfl rfl (startProgram_starts hr)
  · exact exec_query h rfl rfl (startProgram_runs hr)
  · exact exec_served h rfl rfl (doRailSet_set (s := s.taking tag (.railSet pattern)) hi pattern)
  · exact exec_query h rfl rfl (doRailSet_busy (s := s.taking tag (.railSet pattern)) hb pattern)
  · rw [exec_railProgramStep_due hq hw, programStep_next hq hi]
    rfl
  · subst hi
    rw [exec_railProgramStep_due hq hw, programStep_last hq (by decide)]
  · cases up <;> rfl
  · cases r <;> rfl
  · rw [motionUp_axis, Axis.railUp_homes hk hs hg, Axis.enterHoming_shown hk]
  · rw [motionUp_axis, Axis.railUp_stays hno, Axis.shown]

end Sys2Proof.MotionAxes
end

section
/-! SUPPORT. A player's record changed, and the requests to the players (R139 to R141). -/

namespace Sys2Proof.Machine

variable {s : State} {p : Fin 8}

/-! ## A player's record changed -/

/-- Two changes of one player are one. -/
theorem State.modPlayer_twice (p : Fin 8) (f g : Player → Player) (s : State) :
    (s.modPlayer p f).modPlayer p g = s.modPlayer p fun x => g (f x) := by
  simp only [State.modPlayer, Table.modify, Table.get_set_self, Table.set_set]

theorem State.modPlayer_player (p q : Fin 8) (f : Player → Player) (s : State) :
    (s.modPlayer p f).cue.players.get q = if q = p then f (s.cue.players.get q) else s.cue.players.get q :=
  Table.get_modify _ _ _ _

/-- A run put in line after a change of its player (R128). -/
theorem lineUp_modPlayer (p : Fin 8) (stage : Stage) (f : Player → Player) (s : State) : lineUp p stage (s.modPlayer p f) =
    (s.modPlayer p fun x => { f x with state := .running, blocked := none }).laterRun p stage := by
  rw [lineUp, State.modPlayer_twice]

/-! ## Starts (R139) -/

theorem Player.runs_eq_false_iff {x : Player} : x.runs = false ↔ x.state = .idle ∨ x.state = .fault := by
  cases h : x.state <;> simp [Player.runs, h]

theorem Player.runs_of {x : Player} (idle : x.state ≠ .idle) (fault : x.state ≠ .fault) : x.runs = true := by
  rw [← Bool.not_eq_false, Player.runs_eq_false_iff]
  exact not_or.mpr ⟨idle, fault⟩

theorem startPlayer_notReady {l : Fin 64} (h : (s.cue.lists.get l).state ≠ .ready) (policy : Policy) :
    startPlayer p l policy s = (s, .refused .wrongState) := if_pos h

section
variable {l : Fin 64} (h : (s.cue.lists.get l).state = .ready)
include h

theorem startPlayer_started (hx : (s.cue.players.get p).state = .idle ∨ (s.cue.players.get p).state = .fault) (policy : Policy) :
    startPlayer p l policy s = (startList p l s, .started) := by
  rw [startPlayer.eq_def, if_neg (not_not.mpr h), if_pos (Player.runs_eq_false_iff.mpr hx)]

variable (idle : (s.cue.players.get p).state ≠ .idle) (fault : (s.cue.players.get p).state ≠ .fault)
include idle fault

/-- A start of a player that has a run goes by its policy. -/
theorem startPlayer_runs (policy : Policy) : startPlayer p l policy s =
    match policy with
    | .skip => (s, .skipped)
    | .queue => (s.modPlayer p fun x => { x with pendingStart := some (l, .queue) }, .queued)
    | .replace => (startList p l (releaseTargets (s.heldTargets p) (s.modPlayer p fun x =>
        { Player.clear .idle x with pendingStart := none, prePause := none })), .replaced) := by
  rw [startPlayer.eq_def, if_neg (not_not.mpr h), if_neg (by simp [Player.runs_of idle fault])]
  cases policy <;> rfl

end

/-! ## PLAYER_START (R139) -/

theorem policyOf_code (pol : Policy) : policyOf pol.code = some pol := by cases pol <;> rfl

theorem policyOf_beyond {k : Nat} (h : 2 < k) : policyOf k = none := by
  obtain ⟨k, rfl⟩ := Nat.exists_eq_add_of_le' (show 3 ≤ k from h)
  rfl

theorem doPlayerStart_read (p : Fin 8) (l : Fin 64) (pol : Policy) (s : State) :
    doPlayerStart p.1 l.1 pol.code s = ((startPlayer p l pol s).1, (startPlayer p l pol s).2.answer) := by
  rw [doPlayerStart, fin?_val, fin?_val, policyOf_code]

theorem doPlayerStart_beyond {player list policy : Nat} (h : 7 < player ∨ 63 < list ∨ 2 < policy) :
    doPlayerStart player list policy s = (s, refuse .outOfRange) := by
  unfold doPlayerStart
  split
  · next p l pol hp hl hpol =>
    rcases h with h | h | h
    · rw [fin?_of_le h] at hp; cases hp
    · rw [fin?_of_le h] at hl; cases hl
    · rw [policyOf_beyond h] at hpol; cases hpol
  · rfl

/-! ## PLAYER_STOP and PLAYER_PAUSE (R140) -/

theorem doPlayerStop_idle (h : (s.cue.players.get p).state = .idle) : doPlayerStop p.1 s = (s, okay) := by
  rw [doPlayerStop, fin?_val]
  exact if_pos h

theorem doPlayerStop_runs (h : (s.cue.players.get p).state ≠ .idle) : doPlayerStop p.1 s =
    (releaseTargets (s.heldTargets p) (s.modPlayer p fun x =>
      { Player.clear .idle x with pendingStart := none, fault := none, prePause := none }), okay) := by
  rw [doPlayerStop, fin?_val]
  exact if_neg h

theorem doPlayerStop_beyond {player : Nat} (h : 7 < player) : doPlayerStop player s = (s, refuse .outOfRange) := by
  rw [doPlayerStop, fin?_of_le h]

theorem doPlayerPause_paused (h : (s.cue.players.get p).state = .running ∨ (s.cue.players.get p).state = .waiting ∨
    (s.cue.players.get p).state = .blocked) :
    doPlayerPause p.1 s = (s.modPlayer p fun y => { y with state := .paused, prePause := some y.state }, okay) := by
  rw [doPlayerPause, fin?_val]
  exact if_pos h

theorem doPlayerPause_refused (h : (s.cue.players.get p).state = .idle ∨ (s.cue.players.get p).state = .paused ∨
    (s.cue.players.get p).state = .fault) : doPlayerPause p.1 s = (s, refuse .wrongState) := by
  rw [doPlayerPause, fin?_val]
  refine if_neg fun hno => ?_
  rcases h with h | h | h <;> rw [h] at hno <;> simp at hno

theorem doPlayerPause_beyond {player : Nat} (h : 7 < player) : doPlayerPause player s = (s, refuse .outOfRange) := by
  rw [doPlayerPause, fin?_of_le h]

/-! ## PLAYER_RESUME (R140) -/

section
variable (h : (s.cue.players.get p).state = .paused)
include h

theorem doPlayerResume_taken : doPlayerResume p.1 s = (resumePlayer p s, okay) := by
  rw [doPlayerResume, fin?_val]
  exact if_pos h

theorem doPlayerResume_waiting (hpre : (s.cue.players.get p).prePause = some .waiting) :
    doPlayerResume p.1 s = (s.modPlayer p fun y => { y with prePause := none, state := .waiting }, okay) := by
  rw [doPlayerResume_taken h]
  simp only [resumePlayer, hpre, Option.getD_some]

theorem doPlayerResume_blocked (hpre : (s.cue.players.get p).prePause = some .blocked) : doPlayerResume p.1 s =
    ((s.modPlayer p fun y => { y with prePause := none, state := .running, blocked := none }).laterRun p .contend, okay) := by
  rw [doPlayerResume_taken h]
  simp only [resumePlayer, hpre, lineUp_modPlayer]

section
variable (hpre : (s.cue.players.get p).prePause = some .running)
include hpre

theorem doPlayerResume_running (ho : (s.cue.players.get p).await.bind AwaitRec.outcome = none) :
    doPlayerResume p.1 s = (s.modPlayer p fun y => { y with prePause := none, state := .running }, okay) := by
  rw [doPlayerResume_taken h]
  simp only [resumePlayer, hpre, Option.getD_some, ho]

/-- A player paused while RUNNING takes the outcome recorded since. -/
theorem doPlayerResume_outcome {o : AwaitOutcome} (ho : (s.cue.players.get p).await.bind AwaitRec.outcome = some o) :
    doPlayerResume p.1 s = ((s.modPlayer p fun y => { y with
      prePause := none, state := .running, await := none, blocked := none }).laterRun p o.stage, okay) := by
  rw [doPlayerResume_taken h]
  simp only [resumePlayer, hpre, Option.getD_some, ho, State.modPlayer_twice, lineUp_modPlayer]

end

end

theorem doPlayerResume_refused (h : (s.cue.players.get p).state ≠ .paused) : doPlayerResume p.1 s = (s, refuse .wrongState) := by
  rw [doPlayerResume, fin?_val]
  exact if_neg h

theorem doPlayerResume_beyond {player : Nat} (h : 7 < player) : doPlayerResume player s = (s, refuse .outOfRange) := by
  rw [doPlayerResume, fin?_of_le h]

/-! ## PLAYER_PRIORITY (R141) -/

section
variable {priority : Nat}

theorem doPlayerPriority_set (hr : priority ≤ 15) (h : (s.cue.players.get p).state = .idle) :
    doPlayerPriority p.1 priority s = (s.modPlayer p fun y => { y with priority := priority }, okay) := by
  rw [doPlayerPriority, fin?_val]
  exact (if_neg (Nat.not_lt.mpr hr)).trans (if_neg (not_not.mpr h))

theorem doPlayerPriority_wrongState (hr : priority ≤ 15) (h : (s.cue.players.get p).state ≠ .idle) :
    doPlayerPriority p.1 priority s = (s, refuse .wrongState) := by
  rw [doPlayerPriority, fin?_val]
  exact (if_neg (Nat.not_lt.mpr hr)).trans (if_pos h)

theorem doPlayerPriority_range (hr : 15 < priority) : doPlayerPriority p.1 priority s = (s, refuse .outOfRange) := by
  rw [doPlayerPriority, fin?_val]
  exact if_pos hr

theorem doPlayerPriority_beyond {player : Nat} (h : 7 < player) : doPlayerPriority player priority s = (s, refuse .outOfRange) := by
  rw [doPlayerPriority, fin?_of_le h]

end

end Sys2Proof.Machine
end

section
/-! SUPPORT. The order of a handling's work, and what a trigger does (R128, R151, R152; log entry 4). -/

namespace Sys2Proof.Machine

variable {s : State} {w : Work}

/-! ## The next piece of work (log entry 4) -/

theorem Work.isClear_iff : w.isClear = true ↔ w.stack = [] ∧ w.runs = [] ∧ w.held = [] ∧ w.matched = [] ∧ w.events = [] := by
  simp only [Work.isClear, Bool.and_eq_true, List.isEmpty_iff, and_assoc]

theorem settleOne_stack {t : Task} {more : List Task} (h : s.work.stack = t :: more) : settleOne s =
    some (runFirst (doTask t) { s with work := { s.work with stack := more } }) := by
  obtain ⟨_, _, _, _, _, _, _, _, _, _, _, _, ⟨_, _, _, _, _, _⟩, _⟩ := s
  cases h
  rfl

section
variable (h1 : s.work.stack = [])
include h1

theorem settleOne_runs {p : Fin 8} {stage : Stage} {more : List (Fin 8 × Stage)} (h : s.work.runs = (p, stage) :: more) :
    settleOne s = some (runStage p stage { s with work := { s.work with runs := more } }) := by
  obtain ⟨_, _, _, _, _, _, _, _, _, _, _, _, ⟨_, _, _, _, _, _⟩, _⟩ := s
  cases h1; cases h
  rfl

variable (h2 : s.work.runs = [])
include h2

theorem settleOne_held {n : Nat} {item : CueItem} {more : List (Nat × CueItem)} (h : s.work.held = (n, item) :: more) :
    settleOne s = some (offerItem n item { s with work := { s.work with held := more } }) := by
  obtain ⟨_, _, _, _, _, _, _, _, _, _, _, _, ⟨_, _, _, _, _, _⟩, _⟩ := s
  cases h1; cases h2; cases h
  rfl

variable (h3 : s.work.held = [])
include h3

theorem settleOne_matched {k : Fin 32} {more : List (Fin 32)} (h : s.work.matched = k :: more) :
    settleOne s = some (applyTrigger k { s with work := { s.work with matched := more } }) := by
  obtain ⟨_, _, _, _, _, _, _, _, _, _, _, _, ⟨_, _, _, _, _, _⟩, _⟩ := s
  cases h1; cases h2; cases h3; cases h
  rfl

theorem settleOne_events (h4 : s.work.matched = []) {e : Event} {more : List Event} (h : s.work.events = e :: more) :
    settleOne s = some { s with work := { s.work with events := more, matched := s.matching e } } := by
  obtain ⟨_, _, _, _, _, _, _, _, _, _, _, _, ⟨_, _, _, _, _, _⟩, _⟩ := s
  cases h1; cases h2; cases h3; cases h4; cases h
  rfl

end

/-- Only without work is nothing carried out. -/
theorem settleOne_eq_none_iff : settleOne s = none ↔ s.work.isClear = true := by
  refine ⟨fun h => ?_, settleOne_clear⟩
  cases h1 : s.work.stack with
  | cons t more => rw [settleOne_stack h1] at h; cases h
  | nil =>
    cases h2 : s.work.runs with
    | cons r more => rw [settleOne_runs h1 h2] at h; cases h
    | nil =>
      cases h3 : s.work.held with
      | cons x more => rw [settleOne_held h1 h2 h3] at h; cases h
      | nil =>
        cases h4 : s.work.matched with
        | cons k more => rw [settleOne_matched h1 h2 h3 h4] at h; cases h
        | nil =>
          cases h5 : s.work.events with
          | cons e more => rw [settleOne_events h1 h2 h3 h4 h5] at h; cases h
          | nil => exact Work.isClear_iff.mpr ⟨h1, h2, h3, h4, h5⟩

theorem settleN_none (h : settleOne s = none) (n : Nat) : settleN (n + 1) s = s := by rw [settleN, h]

theorem settleN_some {u : State} (h : settleOne s = some u) (n : Nat) : settleN (n + 1) s = settleN n u := by rw [settleN, h]

/-! ## A stage of a run (R128) -/

theorem runStage_stands {p : Fin 8} (h : (s.cue.players.get p).state ≠ .running) (stage : Stage) : runStage p stage s = s := if_pos h

theorem runStage_running {p : Fin 8} (h : (s.cue.players.get p).state = .running) (stage : Stage) : runStage p stage s =
    match stage with
    | .wait => beginWait p s
    | .contend => contend p s
    | .advance => advanceStep p (s.modPlayer p fun y => { y with await := none })
    | .fail code detail => faultPlayer p code detail s := if_neg (not_not.mpr h)

/-! ## Triggers (R151, R152) -/

theorem applyTrigger_again {k : Fin 32} (h : (s.trig.triggers.get k).applied = true) :
    applyTrigger k s = s.modTrigger k fun x => { x with suppressed := min 65535 (x.suppressed + 1) } := if_pos h

theorem applyTrigger_first {k : Fin 32} (h : (s.trig.triggers.get k).applied = false) : applyTrigger k s =
    let r := s.trig.triggers.get k
    let start := startPlayer r.player r.list r.policy s
    start.1.modTrigger k fun x => { x with applied := true, fires := min 65535 (x.fires + 1), last := start.2 } :=
  if_neg (by simp [h])

theorem mem_matching {k : Fin 32} {e : Event} : k ∈ s.matching e ↔
    (s.trig.triggers.get k).enabled = true ∧ (s.trig.triggers.get k).source.matches_ e = true := by
  simp only [State.matching, List.mem_filter, mem_indices, true_and, Bool.and_eq_true]

theorem matching_ascending (s : State) (e : Event) : (s.matching e).Pairwise (· < ·) := (indices_ascending 32).filter _

/-- An event that a source watches for: of its class, and of the items the source names (R151). -/
theorem Source.matches_iff (x : Source) (e : Event) : x.matches_ e = true ↔
    match x with
    | .townAt m => e = .townMinute m
    | .townDay => ∃ day, e = .townDay day
    | .inputEdge i edge => e = .inputEdge i edge
    | .inputCount i => e = .inputCount i
    | .sectionEnter y none => ∃ t, e = .sectionEnter y t
    | .sectionEnter y (some t) => e = .sectionEnter y t
    | .axisIndex a => ∃ error slip, e = .axisIndex a error slip
    | .cueMark v => e = .cueMark v
    | .dressingEnd => e = .dressing false
    | .railDone q => e = .railDone q := by
  cases x with
  | sectionEnter y t => cases t <;> cases e <;> grind [Source.matches_]
  | _ => cases e <;> grind [Source.matches_]

end Sys2Proof.Machine
end

section
/-! SUPPORT. A show in which nothing listens: an event reaches the Show Link alone (R128, R130, R133, R135, R152, R168). -/

namespace Sys2Proof.Machine

variable {s u : State} {x : Player} {k : Nat}

/-! ## A deaf player (R130, R133, R135) -/

theorem Player.deaf_iff : x.deaf = true ↔ x.await = none ∧ (∀ f ∈ x.repeats, f.until_ = none) ∧
    ∀ w, x.wait = some w → (∀ m, w.kind ≠ .townAt m) ∧ ∀ spec left, w.kind ≠ .event spec left := by
  simp only [Player.deaf, Bool.and_eq_true, Option.isNone_iff_eq_none, List.all_eq_true, and_assoc]
  refine and_congr_right fun _ => and_congr_right fun _ => ?_
  rcases x.wait with _ | ⟨kind, since⟩
  · simp
  · cases kind <;> simp

/-- No event sets a seen flag of a deaf player. -/
theorem markSeen_deaf (h : x.deaf = true) (e : Event) : markSeen e x = x := by
  obtain ⟨-, hrep, -⟩ := Player.deaf_iff.mp h
  have hmap : x.repeats.map (markFrame e) = x.repeats :=
    (List.map_congr_left fun f hf => by rw [markFrame, hrep f hf]; rfl).trans (List.map_id _)
  rw [markSeen, hmap]

/-- A deaf player records no outcome. -/
theorem record_deaf (h : x.deaf = true) (n : Nat) (item : CueItem) : Player.record n item x = x := by
  obtain ⟨hawait, -, -⟩ := Player.deaf_iff.mp h
  unfold Player.record
  rw [hawait]
  split
  · next e => cases e
  · rfl

/-- Nothing meets a deaf player's wait or await. -/
theorem meets_deaf (h : x.deaf = true) (n : Nat) (item : CueItem) : x.meets n item = none := by
  obtain ⟨hawait, -, hwait⟩ := Player.deaf_iff.mp h
  unfold Player.meets
  split
  · refine if_neg ?_
    rw [Option.any_eq_true]
    rintro ⟨w, hw, hmet⟩
    obtain ⟨htown, hevent⟩ := hwait w hw
    unfold WaitRec.metBy at hmet
    split at hmet
    · next hk => exact absurd hk (htown _)
    · next hk => exact absurd hk (hevent _ _)
    · simp at hmet
  · rw [hawait]; rfl
  · rfl

/-! ## An event raised in a quiet show (R168) -/

/-- No work, and the number of the next arrival. -/
def Work.idleAt (n : Nat) : Work := { stack := [], runs := [], held := [], matched := [], events := [], arrival := n }

theorem Work.idleAt_of_clear {w : Work} (h : w.isClear = true) (n : Nat) : { w with arrival := n } = Work.idleAt n := by
  obtain ⟨_, _, _, _, _, _⟩ := w
  obtain ⟨rfl, rfl, rfl, rfl, rfl⟩ := Work.isClear_iff.mp h
  rfl

theorem Work.eq_idleAt {w : Work} (h : w.isClear = true) : w = Work.idleAt w.arrival := Work.idleAt_of_clear h w.arrival

theorem State.quiet_iff : s.quiet = true ↔
    (∀ p, (s.cue.players.get p).deaf = true) ∧ ∀ k, (s.trig.triggers.get k).enabled = false := by
  simp only [State.quiet, Bool.and_eq_true, Table.all_items_iff, Bool.not_eq_true']

/-- A state that differs from another by the Show Link's records and by at most `k` events offered to the blocks. -/
def Echoes (s : State) (k : Nat) (u : State) : Prop :=
  ∃ es : List Event, es.length ≤ k ∧ u = { s with link := u.link, work := es.foldl (fun w e => w.addEvent e) s.work }

theorem Echoes.refl (s : State) : Echoes s 0 s := ⟨[], le_rfl, rfl⟩

theorem Echoes.mono (h : Echoes s k u) {m : Nat} (hm : k ≤ m) : Echoes s m u :=
  let ⟨es, hlen, e⟩ := h
  ⟨es, hlen.trans hm, e⟩

theorem Echoes.link (h : Echoes s k u) (l : ShowLink) : Echoes s k { u with link := l } := by
  obtain ⟨es, hlen, e⟩ := h
  refine ⟨es, hlen, ?_⟩
  rw [e]

section
variable (hq : s.quiet = true)
include hq

theorem offerBlocks_quiet (e : Event) : s.offerBlocks e = { s with work := s.work.addEvent e } := by
  have hmap : s.cue.players.map (markSeen e) = s.cue.players :=
    Table.ext_get fun p => (Table.get_map _ _ p).trans (markSeen_deaf ((State.quiet_iff.mp hq).1 p) e)
  rw [State.offerBlocks, hmap]

theorem Echoes.offerBlocks (h : Echoes s k u) (e : Event) : Echoes s (k + 1) (u.offerBlocks e) := by
  obtain ⟨es, hlen, he⟩ := h
  have hu : u.quiet = true := by rw [he]; exact hq
  refine ⟨es ++ [e], by simpa using hlen, ?_⟩
  rw [offerBlocks_quiet hu, List.foldl_append]
  conv_lhs => rw [he]
  rfl

theorem Echoes.announce (e : Event) : Echoes s 2 (s.announce e) := by
  unfold State.announce
  split
  · refine Echoes.offerBlocks hq (Echoes.link ?_ _) e
    split
    · exact (Echoes.refl s).offerBlocks hq _
    · exact (Echoes.refl s).mono (Nat.zero_le 1)
  · exact ((Echoes.refl s).offerBlocks hq e).mono (Nat.le_succ 1)

theorem Echoes.pick (h : Echoes s k u) : Echoes s (k + 1) (pick u) := by
  unfold Machine.pick
  split
  · exact (h.link _).mono (Nat.le_succ k)
  · split
    · unfold reportLost
      split
      · exact ((h.link _).link _).offerBlocks hq _
      · exact (h.link _).mono (Nat.le_succ k)
    · exact (h.link _).mono (Nat.le_succ k)

/-- An event is offered with at most two reports of lost notices, one as its notice is made and one as it is picked (R169). -/
theorem Echoes.raise (e : Event) : Echoes s 3 (s.raise e) := by
  have h := Echoes.announce hq e
  rcases State.raise_cases s e with ⟨-, he⟩ | ⟨-, he⟩ <;> rw [he]
  · exact h.mono (Nat.le_succ 2)
  · exact h.pick hq

/-! ## What follows of it (R128, R152) -/

theorem offerItem_quiet (n : Nat) (item : CueItem) : offerItem n item s = s := by
  have hdeaf := (State.quiet_iff.mp hq).1
  have hmet : s.metBy n item = [] := by
    have hnone : (indices 8).filter (fun p => ((s.cue.players.get p).meets n item).isSome) = [] :=
      List.filter_eq_nil_iff.mpr fun p _ => by simp [meets_deaf (hdeaf p)]
    rw [State.metBy, hnone]
    rfl
  have hmap : s.cue.players.map (Player.record n item) = s.cue.players :=
    Table.ext_get fun p => (Table.get_map _ _ p).trans (record_deaf (hdeaf p) n item)
  rw [offerItem, hmet, State.modCue, hmap]
  rfl

theorem matching_quiet (e : Event) : s.matching e = [] :=
  List.eq_nil_iff_forall_not_mem.mpr fun k hk => by
    have hon := (mem_matching.mp hk).1
    rw [(State.quiet_iff.mp hq).2 k] at hon
    cases hon

/-- Events and endings that wait in a quiet show go by without a trace. -/
theorem settleN_quiet (hstack : s.work.stack = []) (hruns : s.work.runs = []) (hmatched : s.work.matched = []) {n : Nat}
    (hn : s.work.held.length + s.work.events.length ≤ n) : settleN n s = { s with work := Work.idleAt s.work.arrival } := by
  induction n generalizing s with
  | zero =>
    have hheld := List.eq_nil_of_length_eq_zero (by omega : s.work.held.length = 0)
    have hevents := List.eq_nil_of_length_eq_zero (by omega : s.work.events.length = 0)
    rw [← Work.eq_idleAt (Work.isClear_iff.mpr ⟨hstack, hruns, hheld, hmatched, hevents⟩)]
    rfl
  | succ n ih =>
    cases hheld : s.work.held with
    | cons x more =>
      rw [hheld, List.length_cons] at hn
      rw [settleN_some (settleOne_held hstack hruns hheld), offerItem_quiet (by exact hq)]
      exact ih hq hstack hruns hmatched (by dsimp only; omega)
    | nil =>
      cases hevents : s.work.events with
      | cons e more =>
        rw [hevents, List.length_cons] at hn
        rw [settleN_some (settleOne_events hstack hruns hheld hmatched hevents), matching_quiet hq]
        exact ih hq hstack hruns rfl (by dsimp only; omega)
      | nil =>
        have hclear := Work.isClear_iff.mpr ⟨hstack, hruns, hheld, hmatched, hevents⟩
        rw [settleN_clear hclear, ← Work.eq_idleAt hclear]

end

/-- Events offered to the blocks are held for the players and for the triggers, and are no other work. -/
theorem addEvents_work (es : List Event) (w : Work) :
    let v := es.foldl (fun w e => w.addEvent e) w
    v.stack = w.stack ∧ v.runs = w.runs ∧ v.matched = w.matched ∧ v.held.length = w.held.length + es.length ∧
      v.events.length = w.events.length + es.length := by
  induction es generalizing w with
  | nil => exact ⟨rfl, rfl, rfl, rfl, rfl⟩
  | cons e es ih =>
    obtain ⟨hstack, hruns, hmatched, hheld, hevents⟩ := ih (w.addEvent e)
    refine ⟨hstack, hruns, hmatched, hheld.trans ?_, hevents.trans ?_⟩ <;>
      simp only [Work.addEvent, List.length_append, List.length_cons, List.length_nil] <;> omega

/-- All that follows an event in a quiet show: the notice is made, and the next arrival has a higher number (R128, R152, R168). -/
theorem settle_raise_quiet (hq : s.quiet = true) (hw : s.work.isClear = true) (e : Event) : settle (s.raise e) =
    { s with link := (s.raise e).link, work := { s.work with arrival := (s.raise e).work.arrival } } := by
  obtain ⟨es, hlen, he⟩ := Echoes.raise hq e
  obtain ⟨hstack, hruns, hheld, hmatched, hevents⟩ := Work.isClear_iff.mp hw
  obtain ⟨ustack, uruns, umatched, uheld, uevents⟩ := addEvents_work es s.work
  have hwork : (s.raise e).work = es.foldl (fun w e => w.addEvent e) s.work := congrArg State.work he
  have hquiet : (s.raise e).quiet = true := by rw [he]; exact hq
  rw [← hwork] at ustack uruns umatched uheld uevents
  rw [hstack] at ustack
  rw [hruns] at uruns
  rw [hmatched] at umatched
  rw [hheld, List.length_nil] at uheld
  rw [hevents, List.length_nil] at uevents
  have hfuel : 6 ≤ Config.settleFuel := by norm_num [Config.settleFuel]
  rw [settle, settleN_quiet hquiet ustack uruns umatched (by omega)]
  rw [Work.idleAt_of_clear hw]
  exact congrArg (fun u : State => { u with work := Work.idleAt (s.raise e).work.arrival }) he

end Sys2Proof.Machine
end

section
/-! SUPPORT. The list requests: which player uses a list, how steps are stored, and LIST_WRITE and LIST_ERASE (R123, R124, R126). -/

namespace Sys2Proof.Table

variable {α β : Type} {n : Nat}

theorem get_mapIdx (t : Table α n) (f : Fin n → α → β) (i : Fin n) : (t.mapIdx f).get i = f i (t.get i) := get_ofFn _ i

end Sys2Proof.Table

namespace Sys2Proof.Machine

variable {s : State} {l : Fin 64} {first : Nat} {steps : List StepRec}

/-! ## The player that uses a list (R123, R124) -/

theorem Player.uses_iff {x : Player} : x.uses l = true ↔
    (∃ i, x.cur = some (l, i)) ∨ (∃ i, (l, i) ∈ x.calls) ∨ ∃ pol, x.pendingStart = some (l, pol) := by
  simp only [Player.uses, Bool.or_eq_true, Option.any_eq_true, List.any_eq_true, beq_iff_eq, Prod.exists, or_assoc]
  simp

theorem listUser_eq_some_iff {p : Fin 8} : s.listUser l = some p ↔
    (s.cue.players.get p).uses l = true ∧ ∀ q, q < p → (s.cue.players.get q).uses l = false := by
  rw [State.listUser, find?_ascending (indices_ascending 8)]
  simp only [mem_indices, true_and, true_implies]
  refine and_congr_right fun _ => forall_congr' fun q => ?_
  rw [← not_lt, ← Bool.not_eq_true]
  exact imp_not_comm

/-! ## The steps stored (R124; log entry 14) -/

theorem CueList.write_step (c : CueList) (first : Nat) (steps : List StepRec) (i : Fin 32) :
    (c.write first (steps.map StepRec.stored)).steps.get i =
      if h : first ≤ i.1 ∧ i.1 - first < steps.length then (steps[i.1 - first]'h.2).stored else c.steps.get i := by
  rw [CueList.write, Table.get_mapIdx, List.getElem?_map]
  by_cases hi : first ≤ i.1
  · by_cases hn : i.1 - first < steps.length
    · rw [if_pos hi, dif_pos ⟨hi, hn⟩, List.getElem?_eq_getElem hn]
      rfl
    · rw [if_pos hi, dif_neg fun h => hn h.2, List.getElem?_eq_none (Nat.le_of_not_lt hn)]
      rfl
  · rw [if_neg hi, dif_neg fun h => hi h.1]

theorem CueList.cut_step (c : CueList) (n : Nat) (i : Fin 32) :
    (c.cut n).steps.get i = if i.1 < n then c.steps.get i else noneStep := Table.get_mapIdx _ _ i

/-! ## LIST_WRITE (R124) -/

theorem listRange_iff {count : Nat} : listRange first count = true ↔ first ≤ 31 ∧ count ≤ 17 ∧ first + count ≤ 32 := by
  simp only [listRange, Bool.and_eq_true, decide_eq_true_eq, and_assoc]

theorem doListWrite_beyond {list : Nat} (h : 63 < list) (endFlag : Bool) : doListWrite list first endFlag steps s = (s, refuse .outOfRange) := by
  rw [doListWrite, fin?_of_le h]

theorem doListWrite_range (h : ¬(first ≤ 31 ∧ steps.length ≤ 17 ∧ first + steps.length ≤ 32)) (endFlag : Bool) :
    doListWrite l.1 first endFlag steps s = (s, refuse .outOfRange) := by
  rw [doListWrite, fin?_val]
  exact if_pos (Bool.eq_false_iff.mpr (mt listRange_iff.mp h))

section
variable (fits : first ≤ 31 ∧ steps.length ≤ 17 ∧ first + steps.length ≤ 32)
include fits

theorem doListWrite_inUse {p : Fin 8} (hu : s.listUser l = some p) (endFlag : Bool) :
    doListWrite l.1 first endFlag steps s = (s, refuseAt .inUse 1 p.1 0) := by
  simp only [doListWrite, fin?_val, listRange_iff.mpr fits, hu, Bool.true_eq_false, if_false]

variable (hu : s.listUser l = none)
include hu

theorem doListWrite_open : doListWrite l.1 first false steps s =
    (s.modList l fun _ => { (s.cue.lists.get l).write first (steps.map StepRec.stored) with state := .writing }, okay) := by
  simp only [doListWrite, fin?_val, listRange_iff.mpr fits, hu, Bool.true_eq_false, if_false, if_true]

section
variable {c : CueList} (hc : c = ((s.cue.lists.get l).write first (steps.map StepRec.stored)).cut (first + steps.length))
include hc

theorem doListWrite_valid (hv : validateList c.run = none) :
    doListWrite l.1 first true steps s = (s.modList l fun _ => { c with state := .ready }, okay) := by
  simp only [doListWrite, fin?_val, listRange_iff.mpr fits, hu, Bool.true_eq_false, if_false, ← hc, hv]

theorem doListWrite_invalid {f : ListFault} {i : Nat} (hv : validateList c.run = some (f, i)) :
    doListWrite l.1 first true steps s = (s.modList l fun _ => { c with state := .writing }, refuseAt .invalid f.code i 0) := by
  simp only [doListWrite, fin?_val, listRange_iff.mpr fits, hu, Bool.true_eq_false, if_false, ← hc, hv]

end

end

/-! ## LIST_ERASE (R126) -/

theorem doListErase_beyond {list : Nat} (h : 63 < list) : doListErase list s = (s, refuse .outOfRange) := by
  rw [doListErase, fin?_of_le h]

theorem doListErase_inUse {p : Fin 8} (hu : s.listUser l = some p) : doListErase l.1 s = (s, refuseAt .inUse 0 p.1 0) := by
  simp only [doListErase, fin?_val, hu]

theorem doListErase_erased (hu : s.listUser l = none) : doListErase l.1 s = (s.modList l fun _ => CueList.initial, okay) := by
  simp only [doListErase, fin?_val, hu]

end Sys2Proof.Machine
end

section
/-! SUPPORT. The validation of a closed list (R125): a step's own checks, and the open repeats as the steps are taken in order. -/

namespace Sys2Proof

open Sys2Proof.Machine

variable {r : StepRec} {depth : Nat}

/-! ## The checks of a step (R125, rows 1 to 4; log entry 15) -/

/-- A target beyond its class (R127, R180). -/
theorem StepRec.drives_beyond_iff : r.drives = some none ↔ (1 ≤ r.action ∧ r.action ≤ 3) ∧ 31 < r.target ∨
    (4 ≤ r.action ∧ r.action ≤ 13) ∧ 7 < r.target ∨ (r.action = 14 ∨ r.action = 15) ∧ r.target ≠ 0 := by
  unfold StepRec.drives
  split_ifs <;> simp [fin?_eq_none_iff] <;> omega

theorem StepRec.actionValid_iff : r.actionValid = true ↔ r.action ≤ 21 ∧ (1 ≤ r.action ∧ r.action ≤ 3 → r.target ≤ 31) ∧
    (4 ≤ r.action ∧ r.action ≤ 13 → r.target ≤ 7) ∧ (r.action = 14 ∨ r.action = 15 → r.target = 0) ∧
    (r.action = 20 → r.target ≤ 56 ∨ r.target = 0xFF) := by
  have hbeyond := StepRec.drives_beyond_iff (r := r)
  unfold StepRec.actionValid
  split
  · next hd =>
    have htarget := hbeyond.mp hd
    simp only [Bool.and_false, Bool.false_and, Bool.false_eq_true, false_iff]
    omega
  · next hd =>
    have htarget := mt hbeyond.mpr hd
    simp only [Bool.and_true, Bool.and_eq_true, Bool.or_eq_true, decide_eq_true_eq, bne_iff_ne, beq_iff_eq]
    omega

theorem fadeBaseOf_isSome {n : Nat} : (fadeBaseOf n).isSome = true ↔ n ≤ 1 := by
  unfold fadeBaseOf
  split
  all_goals simp_all
  omega

theorem groupModeOf_isSome {n : Nat} : (groupModeOf n).isSome = true ↔ n ≤ 2 := by
  unfold groupModeOf
  split
  all_goals simp_all
  omega

theorem dirOf_isSome {n : Nat} : (dirOf n).isSome = true ↔ n ≤ 1 := by
  unfold dirOf
  split
  all_goals simp_all
  omega

theorem onOffOf_isSome {n : Nat} : (onOffOf n).isSome = true ↔ n ≤ 1 := by
  unfold onOffOf
  split
  all_goals simp_all
  omega

theorem StepRec.paramsValid_iff : r.paramsValid = true ↔ (r.action = 1 → r.p3 ≤ 1) ∧ (r.action = 2 → r.p3 ≤ 2) ∧
    (r.action = 3 → r.p1 ≤ 255 ∧ r.p2 ≤ 255) ∧ (r.action = 5 → 1 ≤ r.p3 ∧ r.p3 ≤ 4 ∧ ∀ x ∈ r.sections, x ≤ 47) ∧
    (r.action = 8 → r.p3 ≤ 1) ∧ (r.action = 10 → r.p1 ≤ 65534) ∧ (r.action = 13 → r.p3 ≤ 1) ∧
    (r.action = 14 → 1 ≤ r.p2 ∧ r.p2 ≤ 16 ∧ 1 ≤ r.p1 ∧ r.p1 ≤ 4095 ∧ (r.p3 = 1 ∨ r.p3 = 2 ∨ r.p3 = 4 ∨ r.p3 = 8) ∧
      r.p2 ≤ r.p1 ∧ r.p1 ≤ 256 * r.p2) ∧
    (r.action = 15 → r.p1 + 65536 * r.p2 ≤ 86399999) ∧ (r.action = 16 → r.p1 ≤ 255) ∧ (r.action = 17 → r.p1 ≤ 63) ∧
    (r.action = 18 → r.p1 ≤ 255) := by
  unfold StepRec.paramsValid
  split
  case h_13 =>
    simp_all
  all_goals
    next h =>
    simp [h, fadeBaseOf_isSome, groupModeOf_isSome, dirOf_isSome, onOffOf_isSome, rateFailure_eq_none_iff, StepRec.long,
      Config.dayMs, Nat.lt_succ_iff, and_assoc]

theorem StepRec.waitValid_iff : r.waitValid = true ↔ r.waitKind ≤ 4 ∧ (r.waitKind = 3 → r.w4 + 256 * r.w5 ≤ 1439) ∧
    (r.waitKind = 4 → eventCodes.contains r.w4 = true) ∧ (r.timeout ≠ 0 → r.waitKind = 4) := by
  change _ ↔ _ ∧ (_ → r.waitValue ≤ 1439) ∧ _
  simp only [StepRec.waitValid, Bool.and_eq_true, Bool.or_eq_true, decide_eq_true_eq, bne_iff_ne, beq_iff_eq, and_assoc,
    imp_iff_not_or, ne_eq, not_not]

/-- The actions whose completion can be awaited, and the route that can be held (R125, R127). -/
theorem StepRec.flagsValid_iff : r.flagsValid = true ↔
    (r.flags.testBit 0 = true → r.action = 1 ∨ r.action = 5 ∨ (8 ≤ r.action ∧ r.action ≤ 12) ∨ r.action = 15) ∧
    (r.flags.testBit 1 = true → r.action = 5) := by
  have hmode : r.routeMode = 0 ↔ ¬r.flags.testBit 1 = true := by
    simp only [StepRec.routeMode, Nat.testBit_succ, Nat.testBit_zero, decide_eq_true_eq]
    omega
  simp only [StepRec.flagsValid, StepRec.awaits, hasCompletion, Bool.and_eq_true, Bool.or_eq_true, Bool.not_eq_true', decide_eq_true_eq,
    beq_iff_eq, hmode, imp_iff_not_or, Bool.not_eq_true, or_assoc]

theorem StepRec.waits_eq_false_iff : r.waits = false ↔
    r.waitKind = 0 ∨ ((r.waitKind = 1 ∨ r.waitKind = 2) ∧ r.w4 + 256 * r.w5 = 0) := by
  have hvalue : decide (0 < r.waitValue) = false ↔ r.waitValue = 0 := by simp
  change _ ↔ _ ∨ _ ∧ r.waitValue = 0
  simp only [StepRec.waits, Bool.and_eq_false_iff, Bool.or_eq_false_iff, Bool.not_eq_false', Bool.or_eq_true,
    bne_eq_false_iff_eq, beq_iff_eq, hvalue]

/-! ## The failure of a step (R125, rows 1 to 6) -/

theorem StepRec.failure_action (h1 : r.actionValid = false) : r.failure depth = some .badAction := if_pos h1

section
variable (h1 : r.actionValid = true)
include h1

theorem StepRec.failure_params (h2 : r.paramsValid = false) : r.failure depth = some .badParameter := by
  simp only [StepRec.failure, h1, h2, Bool.true_eq_false, if_false, if_true]

variable (h2 : r.paramsValid = true)
include h2

theorem StepRec.failure_wait (h3 : r.waitValid = false) : r.failure depth = some .badWait := by
  simp only [StepRec.failure, h1, h2, h3, Bool.true_eq_false, if_false, if_true]

variable (h3 : r.waitValid = true)
include h3

theorem StepRec.failure_flags (h4 : r.flagsValid = false) : r.failure depth = some .badFlags := by
  simp only [StepRec.failure, h1, h2, h3, h4, Bool.true_eq_false, if_false, if_true]

variable (h4 : r.flagsValid = true)
include h4

/-- Behind its own four checks a step fails by the repeats that stand open (R125, rows 5 and 6). -/
theorem StepRec.failure_repeats : r.failure depth =
    if ¬(r.action = 18 → depth < 8 ∧ (r.p3 ≠ 0 → eventCodes.contains r.p3 = true)) then some .repeatNesting
    else if ¬(r.action = 19 → 0 < depth) then some .repeatUnbalanced else none := by
  have huntil : (r.untilSpec.any fun u => !eventCodes.contains u.code) = true ↔ ¬(r.p3 ≠ 0 → eventCodes.contains r.p3 = true) := by
    unfold StepRec.untilSpec
    split
    · next h => simp [h]
    · next h => simp [h, eventSpec]
  have hnests : (r.action = 18 ∧ (8 ≤ depth ∨ (r.untilSpec.any fun u => !eventCodes.contains u.code) = true)) ↔
      ¬(r.action = 18 → depth < 8 ∧ (r.p3 ≠ 0 → eventCodes.contains r.p3 = true)) := by
    rw [huntil, @Classical.not_imp (r.action = 18), not_and_or, not_lt]
  have hcloses : (r.action = 19 ∧ depth = 0) ↔ ¬(r.action = 19 → 0 < depth) := by
    rw [Classical.not_imp, Nat.not_lt, Nat.le_zero]
  simp only [StepRec.failure, h1, h2, h3, h4, Bool.true_eq_false, if_false, hnests, hcloses]

end

/-- A REPEAT_END that passes its checks closes an open repeat (R125, row 6). -/
theorem StepRec.closes_of_failure (h : r.failure depth = none) (ha : r.action = 19) : 0 < depth := by
  by_contra hd
  have hend : r.action = 19 ∧ depth = 0 := ⟨ha, Nat.eq_zero_of_not_pos hd⟩
  unfold StepRec.failure at h
  rw [if_pos hend] at h
  split_ifs at h

/-! ## The open repeats (R125, rows 6 to 8) -/

/-- The open repeats behind a step, innermost first. -/
def StepRec.openedAfter (i : Nat) (r : StepRec) (opened : List Nat) : List Nat :=
  if r.action = 18 then i :: opened else if r.action = 19 then opened.tail else opened

/-- A repeat from one index to another that never ends: neither a count, nor a condition, nor a wait ends it. -/
def Machine.Forever (steps : List StepRec) (b i : Nat) : Prop := ∃ q, steps[b]? = some q ∧ q.p1 = 0 ∧ q.p3 = 0 ∧
  ∀ j r, b ≤ j → j ≤ i → steps[j]? = some r → r.waits = false

theorem StepRec.untilSpec_isNone : r.untilSpec.isNone = true ↔ r.p3 = 0 := by
  unfold StepRec.untilSpec
  split <;> simp_all

theorem Machine.endless_iff (steps : List StepRec) (b i : Nat) : endless steps b i = true ↔ Forever steps b i := by
  have hwaits : ((steps.drop b).take (i + 1 - b)).any StepRec.waits = false ↔
      ∀ j r, b ≤ j → j ≤ i → steps[j]? = some r → r.waits = false := by
    simp only [List.any_eq_false, Bool.not_eq_true, List.mem_iff_getElem?]
    constructor
    · intro h j r hb hi hr
      refine h r ⟨j - b, ?_⟩
      rw [List.getElem?_take_of_lt (by omega), List.getElem?_drop, Nat.add_sub_cancel' hb, hr]
    · rintro h r ⟨k, hk⟩
      have hlt : k < i + 1 - b := by
        by_contra hge
        rw [List.getElem?_take_eq_none (Nat.le_of_not_lt hge)] at hk
        cases hk
      rw [List.getElem?_take_of_lt hlt, List.getElem?_drop] at hk
      exact h (b + k) r (Nat.le_add_right b k) (by omega) hk
  unfold endless Forever
  cases steps[b]? with
  | none => simp
  | some q =>
    simp only [Bool.and_eq_true, beq_iff_eq, Bool.not_eq_true', StepRec.untilSpec_isNone, hwaits, Option.some.injEq, exists_eq_left', and_assoc]

/-! ## The steps in order (R125) -/

section
variable {all rest : List StepRec} {i : Nat} {opened : List Nat}

theorem Machine.validateFrom_fails {f : ListFault} (h : r.failure opened.length = some f) :
    validateFrom all (r :: rest) i opened = some (f, i) := by
  rw [validateFrom.eq_def]
  simp only [h]

variable (h : r.failure opened.length = none)
include h

theorem Machine.validateFrom_endless {b : Nat} {outer : List Nat} (ha : r.action = 19) (ho : opened = b :: outer)
    (hf : Forever all b i) : validateFrom all (r :: rest) i opened = some (.endlessRepeat, b) := by
  subst ho
  rw [validateFrom.eq_def]
  simp only [h, ha, (endless_iff all b i).mpr hf, Nat.reduceEqDiff, if_false, if_true]

theorem Machine.validateFrom_passes (hf : r.action = 19 → ∀ b outer, opened = b :: outer → ¬Forever all b i) :
    validateFrom all (r :: rest) i opened = validateFrom all rest (i + 1) (r.openedAfter i opened) := by
  rw [validateFrom.eq_def]
  simp only [h]
  by_cases ha : r.action = 19
  · have hclose := r.closes_of_failure h ha
    cases opened with
    | nil => simp at hclose
    | cons b outer =>
      have hends := mt (endless_iff all b i).mp (hf ha b outer rfl)
      simp [StepRec.openedAfter, ha, hends]
  · simp only [StepRec.openedAfter, ha, if_false]
    split <;> rfl

end

section
variable {steps : List StepRec} {opened : Nat → List Nat} (hstart : opened 0 = [])
  (hnext : ∀ i r, steps[i]? = some r → opened (i + 1) = r.openedAfter i (opened i))

/-- A step that passes its checks, with the repeats that stand open before it. -/
def Machine.Passes (steps : List StepRec) (opened : List Nat) (i : Nat) : Prop := ∀ r, steps[i]? = some r →
  r.failure opened.length = none ∧ (r.action = 19 → ∀ b outer, opened = b :: outer → ¬Forever steps b i)

include hstart hnext

/-- The validation comes to a step when all before it pass. -/
theorem Machine.validateList_reaches {i : Nat} (hi : i ≤ steps.length) (hpass : ∀ j, j < i → Passes steps (opened j) j) :
    validateList steps = validateFrom steps (steps.drop i) i (opened i) := by
  induction i with
  | zero => rw [hstart]; rfl
  | succ i ih =>
    have hr : steps[i]? = some steps[i] := List.getElem?_eq_getElem hi
    obtain ⟨hfail, hends⟩ := hpass i (Nat.lt_succ_self i) _ hr
    rw [ih (Nat.le_of_succ_le hi) fun j hj => hpass j (Nat.lt_succ_of_lt hj), List.drop_eq_getElem_cons hi,
      validateFrom_passes hfail hends, hnext i _ hr]

section
variable {i : Nat} (hr : steps[i]? = some r) (hpass : ∀ j, j < i → Passes steps (opened j) j)
include hr hpass

theorem Machine.validateList_at : validateList steps = validateFrom steps (r :: steps.drop (i + 1)) i (opened i) := by
  obtain ⟨hi, rfl⟩ := List.getElem?_eq_some_iff.mp hr
  rw [validateList_reaches hstart hnext hi.le hpass, List.drop_eq_getElem_cons hi]

theorem Machine.validateList_fails {f : ListFault} (h : r.failure (opened i).length = some f) : validateList steps = some (f, i) := by
  rw [validateList_at hstart hnext hr hpass, validateFrom_fails h]

theorem Machine.validateList_endless {b : Nat} {outer : List Nat} (h : r.failure (opened i).length = none) (ha : r.action = 19)
    (ho : opened i = b :: outer) (hf : Forever steps b i) : validateList steps = some (.endlessRepeat, b) := by
  rw [validateList_at hstart hnext hr hpass, validateFrom_endless h ha ho hf]

end

/-- A list whose steps all pass is judged by the repeats left open (R125, row 8). -/
theorem Machine.validateList_passes (hpass : ∀ i, Passes steps (opened i) i) :
    validateList steps = match opened steps.length with | [] => none | b :: _ => some (.repeatUnbalanced, b) := by
  rw [validateList_reaches hstart hnext le_rfl fun j _ => hpass j, List.drop_length]
  cases opened steps.length <;> rfl

end

end Sys2Proof
end

section
/-! SUPPORT. Runs put in line, and targets released and handed over (R128, R134): who receives which target, and in which order the
receivers run. -/

namespace Sys2Proof.Machine

variable {s u : State} {x y : Fin 57} {p q : Fin 8}

/-! ## Descending weight, ties to the lowest index (R128, R134) -/

/-- One index goes before another: its weight is higher, or as high and the index is lower. -/
def Precedes {n : Nat} (weight : Fin n → Nat) (i j : Fin n) : Prop := weight j < weight i ∨ weight j = weight i ∧ i < j

theorem Precedes.weight_le {n : Nat} {weight : Fin n → Nat} {i j : Fin n} (h : Precedes weight i j) : weight j ≤ weight i :=
  h.elim Nat.le_of_lt fun e => e.1.le

theorem Precedes.asymm {n : Nat} {weight : Fin n → Nat} {i j : Fin n} (h : Precedes weight i j) : ¬Precedes weight j i := by
  unfold Precedes at *
  omega

theorem Precedes.ne {n : Nat} {weight : Fin n → Nat} {i j : Fin n} (h : Precedes weight i j) : i ≠ j := by
  rintro rfl
  exact h.asymm h

theorem insertByWeight_pairwise {n : Nat} {weight : Fin n → Nat} {i : Fin n} {l : List (Fin n)} (hl : l.Pairwise (Precedes weight))
    (hi : ∀ j ∈ l, j < i) : (insertByWeight weight i l).Pairwise (Precedes weight) := by
  induction l with
  | nil => exact List.pairwise_singleton _ i
  | cons j js ih =>
    obtain ⟨hj, hjs⟩ := List.pairwise_cons.mp hl
    rw [insertByWeight]
    split
    · next hw =>
      refine List.pairwise_cons.mpr ⟨fun k hk => .inl ?_, hl⟩
      rcases List.mem_cons.mp hk with rfl | hk
      · exact hw
      · exact (hj k hk).weight_le.trans_lt hw
    · next hw =>
      refine List.pairwise_cons.mpr ⟨fun k hk => ?_, ih hjs fun k hk => hi k (List.mem_cons_of_mem j hk)⟩
      rcases mem_insertByWeight.mp hk with rfl | hk
      · exact (Nat.lt_or_eq_of_le (Nat.le_of_not_lt hw)).imp id fun e => ⟨e, hi j List.mem_cons_self⟩
      · exact hj k hk

theorem byWeight_pairwise {n : Nat} (weight : Fin n → Nat) {l : List (Fin n)} (hl : l.Pairwise (· < ·)) :
    (byWeight weight l).Pairwise (Precedes weight) := by
  suffices h : ∀ acc : List (Fin n), acc.Pairwise (Precedes weight) → (∀ j ∈ acc, ∀ i ∈ l, j < i) →
      (l.foldl (fun acc i => insertByWeight weight i acc) acc).Pairwise (Precedes weight) from h [] List.Pairwise.nil (by simp)
  induction l with
  | nil => exact fun acc hacc _ => hacc
  | cons i l ih =>
    obtain ⟨hi, hl⟩ := List.pairwise_cons.mp hl
    refine fun acc hacc hlt => ih hl _ (insertByWeight_pairwise hacc fun j hj => hlt j hj i List.mem_cons_self) fun j hj k hk => ?_
    rcases mem_insertByWeight.mp hj with rfl | hj
    · exact hi k hk
    · exact hlt j hj k (List.mem_cons_of_mem i hk)

/-- The first by weight goes before all others. -/
theorem head?_byWeight_iff {n : Nat} {weight : Fin n → Nat} {l : List (Fin n)} (hl : l.Pairwise (· < ·)) {i : Fin n} :
    (byWeight weight l).head? = some i ↔ i ∈ l ∧ ∀ j ∈ l, j ≠ i → Precedes weight i j := by
  have hsorted := byWeight_pairwise weight hl
  have hmem (j : Fin n) : j ∈ byWeight weight l ↔ j ∈ l := mem_byWeight
  cases hb : byWeight weight l with
  | nil =>
    refine ⟨nofun, fun h => ?_⟩
    have hi := (hmem i).mpr h.1
    rw [hb] at hi
    cases hi
  | cons k ks =>
    rw [hb] at hsorted hmem
    obtain ⟨hk, -⟩ := List.pairwise_cons.mp hsorted
    have hfirst (j : Fin n) (hj : j ∈ l) (hne : j ≠ k) : Precedes weight k j :=
      hk j ((List.mem_cons.mp ((hmem j).mpr hj)).resolve_left hne)
    have hkl := (hmem k).mp List.mem_cons_self
    rw [List.head?_cons, Option.some.injEq]
    refine ⟨?_, fun ⟨hi, hall⟩ => ?_⟩
    · rintro rfl
      exact ⟨hkl, hfirst⟩
    · by_contra hne
      exact (hfirst i hi (Ne.symm hne)).asymm (hall k hkl hne)

/-! ## What a change of players touches -/

/-- A state that differs from another by the players, the holders and the work alone. -/
def TouchesPlayers (s u : State) : Prop :=
  u = { s with cue := { s.cue with players := u.cue.players, holders := u.cue.holders }, work := u.work }

theorem TouchesPlayers.refl (s : State) : TouchesPlayers s s := rfl

theorem TouchesPlayers.trans {v : State} (h : TouchesPlayers s u) (h' : TouchesPlayers u v) : TouchesPlayers s v :=
  Eq.trans h' (congrArg
    (fun t : State => { t with cue := { t.cue with players := v.cue.players, holders := v.cue.holders }, work := v.work }) h)

theorem TouchesPlayers.forEach {α : Type} {f : α → State → State} (hf : ∀ a u, TouchesPlayers u (f a u)) (l : List α) (s : State) :
    TouchesPlayers s (forEach l f s) := keeps_forEach (fun a u h => TouchesPlayers.trans h (hf a u)) l (TouchesPlayers.refl s)

/-! ## Runs put in line (R128; log entry 30) -/

/-- Players changed alike, each with its run put in line at a stage. -/
def lineAll (f : Player → Player) (l : List (Fin 8 × Stage)) (s : State) : State :=
  forEach l (fun e s => (s.modPlayer e.1 f).laterRun e.1 e.2) s

theorem lineAll_cons (f : Player → Player) (e : Fin 8 × Stage) (l : List (Fin 8 × Stage)) (s : State) :
    lineAll f (e :: l) s = lineAll f l ((s.modPlayer e.1 f).laterRun e.1 e.2) := rfl

theorem lineAll_touches (f : Player → Player) (l : List (Fin 8 × Stage)) (s : State) : TouchesPlayers s (lineAll f l s) := by
  unfold lineAll
  refine .forEach (fun _ _ => ?_) l s
  rfl

theorem lineAll_holders (f : Player → Player) (l : List (Fin 8 × Stage)) (s : State) : (lineAll f l s).cue.holders = s.cue.holders := by
  unfold lineAll
  refine keeps_forEach (P := fun u => u.cue.holders = s.cue.holders) (fun _ _ h => ?_) l rfl
  exact h

theorem lineAll_work (f : Player → Player) (l : List (Fin 8 × Stage)) (s : State) :
    (lineAll f l s).work = { s.work with runs := s.work.runs ++ l } := by
  induction l generalizing s with
  | nil => rw [List.append_nil]; rfl
  | cons e l ih => simp [lineAll_cons, ih]

theorem lineAll_player (f : Player → Player) {l : List (Fin 8 × Stage)} (hl : (l.map Prod.fst).Nodup) (s : State) (q : Fin 8) :
    (lineAll f l s).cue.players.get q = if q ∈ l.map Prod.fst then f (s.cue.players.get q) else s.cue.players.get q := by
  induction l generalizing s with
  | nil => rfl
  | cons e l ih =>
    obtain ⟨he, hl⟩ := List.nodup_cons.mp hl
    rw [lineAll_cons, ih hl, State.laterRun_cue, State.modPlayer_player]
    simp only [List.map_cons, List.mem_cons]
    by_cases hq : q = e.1
    · rw [if_neg (hq ▸ he), if_pos hq, if_pos (.inl hq)]
    · simp only [hq, if_false, false_or]

/-- A player that runs on with nothing in its way. -/
def Player.resumed (x : Player) : Player := { x with state := .running, blocked := none }

theorem lineUps_eq (stage : Stage) (l : List (Fin 8)) (s : State) :
    forEach l (fun q => lineUp q stage) s = lineAll Player.resumed (l.map fun q => (q, stage)) s := by
  rw [lineAll, forEach, forEach, List.foldl_map]
  rfl

/-! ## The heir of a target (R134) -/

/-- A player waits for a target. -/
def Player.waitsFor (x : Fin 57) (y : Player) : Prop := y.state = .blocked ∧ y.blocked = some (.target x)

/-- The players that wait for a target, in index order. -/
def State.claimants (s : State) (x : Fin 57) : List (Fin 8) :=
  (indices 8).filter fun p => (s.cue.players.get p).state == .blocked && (s.cue.players.get p).blocked == some (.target x)

theorem mem_claimants : q ∈ s.claimants x ↔ (s.cue.players.get q).waitsFor x := by
  simp only [State.claimants, List.mem_filter, mem_indices, true_and, Bool.and_eq_true, beq_iff_eq, Player.waitsFor]

theorem claimants_ascending (s : State) (x : Fin 57) : (s.claimants x).Pairwise (· < ·) := (indices_ascending 8).filter _

/-- The priorities that order the players. -/
def State.rank (s : State) (p : Fin 8) : Nat := (s.cue.players.get p).priority

theorem heir_eq (s : State) (x : Fin 57) : s.heir x = (byWeight s.rank (s.claimants x)).head? := rfl

theorem heir_eq_some_iff : s.heir x = some q ↔ (s.cue.players.get q).waitsFor x ∧
    ∀ u, (s.cue.players.get u).waitsFor x → u ≠ q → Precedes s.rank q u := by
  rw [heir_eq, head?_byWeight_iff (claimants_ascending s x)]
  simp only [mem_claimants]

theorem heir_eq_none_iff : s.heir x = none ↔ ∀ q, ¬(s.cue.players.get q).waitsFor x := by
  have hnil : (byWeight s.rank (s.claimants x)) = [] ↔ ∀ q, q ∉ s.claimants x := by
    rw [List.eq_nil_iff_forall_not_mem]
    exact forall_congr' fun q => not_congr mem_byWeight
  rw [heir_eq, List.head?_eq_none_iff, hnil]
  exact forall_congr' fun q => not_congr mem_claimants

/-- Who inherits a target is a matter of the priorities and of who waits for it. -/
theorem heir_congr (hrank : u.rank = s.rank)
    (hwaits : ∀ q, (u.cue.players.get q).waitsFor x ↔ (s.cue.players.get q).waitsFor x) : u.heir x = s.heir x := by
  have hclaim : u.claimants x = s.claimants x :=
    List.Pairwise.eq_of_mem_iff (claimants_ascending u x) (claimants_ascending s x) fun q => by
      rw [mem_claimants, mem_claimants, hwaits]
  rw [heir_eq, heir_eq, hrank, hclaim]

/-! ## Released targets assigned (R134) -/

/-- One target given to its heir. -/
def giveTarget (x : Fin 57) (s : State) : State :=
  match s.heir x with
  | none => s
  | some q => (s.modPlayer q fun y => { y with blocked := none }).setHolder x (some q)

theorem assignTarget_eq (x : Fin 57) (a : List (Fin 8) × State) :
    assignTarget x a = (a.1 ++ (a.2.heir x).toList, giveTarget x a.2) := by
  unfold assignTarget giveTarget
  cases a.2.heir x <;> simp

theorem giveTarget_touches (x : Fin 57) (s : State) : TouchesPlayers s (giveTarget x s) := by
  unfold giveTarget
  split <;> rfl

theorem giveTarget_work (x : Fin 57) (s : State) : (giveTarget x s).work = s.work := by
  unfold giveTarget
  split <;> rfl

theorem giveTarget_player (x : Fin 57) (s : State) (q : Fin 8) : (giveTarget x s).cue.players.get q =
    if s.heir x = some q then { s.cue.players.get q with blocked := none } else s.cue.players.get q := by
  unfold giveTarget
  split
  · next h => simp [h]
  · next p h =>
    rw [State.setHolder_cue, h, State.modPlayer_player]
    simp only [Option.some.injEq, eq_comm]

theorem giveTarget_holder (x y : Fin 57) (s : State) : (giveTarget x s).cue.holders.get y =
    if y = x then (s.heir x).or (s.cue.holders.get x) else s.cue.holders.get y := by
  unfold giveTarget
  split
  · next h => split <;> simp_all
  · next p h =>
    rw [State.setHolder_cue, h]
    exact (Table.get_set _ _ _ _).trans (by rfl)

/-- Another target keeps its heir: each player waits for one target at most. -/
theorem giveTarget_heir (h : y ≠ x) (s : State) : (giveTarget x s).heir y = s.heir y := by
  refine heir_congr (funext fun q => ?_) fun q => ?_ <;> simp only [State.rank, giveTarget_player] <;> split
  · rfl
  · rfl
  · next hq =>
    have hx := (heir_eq_some_iff.mp hq).1.2
    simp only [Player.waitsFor, hx]
    simp [Ne.symm h]
  · exact Iff.rfl

/-- The targets of a list given to their heirs, one after another. -/
def giveTargets (l : List (Fin 57)) (s : State) : State := forEach l giveTarget s

theorem giveTargets_cons (x : Fin 57) (l : List (Fin 57)) (s : State) : giveTargets (x :: l) s = giveTargets l (giveTarget x s) := rfl

theorem giveTargets_touches (l : List (Fin 57)) (s : State) : TouchesPlayers s (giveTargets l s) := .forEach giveTarget_touches l s

theorem giveTargets_work (l : List (Fin 57)) (s : State) : (giveTargets l s).work = s.work :=
  keeps_forEach (P := fun u => u.work = s.work) (fun x u h => (giveTarget_work x u).trans h) l rfl

section
variable {l : List (Fin 57)} (hl : (x :: l).Nodup)
include hl

/-- A target given leaves the heirs of the targets behind it. -/
theorem giveTarget_heirs (hy : y ∈ l) (s : State) : (giveTarget x s).heir y = s.heir y :=
  giveTarget_heir (ne_of_mem_of_not_mem hy (List.nodup_cons.mp hl).1) s

end

section
variable {l : List (Fin 57)} (hl : l.Nodup)
include hl

theorem assignTargets_eq (acc : List (Fin 8)) (s : State) :
    l.foldl (fun a x => assignTarget x a) (acc, s) = (acc ++ l.filterMap s.heir, giveTargets l s) := by
  induction l generalizing acc s with
  | nil => rw [List.filterMap_nil, List.append_nil]; rfl
  | cons x l ih =>
    rw [List.foldl_cons, assignTarget_eq, ih hl.of_cons, List.filterMap_congr fun y hy => giveTarget_heirs hl hy s, giveTargets_cons,
      List.filterMap_cons, List.append_assoc]
    cases s.heir x <;> rfl

theorem giveTargets_player (s : State) (q : Fin 8) : (giveTargets l s).cue.players.get q =
    if ∃ x ∈ l, s.heir x = some q then { s.cue.players.get q with blocked := none } else s.cue.players.get q := by
  induction l generalizing s with
  | nil => simp [giveTargets, forEach]
  | cons x l ih =>
    have hheirs : (∃ y ∈ l, (giveTarget x s).heir y = some q) ↔ ∃ y ∈ l, s.heir y = some q :=
      exists_congr fun y => and_congr_right fun hy => by rw [giveTarget_heirs hl hy]
    rw [giveTargets_cons, ih hl.of_cons, giveTarget_player]
    simp only [hheirs, List.exists_mem_cons_iff]
    by_cases hx : s.heir x = some q
    · simp [hx]
    · simp only [hx, if_false, false_or]

theorem giveTargets_holder (s : State) (y : Fin 57) : (giveTargets l s).cue.holders.get y =
    if y ∈ l then (s.heir y).or (s.cue.holders.get y) else s.cue.holders.get y := by
  induction l generalizing s with
  | nil => rfl
  | cons x l ih =>
    rw [giveTargets_cons, ih hl.of_cons, giveTarget_holder]
    by_cases hy : y ∈ l
    · have hne := ne_of_mem_of_not_mem hy (List.nodup_cons.mp hl).1
      simp only [hy, hne, List.mem_cons, or_true, if_true, if_false, giveTarget_heirs hl hy]
    · by_cases hx : y = x
      · subst hx
        simp only [hy, List.mem_cons, or_false, if_true, if_false]
      · simp only [hy, hx, List.mem_cons, or_false, if_false]

end

/-! ## The release (R134) -/

/-- The state with targets that nobody holds. -/
def State.freed (s : State) (l : List (Fin 57)) : State := forEach l (fun x => State.setHolder x none) s

theorem freed_touches (s : State) (l : List (Fin 57)) : TouchesPlayers s (s.freed l) := by
  unfold State.freed
  refine .forEach (fun _ _ => ?_) l s
  rfl

theorem freed_players (s : State) (l : List (Fin 57)) : (s.freed l).cue.players = s.cue.players :=
  keeps_forEach (P := fun u => u.cue.players = s.cue.players) (f := fun x => State.setHolder x none) (fun _ _ h => h) l rfl

theorem freed_work (s : State) (l : List (Fin 57)) : (s.freed l).work = s.work :=
  keeps_forEach (P := fun u => u.work = s.work) (f := fun x => State.setHolder x none) (fun _ _ h => h) l rfl

theorem freed_heir (s : State) (l : List (Fin 57)) : (s.freed l).heir = s.heir := by
  funext x
  refine heir_congr (funext fun q => ?_) fun q => ?_ <;> simp only [State.rank, freed_players]

/-- The players that receive a target when some are released, in the order they run. -/
def State.receivers (s : State) (l : List (Fin 57)) : List (Fin 8) := byWeight s.rank ((indices 8).filter (l.filterMap s.heir).contains)

theorem mem_receivers {l : List (Fin 57)} : q ∈ s.receivers l ↔ ∃ x ∈ l, s.heir x = some q := by
  rw [State.receivers, mem_byWeight]
  simp [List.mem_filter, List.mem_filterMap]

theorem receivers_pairwise (s : State) (l : List (Fin 57)) : (s.receivers l).Pairwise (Precedes s.rank) :=
  byWeight_pairwise _ ((indices_ascending 8).filter _)

/-- All targets are assigned first, then the receivers are put in line. -/
theorem releaseTargets_steps {l : List (Fin 57)} (hl : l.Nodup) (s : State) : releaseTargets l s =
    lineAll Player.resumed ((s.receivers l).map fun q => (q, .contend)) (giveTargets l (s.freed l)) := by
  have hrank : (giveTargets l (s.freed l)).rank = s.rank := by
    funext q
    rw [State.rank, giveTargets_player hl, freed_players]
    split <;> rfl
  have hsteps : releaseTargets l s = forEach
      (byWeight (giveTargets l (s.freed l)).rank ((indices 8).filter (l.filterMap (s.freed l).heir).contains))
      (fun q => lineUp q .contend) (giveTargets l (s.freed l)) := by
    rw [releaseTargets, assignTargets_eq hl, List.nil_append]
    rfl
  rw [hsteps, hrank, freed_heir, lineUps_eq]
  rfl

section
variable {l : List (Fin 57)} (hl : l.Nodup)
include hl

theorem releaseTargets_touches (s : State) : TouchesPlayers s (releaseTargets l s) := by
  rw [releaseTargets_steps hl]
  exact (freed_touches s l).trans ((giveTargets_touches l _).trans (lineAll_touches _ _ _))

theorem releaseTargets_holder (s : State) (x : Fin 57) : (releaseTargets l s).cue.holders.get x =
    if x ∈ l then s.heir x else s.cue.holders.get x := by
  have hfree : (s.freed l).cue.holders.get x = if x ∈ l then none else s.cue.holders.get x := unhold_holder l s x
  rw [releaseTargets_steps hl, lineAll_holders, giveTargets_holder hl, freed_heir, hfree]
  split <;> simp

theorem releaseTargets_player (s : State) (q : Fin 8) : (releaseTargets l s).cue.players.get q =
    if ∃ x ∈ l, s.heir x = some q then (s.cue.players.get q).resumed else s.cue.players.get q := by
  have hfirst : ((s.receivers l).map fun q => (q, Stage.contend)).map Prod.fst = s.receivers l := by
    rw [List.map_map]
    exact List.map_id _
  have hnodup : (s.receivers l).Nodup := (receivers_pairwise s l).imp Precedes.ne
  rw [releaseTargets_steps hl, lineAll_player _ (hfirst.symm ▸ hnodup), giveTargets_player hl, freed_heir, freed_players, hfirst]
  simp only [mem_receivers]
  split <;> rfl

theorem releaseTargets_work (s : State) :
    (releaseTargets l s).work = { s.work with runs := s.work.runs ++ (s.receivers l).map fun q => (q, .contend) } := by
  rw [releaseTargets_steps hl, lineAll_work, giveTargets_work, freed_work]

end

end Sys2Proof.Machine
end

section
/-! SUPPORT. A player's waits and awaits (R130, R132, R133, R138, R140), its contention for a target (R131), and what an event or an
ending does to the players (R128). -/

namespace Sys2Proof.Machine

variable {s : State} {p q : Fin 8} {n : Nat} {item : CueItem} {x : Player}

/-! ## Countdowns and timeouts run out (R130, R138; log entry 2) -/

section
variable (hw : s.work.isClear = true)
include hw

theorem exec_waitExpiry (p : Fin 8) : exec (.waitExpiry p.1) s = .next (whenDue (s.waitDue p) (waitExpire p) s) :=
  (perform_clear hw _).trans (congrArg Host.Outcome.next (forItem_val p _ s))

theorem exec_waitTimeout (p : Fin 8) : exec (.waitTimeout p.1) s = .next (whenDue (s.timeoutDue p) (waitTimeOut p) s) :=
  (perform_clear hw _).trans (congrArg Host.Outcome.next (forItem_val p _ s))

theorem exec_waitExpiry_due {since : Nat} (hs : (s.cue.players.get p).state = .waiting)
    (h : (s.cue.players.get p).wait = some ⟨.realMs 0, since⟩ ∨ (s.cue.players.get p).wait = some ⟨.townSeconds 0, since⟩) :
    exec (.waitExpiry p.1) s = .next (finish
      ((s.modPlayer p fun y => { y with wait := none, state := .running, blocked := none }).laterRun p .contend)) := by
  have hcount : ((s.cue.players.get p).wait.any fun w => w.kind == .realMs 0 || w.kind == .townSeconds 0) = true := by
    rcases h with h | h <;> rw [h] <;> rfl
  have hdue : s.waitDue p = true := by rw [State.waitDue, hs, hcount]; rfl
  have hmet : waitExpire p s = lineUp p .contend (s.modPlayer p fun y => { y with wait := none }) := if_pos ⟨hs, hcount⟩
  rw [exec_waitExpiry hw, hdue, whenDue, if_pos rfl, hmet, lineUp_modPlayer]

theorem exec_waitExpiry_early {since m : Nat} (hm : 0 < m)
    (h : (s.cue.players.get p).wait = some ⟨.realMs m, since⟩ ∨ (s.cue.players.get p).wait = some ⟨.townSeconds m, since⟩) :
    exec (.waitExpiry p.1) s = .next s := by
  have hdue : s.waitDue p = false := by
    rw [State.waitDue]
    rcases h with h | h <;> rw [h] <;> simp [hm.ne']
  rw [exec_waitExpiry hw, hdue]
  rfl

theorem exec_waitTimeout_due {since given : Nat} {spec : EventSpec} (hs : (s.cue.players.get p).state = .waiting)
    (h : (s.cue.players.get p).wait = some ⟨.event spec (some (given, 0)), since⟩) :
    exec (.waitTimeout p.1) s = .next (finish (faultPlayer p .waitTimeout given s)) := by
  have hdue : s.timeoutDue p = true := by rw [State.timeoutDue, hs, h]; rfl
  have hout : waitTimeOut p s = faultPlayer p .waitTimeout given s := by simp only [waitTimeOut, hs, h]
  rw [exec_waitTimeout hw, hdue, whenDue, if_pos rfl, hout]

theorem exec_waitTimeout_early {since given m : Nat} {spec : EventSpec} (hm : 0 < m)
    (h : (s.cue.players.get p).wait = some ⟨.event spec (some (given, m)), since⟩) : exec (.waitTimeout p.1) s = .next s := by
  obtain ⟨m, rfl⟩ := Nat.exists_eq_succ_of_ne_zero hm.ne'
  have hdue : s.timeoutDue p = false := by
    rw [State.timeoutDue, h]
    exact Bool.and_false _
  rw [exec_waitTimeout hw, hdue]
  rfl

end

/-! ## A wait begins, and what meets it (R130) -/

section
variable {l : Fin 64} {i : Nat} (hc : (s.cue.players.get p).cur = some (l, i))
include hc

theorem beginWait_returns (hi : (s.cue.lists.get l).length ≤ i) : beginWait p s = returnFrom p s := by
  simp only [beginWait, hc, if_pos hi]

variable (hi : i < (s.cue.lists.get l).length)
include hi

theorem beginWait_met (h : waitOf (s.stepOf p) = none) : beginWait p s = s.later (.run p .contend) := by
  simp only [beginWait, hc, if_neg (Nat.not_le.mpr hi), h]
  rfl

theorem beginWait_waits {k : WaitKind} (h : waitOf (s.stepOf p) = some k) : beginWait p s =
    s.modPlayer p fun y => { y with state := .waiting, wait := some { kind := k, since := s.work.arrival } } := by
  simp only [beginWait, hc, if_neg (Nat.not_le.mpr hi), h]

end

/-- A step without a wait, or with a countdown of 0, waits for nothing. -/
theorem waitOf_none {r : StepRec} (h : r.waitKind = 0 ∨ 4 < r.waitKind ∨ ((r.waitKind = 1 ∨ r.waitKind = 2) ∧ r.waitValue = 0)) :
    waitOf r = none := by
  unfold waitOf
  split
  · exact if_pos (by omega)
  · exact if_pos (by omega)
  · omega
  · omega
  · rfl

section
variable {r : StepRec}

theorem waitOf_realMs (h : r.waitKind = 1) (hv : 0 < r.waitValue) : waitOf r = some (.realMs r.waitValue) := by
  simp only [waitOf, h, if_neg hv.ne']

theorem waitOf_townSeconds (h : r.waitKind = 2) (hv : 0 < r.waitValue) : waitOf r = some (.townSeconds r.waitValue) := by
  simp only [waitOf, h, if_neg hv.ne']

theorem waitOf_townAt (h : r.waitKind = 3) : waitOf r = some (.townAt r.waitValue) := by simp only [waitOf, h]

theorem waitOf_event (h : r.waitKind = 4) :
    waitOf r = some (.event r.waitSpec (if r.timeout = 0 then none else some (r.timeout, r.timeout))) := by simp only [waitOf, h]

end

theorem WaitRec.metBy_iff {w : WaitRec} : w.metBy n item = true ↔ w.since ≤ n ∧
    ((∃ m, w.kind = .townAt m ∧ item = .event (.townMinute m)) ∨
      ∃ spec left e, w.kind = .event spec left ∧ item = .event e ∧ spec.matches e = true) := by
  unfold WaitRec.metBy
  rw [Bool.and_eq_true, decide_eq_true_eq]
  refine and_congr_right fun _ => ?_
  split <;> grind

theorem offerBlocks_player (e : Event) (s : State) (p : Fin 8) : (s.offerBlocks e).cue.players.get p = markSeen e (s.cue.players.get p) :=
  Table.get_map _ _ p

theorem EventSpec.matches_iff (spec : EventSpec) (e : Event) : spec.matches e = true ↔
    spec.code = e.code ∧ ∀ y z, spec.subject = some y → e.subject = some z → y = z := by
  rw [EventSpec.matches, Bool.and_eq_true, beq_iff_eq]
  refine and_congr_right fun _ => ?_
  cases spec.subject <;> cases e.subject <;> simp

/-! ## What a held item makes of an await (R133; log entry 11) -/

theorem AwaitRec.verdict_completed_iff (a : AwaitRec) (n : Nat) (item : CueItem) : a.verdict n item = some .completed ↔
    (∃ g, a.expect = .fade g ∧ (item = .event (.fadeDone g) ∨ (item = .ending (.fade g) ∧ a.since ≤ n))) ∨
    (∃ t last, a.expect = .route t last ∧
      ((∃ x : Fin 48, x.1 = last ∧ item = .event (.routeReady t x)) ∨ (item = .ending (.route t) ∧ a.since ≤ n))) ∨
    (∃ k, a.expect = .axis k ∧ (item = .event (.axisDone k) ∨ (item = .ending (.axis k) ∧ a.since ≤ n))) ∨
    (a.expect = .glide ∧ (item = .event .clockLocked ∨ (item = .ending .glide ∧ a.since ≤ n))) := by
  unfold AwaitRec.verdict
  split <;> grind

theorem AwaitRec.verdict_failed_iff (a : AwaitRec) (n : Nat) (item : CueItem) (code : PlayerFaultCode) (detail : Nat) :
    a.verdict n item = some (.failed code detail) ↔
      (∃ t last reason, a.expect = .route t last ∧ item = .event (.routeFault t reason) ∧ code = .routeFault ∧ detail = reason.code) ∨
      ∃ k c, a.expect = .axis k ∧ item = .event (.axisFault k c) ∧ code = .axisFault ∧ detail = c.code := by
  unfold AwaitRec.verdict
  split <;> grind

end Sys2Proof.Machine
end

section
/-! SUPPORT. An event or an ending offered to the players (R128, R130, R133, R140), contention (R131), and the issue of an action (R132). -/

namespace Sys2Proof.Machine

variable {s u : State} {p q : Fin 8} {n : Nat} {item : CueItem} {x : Player} {stage : Stage}

/-! ## What an item does to one player (R130, R133, R140) -/

theorem Player.meets_waiting (hs : x.state = .waiting) :
    x.meets n item = if x.wait.any fun w => w.metBy n item then some .contend else none := by
  rw [Player.meets, hs]

theorem Player.meets_running (hs : x.state = .running) :
    x.meets n item = (x.await.bind fun a => a.verdict n item).map AwaitOutcome.stage := by
  rw [Player.meets, hs]

theorem Player.meets_none (hw : x.state ≠ .waiting) (hr : x.state ≠ .running) (n : Nat) (item : CueItem) : x.meets n item = none := by
  unfold Player.meets
  split
  · next h => exact absurd h hw
  · next h => exact absurd h hr
  · rfl

theorem AwaitOutcome.stage_eq_iff {o : AwaitOutcome} : o.stage = stage ↔
    (o = .completed ∧ stage = .advance) ∨ ∃ code detail, o = .failed code detail ∧ stage = .fail code detail := by
  cases o with
  | completed => simp [AwaitOutcome.stage, @eq_comm _ stage]
  | failed code detail => simp [AwaitOutcome.stage, @eq_comm _ stage]

theorem Player.meets_iff : x.meets n item = some stage ↔
    (x.state = .waiting ∧ (∃ w, x.wait = some w ∧ w.metBy n item = true) ∧ stage = .contend) ∨
    (x.state = .running ∧ ∃ a, x.await = some a ∧ ((a.verdict n item = some .completed ∧ stage = .advance) ∨
      ∃ code detail, a.verdict n item = some (.failed code detail) ∧ stage = .fail code detail)) := by
  by_cases hw : x.state = .waiting
  · rw [Player.meets_waiting hw, Option.ite_none_right_eq_some, Option.any_eq_true, Option.some.injEq]
    simp [hw, @eq_comm _ stage]
  · by_cases hr : x.state = .running
    · rw [Player.meets_running hr]
      simp only [Option.map_eq_some_iff, Option.bind_eq_some_iff, AwaitOutcome.stage_eq_iff, hr, reduceCtorEq, false_and, false_or, true_and]
      constructor
      · rintro ⟨o, ⟨a, ha, ho⟩, ⟨rfl, hst⟩ | ⟨code, detail, rfl, hst⟩⟩
        · exact ⟨a, ha, .inl ⟨ho, hst⟩⟩
        · exact ⟨a, ha, .inr ⟨code, detail, ho, hst⟩⟩
      · rintro ⟨a, ha, ⟨ho, hst⟩ | ⟨code, detail, ho, hst⟩⟩
        · exact ⟨_, ⟨a, ha, ho⟩, .inl ⟨rfl, hst⟩⟩
        · exact ⟨_, ⟨a, ha, ho⟩, .inr ⟨code, detail, rfl, hst⟩⟩
    · simp [Player.meets_none hw hr, hw, hr]

theorem Player.paused_of_meets (h : x.meets n item = some stage) : x.state ≠ .paused := by
  intro hp
  rw [Player.meets_none (by simp [hp]) (by simp [hp])] at h
  cases h

/-- Only a PAUSED player with an await records an outcome. -/
theorem Player.record_unchanged (h : x.state ≠ .paused ∨ x.await = none) (n : Nat) (item : CueItem) : x.record n item = x := by
  unfold Player.record
  split
  · next hs ha => simp [hs, ha] at h
  · rfl

theorem Player.record_paused (hs : x.state = .paused) {a : AwaitRec} (ha : x.await = some a) : x.record n item =
    { x with await := some { a with outcome := if a.outcome.isSome then a.outcome else a.verdict n item } } := by
  unfold Player.record
  split
  · next b _ hb =>
    obtain rfl := Option.some.inj (ha.symm.trans hb)
    split
    · exact congrArg (fun w => { x with await := w }) ha
    · rfl
  · next hno => exact absurd ha (hno a hs)

/-- What a PAUSED player records meets nothing. -/
theorem Player.record_meets : (x.record n item).meets n item = x.meets n item := by
  unfold Player.record
  split
  · next hs _ =>
    split
    · rfl
    · rw [Player.meets_none (by simp [hs]) (by simp [hs]), Player.meets_none (by simp [hs]) (by simp [hs])]
  · rfl

/-- A player whose wait or await is met runs on. -/
def Player.goneOn (x : Player) : Player := { x with state := .running, wait := none, await := none, blocked := none }

/-! ## An item offered to every player (R128) -/

theorem runOn_some (h : (s.cue.players.get p).meets n item = some stage) :
    runOn n item p s = (s.modPlayer p Player.goneOn).laterRun p stage := by
  rw [runOn, h]
  exact lineUp_modPlayer p stage _ s

theorem runOns_eq {l : List (Fin 8)} (hl : l.Nodup) {stage : Fin 8 → Stage} {s : State}
    (h : ∀ q ∈ l, (s.cue.players.get q).meets n item = some (stage q)) :
    forEach l (runOn n item) s = lineAll Player.goneOn (l.map fun q => (q, stage q)) s := by
  induction l generalizing s with
  | nil => rfl
  | cons q l ih =>
    obtain ⟨hq, hl⟩ := List.nodup_cons.mp hl
    rw [forEach, List.foldl_cons, ← forEach, runOn_some (h q List.mem_cons_self), ih hl, List.map_cons, lineAll_cons]
    intro r hr
    rw [State.laterRun_cue, State.modPlayer_player, if_neg (ne_of_mem_of_not_mem hr hq)]
    exact h r (List.mem_cons_of_mem q hr)

/-- The stage at which an item lets a player run on. -/
def State.metAt (s : State) (n : Nat) (item : CueItem) (q : Fin 8) : Stage := ((s.cue.players.get q).meets n item).getD .wait

/-- The players an item meets with their stages, in the order they run. -/
def State.metOrder (s : State) (n : Nat) (item : CueItem) : List (Fin 8 × Stage) := (s.metBy n item).map fun q => (q, s.metAt n item q)

theorem mem_metBy : q ∈ s.metBy n item ↔ ∃ stage, (s.cue.players.get q).meets n item = some stage := by
  rw [State.metBy, State.byPriority, mem_byWeight]
  simp [List.mem_filter, Option.isSome_iff_exists]

theorem metBy_pairwise (s : State) (n : Nat) (item : CueItem) : (s.metBy n item).Pairwise (Precedes s.rank) :=
  byWeight_pairwise _ ((indices_ascending 8).filter _)

theorem metOrder_first (s : State) (n : Nat) (item : CueItem) : (s.metOrder n item).map Prod.fst = s.metBy n item := by
  rw [State.metOrder, List.map_map]
  exact List.map_id _

theorem mem_metOrder : (q, stage) ∈ s.metOrder n item ↔ (s.cue.players.get q).meets n item = some stage := by
  rw [State.metOrder, List.mem_map]
  constructor
  · rintro ⟨r, hr, e⟩
    obtain ⟨st, hst⟩ := mem_metBy.mp hr
    obtain ⟨rfl, rfl⟩ := Prod.mk.inj e
    rw [State.metAt, hst]
    rfl
  · intro h
    exact ⟨q, mem_metBy.mpr ⟨stage, h⟩, by rw [State.metAt, h]; rfl⟩

/-- An item is recorded by the PAUSED players; those it meets run on in their order. -/
theorem offerItem_eq (n : Nat) (item : CueItem) (s : State) : offerItem n item s =
    lineAll Player.goneOn (s.metOrder n item) (s.modCue fun c => { c with players := c.players.map (Player.record n item) }) := by
  refine runOns_eq ((metBy_pairwise s n item).imp Precedes.ne) fun q hq => ?_
  obtain ⟨stage, h⟩ := mem_metBy.mp hq
  rw [State.modCue_cue, Table.get_map, Player.record_meets, State.metAt, h]
  rfl

theorem offerItem_touches (n : Nat) (item : CueItem) (s : State) : TouchesPlayers s (offerItem n item s) := by
  rw [offerItem_eq]
  exact TouchesPlayers.trans (u := s.modCue fun c => { c with players := c.players.map (Player.record n item) }) rfl (lineAll_touches _ _ _)

theorem offerItem_holders (n : Nat) (item : CueItem) (s : State) : (offerItem n item s).cue.holders = s.cue.holders := by
  rw [offerItem_eq, lineAll_holders]
  rfl

theorem offerItem_work (n : Nat) (item : CueItem) (s : State) :
    (offerItem n item s).work = { s.work with runs := s.work.runs ++ s.metOrder n item } := by
  rw [offerItem_eq, lineAll_work]
  rfl

theorem offerItem_player (n : Nat) (item : CueItem) (s : State) (q : Fin 8) : (offerItem n item s).cue.players.get q =
    if q ∈ s.metBy n item then ((s.cue.players.get q).record n item).goneOn else (s.cue.players.get q).record n item := by
  have hnodup : ((s.metOrder n item).map Prod.fst).Nodup := by
    rw [metOrder_first]
    exact (metBy_pairwise s n item).imp Precedes.ne
  rw [offerItem_eq, lineAll_player _ hnodup, metOrder_first, State.modCue_cue, Table.get_map]

theorem offerItem_met (h : (s.cue.players.get q).meets n item = some stage) :
    (offerItem n item s).cue.players.get q = (s.cue.players.get q).goneOn := by
  rw [offerItem_player, if_pos (mem_metBy.mpr ⟨stage, h⟩), Player.record_unchanged (.inl (Player.paused_of_meets h))]

theorem offerItem_unmet (h : ∀ stage, (s.cue.players.get q).meets n item ≠ some stage) :
    (offerItem n item s).cue.players.get q = (s.cue.players.get q).record n item := by
  rw [offerItem_player, if_neg fun hq => let ⟨stage, e⟩ := mem_metBy.mp hq; h stage e]

/-! ## Contention (R131) -/

section
variable {x : Fin 57}

theorem interlocked_iff : interlocked x = true ↔ 32 ≤ x.1 ∧ x.1 < 48 := by
  rw [interlocked, Bool.and_eq_true, decide_eq_true_eq, decide_eq_true_eq]

theorem contendFor_interlock (h : 32 ≤ x.1 ∧ x.1 < 48 ∧ s.supply.keyOn = true) : contendFor p x s = block p .interlock s :=
  if_pos ⟨interlocked_iff.mpr ⟨h.1, h.2.1⟩, h.2.2⟩

variable (h : ¬(32 ≤ x.1 ∧ x.1 < 48 ∧ s.supply.keyOn = true))
include h

/-- With the interlock out of its way a player contends with the target's holder. -/
theorem contendFor_free : contendFor p x s =
    match s.cue.holders.get x with
    | none => issue p (s.setHolder x (some p))
    | some q =>
      if q = p then issue p s
      else if (s.cue.players.get p).priority ≤ (s.cue.players.get q).priority then block p (.target x) s
      else issue p ((s.setHolder x (some p)).raise (.playerDisplaced q x)) :=
  if_neg fun hno => h ⟨(interlocked_iff.mp hno.1).1, (interlocked_iff.mp hno.1).2, hno.2⟩

end

/-! ## Issue (R132) -/

section
variable {h : Handled} (hh : h = issueAction (s.stepOf p) s)
include hh

theorem issue_refused (hc : ¬(h.2.code = .ok ∨ h.2.code = .accepted)) : issue p s = h.1.later (.run p (.fail .targetRefused h.2.code.code)) := by
  subst hh
  exact if_pos (not_or.mp hc)

variable (hc : h.2.code = .ok ∨ h.2.code = .accepted)
include hc

theorem issue_taken : issue p s =
    if (s.stepOf p).awaits then h.1.modPlayer p fun x => { x with await := some (awaitOf (s.stepOf p) h.1.work.arrival) }
    else goOn p .advance h.1 := by
  subst hh
  exact if_neg fun hno => hc.elim hno.1 hno.2

end

end Sys2Proof.Machine
end

section
/-! SUPPORT. A step's advance (R127, R134 to R137), the return from a list, the end of a run and a fault (R137, R138). -/

namespace Sys2Proof.Machine

variable {s : State} {p : Fin 8}

/-! ## The next step (R128) -/

theorem jumpStep_modPlayer (p : Fin 8) (i : Nat) (f : Player → Player) (s : State) : jumpStep p i (s.modPlayer p f) =
    (s.modPlayer p fun y => { f y with cur := (f y).cur.map fun c => (c.1, i) }).later (.run p .wait) := by
  rw [jumpStep, State.modPlayer_twice]
  rfl

/-- A step that is no control step leads to the next one. -/
theorem advanceStep_onward (h : (s.stepOf p).action < 16 ∨ 21 < (s.stepOf p).action) :
    advanceStep p s = jumpStep p ((s.cue.players.get p).index + 1) s := by
  unfold advanceStep
  dsimp only
  split
  case h_7 => rfl
  all_goals omega

theorem advanceStep_mark (h : (s.stepOf p).action = 16) :
    advanceStep p s = jumpStep p ((s.cue.players.get p).index + 1) (s.raise (.cueMark (s.stepOf p).p1)) := by
  simp only [advanceStep, h]

theorem advanceStep_call (h : (s.stepOf p).action = 17) : advanceStep p s = callList p (s.stepOf p).p1 s := by
  simp only [advanceStep, h]

theorem advanceStep_begin (h : (s.stepOf p).action = 18) : advanceStep p s = repeatBegin p (s.stepOf p) s := by
  simp only [advanceStep, h]

theorem advanceStep_end (h : (s.stepOf p).action = 19) : advanceStep p s = repeatEnd p s := by
  simp only [advanceStep, h]

theorem advanceStep_release (h : (s.stepOf p).action = 20) :
    advanceStep p s = jumpStep p ((s.cue.players.get p).index + 1) (releaseStep p (s.stepOf p).target s) := by
  simp only [advanceStep, h]

theorem advanceStep_return (h : (s.stepOf p).action = 21) : advanceStep p s = returnFrom p s := by
  simp only [advanceStep, h]

theorem releaseStep_eq (p : Fin 8) (k : Nat) (s : State) : releaseStep p k s =
    releaseTargets (if k = 0xFF then s.heldTargets p else (s.heldTargets p).filter fun x => x.1 == k) s := by
  unfold releaseStep
  split <;> rfl

/-! ## CALL (R136) -/

theorem callList_overflow (h : 4 ≤ (s.cue.players.get p).calls.length) (k : Nat) : callList p k s = faultPlayer p .stackOverflow k s :=
  if_pos h

section
variable (hroom : (s.cue.players.get p).calls.length < 4)
include hroom

theorem callList_beyond {k : Nat} (h : 63 < k) : callList p k s = faultPlayer p .listNotReady k s := by
  rw [callList]
  refine (if_neg (Nat.not_le.mpr hroom)).trans ?_
  rw [fin?_of_le h]

variable {l : Fin 64}

theorem callList_notReady (h : (s.cue.lists.get l).state ≠ .ready) : callList p l.1 s = faultPlayer p .listNotReady l.1 s := by
  rw [callList]
  refine (if_neg (Nat.not_le.mpr hroom)).trans ?_
  rw [fin?_val]
  exact if_pos h

variable (hready : (s.cue.lists.get l).state = .ready) {m : Fin 64} {i : Nat} (hc : (s.cue.players.get p).cur = some (m, i))
include hready hc

theorem callList_recursion (h : m = l ∨ ∃ c ∈ (s.cue.players.get p).calls, c.1 = l) : callList p l.1 s = faultPlayer p .recursion l.1 s := by
  have hin : m = l ∨ ((s.cue.players.get p).calls.any fun c => c.1 == l) = true := h.imp_right fun ⟨c, hc, e⟩ =>
    List.any_eq_true.mpr ⟨c, hc, beq_iff_eq.mpr e⟩
  rw [callList]
  refine (if_neg (Nat.not_le.mpr hroom)).trans ?_
  simp only [fin?_val, if_neg (not_not.mpr hready), hc, if_pos hin]

/-- A READY list that is neither current nor a caller is called. -/
theorem callList_calls (hm : m ≠ l) (hno : ∀ c ∈ (s.cue.players.get p).calls, c.1 ≠ l) : callList p l.1 s =
    (s.modPlayer p fun y => { y with calls := (m, i + 1) :: y.calls, cur := some (l, 0) }).later (.run p .wait) := by
  have hout : ¬(m = l ∨ ((s.cue.players.get p).calls.any fun c => c.1 == l) = true) := by
    rintro (e | hany)
    · exact hm e
    · obtain ⟨c, hc, e⟩ := List.any_eq_true.mp hany
      exact hno c hc (beq_iff_eq.mp e)
  rw [callList]
  refine (if_neg (Nat.not_le.mpr hroom)).trans ?_
  simp only [fin?_val, if_neg (not_not.mpr hready), hc, if_neg hout]
  rfl

end

/-! ## Repeats (R135; log entry 64) -/

theorem repeatBegin_overflow (h : 8 ≤ (s.cue.players.get p).repeats.length) (r : StepRec) :
    repeatBegin p r s = faultPlayer p .repeatOverflow 0 s := if_pos h

theorem repeatBegin_pushes (h : (s.cue.players.get p).repeats.length < 8) (r : StepRec) : repeatBegin p r s =
    jumpStep p ((s.cue.players.get p).index + 1) (s.modPlayer p fun y => { y with
      repeats := { begin := (s.cue.players.get p).index, remaining := r.p1, until_ := r.untilSpec, seen := false,
                   depth := (s.cue.players.get p).calls.length } :: y.repeats }) := if_neg (Nat.not_le.mpr h)

theorem repeatEnd_none (h : (s.cue.players.get p).repeats = []) : repeatEnd p s = jumpStep p ((s.cue.players.get p).index + 1) s := by
  simp only [repeatEnd, h]

section
variable {f : RepeatFrame} {rest : List RepeatFrame} (h : (s.cue.players.get p).repeats = f :: rest)
include h

theorem repeatEnd_leaves (hf : f.remaining = 1 ∨ f.seen = true) : repeatEnd p s =
    jumpStep p ((s.cue.players.get p).index + 1) (s.modPlayer p fun y => { y with repeats := rest }) := by
  simp only [repeatEnd, h, if_pos hf]

theorem repeatEnd_again (hr : f.remaining ≠ 1) (hs : f.seen = false) : repeatEnd p s = jumpStep p (f.begin + 1)
    (s.modPlayer p fun y => { y with repeats := { f with remaining := f.remaining - 1 } :: rest }) := by
  simp only [repeatEnd, h, hr, hs, Bool.false_eq_true, or_self, if_false]

end

/-! ## The return from a list, and the end of a run (R137) -/

theorem returnFrom_caller {l : Fin 64} {i : Nat} {rest : List (Fin 64 × Nat)} (h : (s.cue.players.get p).calls = (l, i) :: rest) :
    returnFrom p s = (s.modPlayer p fun y => { y with
      repeats := (s.cue.players.get p).repeats.filter fun f => f.depth != (s.cue.players.get p).calls.length
      calls := rest, cur := some (l, i) }).later (.run p .wait) := by
  simp only [returnFrom, h]
  rfl

theorem returnFrom_end (h : (s.cue.players.get p).calls = []) : returnFrom p s = endRun p s := by
  simp only [returnFrom, h]

theorem heldTargets_nodup (s : State) (p : Fin 8) : (s.heldTargets p).Nodup := (List.nodup_finRange 57).filter _

/-- An event leaves a player's pending start. -/
theorem raise_pendingStart (e : Event) (s : State) (p : Fin 8) :
    ((s.raise e).cue.players.get p).pendingStart = (s.cue.players.get p).pendingStart :=
  State.raise_keeps (P := fun u => (u.cue.players.get p).pendingStart = (s.cue.players.get p).pendingStart) (fun _ _ h => h)
    (fun u e' _ h => by rw [offerBlocks_player]; exact h) rfl

theorem releaseTargets_pendingStart {l : List (Fin 57)} (hl : l.Nodup) (s : State) (p : Fin 8) :
    ((releaseTargets l s).cue.players.get p).pendingStart = (s.cue.players.get p).pendingStart := by
  rw [releaseTargets_player hl]
  split <;> rfl

/-- The state behind a run that has ended, before a pending start. -/
def State.ended (s : State) (p : Fin 8) : State :=
  (releaseTargets (s.heldTargets p) (s.modPlayer p (Player.clear .idle))).raise (.playerEnd p)

theorem ended_pendingStart (s : State) (p : Fin 8) : ((s.ended p).cue.players.get p).pendingStart = (s.cue.players.get p).pendingStart := by
  rw [State.ended, raise_pendingStart, releaseTargets_pendingStart (heldTargets_nodup s p), State.modPlayer_player, if_pos rfl]
  rfl

theorem endRun_idle (h : (s.cue.players.get p).pendingStart = none) : endRun p s = s.ended p := by
  have hpend : ((s.ended p).cue.players.get p).pendingStart = none := (ended_pendingStart s p).trans h
  unfold State.ended at *
  simp only [endRun, hpend]

theorem endRun_starts {l : Fin 64} {pol : Policy} (h : (s.cue.players.get p).pendingStart = some (l, pol)) : endRun p s =
    ((s.ended p).modPlayer p fun y => Player.begin l { y with pendingStart := none }).laterRun p .wait := by
  have hpend : ((s.ended p).cue.players.get p).pendingStart = some (l, pol) := (ended_pendingStart s p).trans h
  unfold State.ended at *
  simp only [endRun, hpend, startList, State.modPlayer_twice]

/-- The place of a fault is the step the player is at (R138). -/
theorem faultPlayer_at {l : Fin 64} {i : Nat} (h : (s.cue.players.get p).cur = some (l, i)) (code : PlayerFaultCode) (detail : Nat) :
    faultPlayer p code detail s = (releaseTargets (s.heldTargets p) (s.modPlayer p fun y => { Player.clear .fault y with
      pendingStart := none, prePause := none, fault := some { code := code, detail := detail, list := l, step := i } })).raise
        (.playerFault p code) := by
  simp only [faultPlayer, h, Option.getD_some]

end Sys2Proof.Machine
end

section
/-! SUPPORT. The statements of the cue lists' and players' family settled: each by its lemmas above. -/

namespace Sys2Proof.CueEngine

open Sys2Proof.Machine

/-- Settles O48: each request by the player's state, a start by its policy, a resume by what was paused. -/
theorem playerRequests : Obligations.PlayerRequests := by
  refine ⟨fun tag p l pol priority s h => ⟨fun hl => ?_, fun hl hx => ?_, fun hl hi hf hpol => ?_, fun hl hi hf hpol => ?_, fun hl hi hf hpol => ?_,
      fun hx => ?_, fun hx => ?_, fun hx => ?_, fun hx => ?_, fun hx hpre => ?_, ⟨fun hx hpre => ?_, fun hx hpre => ⟨fun ho => ?_, fun ho => ?_,
      fun code detail ho => ?_⟩⟩, fun hx => ?_, fun hr hx => ?_, fun hr hx => ?_, fun hr => ?_⟩,
    fun tag player list policy priority s h => ⟨fun hno => ?_, fun hno => ⟨?_, ?_, ?_, ?_⟩⟩⟩
  · refine exec_query h rfl rfl ((doPlayerStart_read p l pol _).trans ?_)
    rw [startPlayer_notReady (by exact hl)]
    rfl
  · refine exec_served h rfl rfl ((doPlayerStart_read p l pol _).trans ?_)
    rw [startPlayer_started (by exact hl) (by exact hx)]
    rfl
  · subst hpol
    refine exec_query h rfl rfl ((doPlayerStart_read p l .skip _).trans ?_)
    rw [startPlayer_runs (by exact hl) (by exact hi) (by exact hf)]
    rfl
  · subst hpol
    refine exec_served h rfl rfl ((doPlayerStart_read p l .queue _).trans ?_)
    rw [startPlayer_runs (by exact hl) (by exact hi) (by exact hf)]
    rfl
  · subst hpol
    refine exec_served h rfl rfl ((doPlayerStart_read p l .replace _).trans ?_)
    rw [startPlayer_runs (by exact hl) (by exact hi) (by exact hf)]
    rfl
  · exact exec_query h rfl rfl (doPlayerStop_idle hx)
  · exact exec_served h rfl rfl (doPlayerStop_runs hx)
  · exact exec_served h rfl rfl (doPlayerPause_paused hx)
  · exact exec_query h rfl rfl (doPlayerPause_refused hx)
  · exact exec_served h rfl rfl (doPlayerResume_waiting hx hpre)
  · exact exec_served h rfl rfl (doPlayerResume_blocked hx hpre)
  · exact exec_served h rfl rfl (doPlayerResume_running hx hpre ho)
  · exact exec_served h rfl rfl (doPlayerResume_outcome (s := s.taking tag (.playerResume p.1)) hx hpre ho)
  · exact exec_served h rfl rfl (doPlayerResume_outcome (s := s.taking tag (.playerResume p.1)) hx hpre ho)
  · exact exec_query h rfl rfl (doPlayerResume_refused hx)
  · exact exec_served h rfl rfl (doPlayerPriority_set hr hx)
  · exact exec_query h rfl rfl (doPlayerPriority_wrongState hr hx)
  · exact exec_query h rfl rfl (doPlayerPriority_range hr)
  · exact exec_query h rfl rfl (doPlayerStart_beyond hno)
  · exact exec_query h rfl rfl (doPlayerStop_beyond hno)
  · exact exec_query h rfl rfl (doPlayerPause_beyond hno)
  · exact exec_query h rfl rfl (doPlayerResume_beyond hno)
  · exact exec_query h rfl rfl (doPlayerPriority_beyond hno)

/-- Settles O52: a trigger by whether it was applied already, the work by its first kind that waits, a source by what it watches for. -/
theorem triggerApplied : Obligations.TriggerApplied := by
  refine ⟨fun k e s => ⟨applyTrigger_again, applyTrigger_first, fun _ => mem_matching, matching_ascending s e⟩,
    fun s => ⟨fun t more h => ?_, fun p stage more h1 h => settleOne_runs h1 h, fun n item more h1 h2 h => settleOne_held h1 h2 h,
      fun k more h1 h2 h3 h => settleOne_matched h1 h2 h3 h, fun e more h1 h2 h3 h4 h => settleOne_events h1 h2 h3 h4 h,
      settleOne_eq_none_iff.symm, rfl, rfl, fun n => ⟨fun h => settleN_none h n, fun u h => settleN_some h n⟩⟩,
    fun t p x c st stage s => ⟨rfl, rfl, rfl, rfl, rfl, rfl, fun h => runStage_stands h stage, fun h => ⟨runStage_running h .wait,
      runStage_running h .contend, runStage_running h .advance, fun code detail => runStage_running h (.fail code detail)⟩⟩,
    Source.matches_iff⟩
  rw [settleOne_stack h]
  rfl

/-- Settles O5: an event and its reports of lost notices are the only work, and each goes by without a trace. -/
theorem quietEventTouchesLinkOnly : Obligations.QuietEventTouchesLinkOnly := fun e _ hq hw => settle_raise_quiet hq hw e

/-- Settles O47: each request by its range and by the player that uses the list, a step by the first of its checks that fails, and a list
by the repeats that stand open before each step. -/
theorem listRequests : Obligations.ListRequests := by
  refine ⟨fun tag l first steps s h => ⟨fun fits hu => ⟨?_, fun hv => ?_, fun f i hv => ?_⟩, fun hno e => ?_, fun p e fits hu => ?_,
      fun hu => ?_, fun p hu => ?_, fun p => Player.uses_iff, fun p => listUser_eq_some_iff, CueList.write_step _ _ _,
      ⟨rfl, CueList.cut_step _ _⟩, fun n hn => ⟨fun e => ?_, ?_⟩⟩,
    fun r depth => ⟨r.actionValid_iff, r.paramsValid_iff, r.waitValid_iff, r.flagsValid_iff, r.waits_eq_false_iff, r.failure_action,
      r.failure_params, r.failure_wait, r.failure_flags, fun h1 h2 h3 h4 => ?_⟩,
    fun steps opened hstart hnext => ⟨fun i r f hr hpass hf => validateList_fails hstart hnext hr hpass hf,
      fun i r b outer hr hpass hf ha ho hever => validateList_endless hstart hnext hr hpass hf ha ho hever,
      fun hpass => (validateList_passes hstart hnext hpass).trans ?_⟩⟩
  · exact exec_served h rfl rfl (doListWrite_open (s := s.taking tag (.listWrite l.1 first false steps)) fits hu)
  · exact exec_served h rfl rfl (doListWrite_valid (s := s.taking tag (.listWrite l.1 first true steps)) fits hu rfl hv)
  · exact exec_served h rfl rfl (doListWrite_invalid (s := s.taking tag (.listWrite l.1 first true steps)) fits hu rfl hv)
  · exact exec_query h rfl rfl (doListWrite_range hno e)
  · exact exec_query h rfl rfl (doListWrite_inUse (s := s.taking tag (.listWrite l.1 first e steps)) fits hu e)
  · exact exec_served h rfl rfl (doListErase_erased (s := s.taking tag (.listErase l.1)) hu)
  · exact exec_query h rfl rfl (doListErase_inUse (s := s.taking tag (.listErase l.1)) hu)
  · exact exec_query h rfl rfl (doListWrite_beyond hn e)
  · exact exec_query h rfl rfl (doListErase_beyond hn)
  · exact r.failure_repeats h1 h2 h3 h4
  · cases opened steps.length <;> rfl

/-- Settles O49: the rows by what is left of the wait, a wait by its kind, an offer player by player, contention by the target's holder, an
issue by its answer, a release by each target's heir, and an advance by its action. -/
theorem waitsAndContention : Obligations.WaitsAndContention := by
  refine ⟨fun p s hw => ⟨fun since hs h => exec_waitExpiry_due hw hs h, fun since n hn h => exec_waitExpiry_early hw hn h,
      fun since spec given hs h => exec_waitTimeout_due hw hs h, fun since spec given n hn h => exec_waitTimeout_early hw hn h⟩,
    fun p l i s => ?begins, fun w n item e s => ⟨WaitRec.metBy_iff, rfl⟩, fun n item s => ?offer, fun p x s => ?contends, fun p s => ?issues,
    fun a n item code detail => ⟨a.verdict_completed_iff n item, a.verdict_failed_iff n item code detail⟩, fun l s hl => ?release,
    fun p s => ?advance, fun p e s spec f => ?repeats⟩
  case begins =>
    intro x r value waits hc hi
    exact ⟨fun h => beginWait_met hc hi (waitOf_none h), fun hk hv => beginWait_waits hc hi (waitOf_realMs hk hv),
      fun hk hv => beginWait_waits hc hi (waitOf_townSeconds hk hv), fun hk => beginWait_waits hc hi (waitOf_townAt hk),
      fun hk => beginWait_waits hc hi (waitOf_event hk)⟩
  case offer =>
    intro t before meets
    have hmeets (q : Fin 8) (stage : Stage) : (s.cue.players.get q).meets n item = some stage ↔ meets q stage := Player.meets_iff
    refine ⟨fun q => ⟨fun ⟨stage, h⟩ => offerItem_met ((hmeets q stage).mpr h), fun a hs ha => ?_, fun hno hs => ?_⟩,
      ⟨s.metOrder n item, fun q stage => mem_metOrder.trans (hmeets q stage), ?_, offerItem_work n item s⟩, ?_⟩
    · have hno (stage : Stage) : (s.cue.players.get q).meets n item ≠ some stage := fun h => Player.paused_of_meets h hs
      rw [offerItem_unmet hno, Player.record_paused hs ha]
    · rw [offerItem_unmet fun stage h => hno stage ((hmeets q stage).mp h), Player.record_unchanged hs]
    · rw [metOrder_first]
      exact metBy_pairwise s n item
    · have h := offerItem_touches n item s
      rw [TouchesPlayers, offerItem_holders] at h
      exact h
  case contends =>
    intro held blockedOn
    refine ⟨contendFor_interlock, fun h hq => ?_, fun h hq => ?_, fun q h hne hq => ⟨fun hp => ?_, fun hp => ?_⟩⟩
    · simp only [contendFor_free h, hq]
    · simp only [contendFor_free h, hq, if_true]
    · simp only [contendFor_free h, hq, if_neg hne, if_pos hp]
      rfl
    · simp only [contendFor_free h, hq, if_neg hne, if_neg (Nat.not_le.mpr hp)]
  case issues =>
    refine ⟨fun hc => issue_refused rfl hc, fun hc ha => ?_, fun hc ha => ?_⟩
    · exact (issue_taken rfl hc).trans (if_pos ha)
    · exact (issue_taken rfl hc).trans (if_neg (by simp [ha]))
  case release =>
    intro t waitsFor before receives
    have hholder (x : Fin 57) : t.cue.holders.get x = if x ∈ l then s.heir x else s.cue.holders.get x := releaseTargets_holder hl s x
    have hreceives (q : Fin 8) : receives q ↔ ∃ x ∈ l, s.heir x = some q :=
      exists_congr fun x => and_congr_right fun hx => by rw [hholder, if_pos hx]
    have hplayer (q : Fin 8) : t.cue.players.get q =
        if ∃ x ∈ l, s.heir x = some q then (s.cue.players.get q).resumed else s.cue.players.get q := releaseTargets_player hl s q
    refine ⟨fun x hx => ⟨fun q hq hall => ?_, fun hno => ?_⟩, fun x hx => (hholder x).trans (if_neg hx),
      fun q => ⟨fun h => (hplayer q).trans (if_pos ((hreceives q).mp h)), fun h => (hplayer q).trans (if_neg (mt (hreceives q).mpr h))⟩,
      ⟨s.receivers l, fun q => mem_receivers.trans (hreceives q).symm, receivers_pairwise s l, releaseTargets_work hl s⟩,
      releaseTargets_touches hl s⟩
    · rw [hholder, if_pos hx]
      exact heir_eq_some_iff.mpr ⟨hq, hall⟩
    · rw [hholder, if_pos hx]
      exact heir_eq_none_iff.mpr hno
  case advance =>
    intro r x step goTo held
    refine ⟨advanceStep_onward, advanceStep_mark, fun ha m i hc => ⟨fun h => ?_, fun h hk => ?_, fun l h hk => ⟨fun hno => ?_, fun hr hin => ?_,
        fun hr hne hin => ?_⟩⟩, fun ha => ⟨fun h => ?_, fun h => ?_⟩, fun ha => ⟨fun h => ?_, fun f rest hf => ⟨fun h => ?_, fun hr hs => ?_⟩⟩,
      fun ha => ?_, fun ha => advanceStep_return ha, fun l i hc hi => beginWait_returns hc hi, fun l i rest h => returnFrom_caller h, ?ends⟩
    · exact (advanceStep_call ha).trans (callList_overflow h _)
    · exact (advanceStep_call ha).trans (callList_beyond h hk)
    · refine (advanceStep_call ha).trans ?_
      rw [hk]
      exact callList_notReady h hno
    · refine (advanceStep_call ha).trans ?_
      rw [hk]
      exact callList_recursion h hr hc hin
    · refine (advanceStep_call ha).trans ?_
      rw [hk]
      exact callList_calls h hr hc hne hin
    · exact (advanceStep_begin ha).trans (repeatBegin_overflow h r)
    · rw [show step = _ from (advanceStep_begin ha).trans (repeatBegin_pushes h r), jumpStep_modPlayer]
    · exact (advanceStep_end ha).trans (repeatEnd_none h)
    · rw [show step = _ from (advanceStep_end ha).trans (repeatEnd_leaves hf h), jumpStep_modPlayer]
    · rw [show step = _ from (advanceStep_end ha).trans (repeatEnd_again hf hr hs), jumpStep_modPlayer]
    · rw [show step = _ from advanceStep_release ha, releaseStep_eq]
      rfl
    case ends =>
      intro cleared idle
      refine ⟨fun hcalls hpend => (returnFrom_end hcalls).trans (endRun_idle hpend),
        fun l pol hcalls hpend => (returnFrom_end hcalls).trans (endRun_starts hpend), fun code detail l i hc => faultPlayer_at hc code detail⟩
  case repeats =>
    refine ⟨congrArg Player.repeats (offerBlocks_player e s p), fun h => ?_, fun h => ?_, spec.matches_iff e⟩ <;> rw [markFrame, h]

end Sys2Proof.CueEngine
end

section
/-! SUPPORT. What the words of the Trigger Unit's requests name, and the sources with their parameters (R150, R151, R172; log entry 6). -/

namespace Sys2Proof.Machine

/-! ## Modes, edges, programs, ON and OFF (R172; log entry 6) -/

theorem counterModeOf_eq_some_iff {n : Nat} {m : CounterMode} : counterModeOf n = some m ↔ n = m.code := by
  refine ⟨fun h => ?_, fun h => by subst h; cases m <;> rfl⟩
  unfold counterModeOf at h
  split at h <;> cases h <;> rfl

theorem edgeOf_eq_some_iff {n : Nat} {e : Edge} : edgeOf n = some e ↔ n = e.code := by
  refine ⟨fun h => ?_, fun h => by subst h; cases e <;> rfl⟩
  unfold edgeOf at h
  split at h <;> cases h <;> rfl

theorem programOf_eq_some_iff {n : Nat} {q : Program} : programOf n = some q ↔ n = q.code := by
  refine ⟨fun h => ?_, fun h => h ▸ programOf_code q⟩
  unfold programOf at h
  split at h <;> cases h <;> rfl

theorem counterModeOf_beyond {n : Nat} (h : 2 < n) : counterModeOf n = none := by
  obtain ⟨k, rfl⟩ := Nat.exists_eq_add_of_le' (show 3 ≤ n from h)
  rfl

theorem edgeOf_beyond {n : Nat} (h : 1 < n) : edgeOf n = none := by
  obtain ⟨k, rfl⟩ := Nat.exists_eq_add_of_le' (show 2 ≤ n from h)
  rfl

theorem onOffOf_beyond {n : Nat} (h : 1 < n) : onOffOf n = none := by
  obtain ⟨k, rfl⟩ := Nat.exists_eq_add_of_le' (show 2 ≤ n from h)
  rfl

@[simp] theorem onOffOf_code (on : Bool) : onOffOf (if on then 0 else 1) = some on := by cases on <;> rfl

/-! ## The sources, kind by kind (R151) -/

section
variable {a b : Nat} {src : Source}

theorem readSource_townAt : readSource 0 a b = some src ↔ a + 256 * b ≤ 1439 ∧ src = .townAt (a + 256 * b) := by
  simp [readSource, Nat.lt_succ_iff, eq_comm]

theorem readSource_inputEdge : readSource 2 a b = some src ↔
    ∃ j : Fin 8, a = j.1 ∧ (b = 0 ∧ src = .inputEdge j .rising ∨ b = 1 ∧ src = .inputEdge j .falling) := by
  have hedge (j : Fin 8) : (∃ e, edgeOf b = some e ∧ src = .inputEdge j e) ↔
      b = 0 ∧ src = .inputEdge j .rising ∨ b = 1 ∧ src = .inputEdge j .falling := by
    simp only [edgeOf_eq_some_iff]
    constructor
    · rintro ⟨_ | _, h⟩
      exacts [.inl h, .inr h]
    · rintro (h | h)
      exacts [⟨.rising, h⟩, ⟨.falling, h⟩]
  simp only [← hedge, ← fin?_eq_some_iff, readSource]
  cases fin? 8 a <;> cases edgeOf b <;> simp [eq_comm]

theorem readSource_inputCount : readSource 3 a b = some src ↔ ∃ j : Fin 8, a = j.1 ∧ src = .inputCount j := by
  simp only [readSource, Option.map_eq_some_iff, fin?_eq_some_iff, eq_comm (b := src)]

theorem readSource_sectionEnter : readSource 4 a b = some src ↔
    ∃ x : Fin 48, a = x.1 ∧ (b = 0xFF ∧ src = .sectionEnter x none ∨ ∃ t : Fin 8, b = t.1 ∧ src = .sectionEnter x (some t)) := by
  simp only [← fin?_eq_some_iff, readSource]
  cases fin? 48 a with
  | none => simp
  | some x =>
    by_cases hany : b = 0xFF
    · subst hany
      simp [fin?_of_le, eq_comm]
    · simp [hany, eq_comm]

theorem readSource_axisIndex : readSource 5 a b = some src ↔ ∃ j : Fin 8, a = j.1 ∧ src = .axisIndex j := by
  simp only [readSource, Option.map_eq_some_iff, fin?_eq_some_iff, eq_comm (b := src)]

theorem readSource_cueMark : readSource 6 a b = some src ↔ a ≤ 255 ∧ src = .cueMark a := by
  simp [readSource, Nat.lt_succ_iff, eq_comm]

theorem readSource_railDone : readSource 8 a b = some src ↔ a = 0 ∧ src = .railDone .raise ∨ a = 1 ∧ src = .railDone .lower := by
  simp only [readSource, Option.map_eq_some_iff, programOf_eq_some_iff, eq_comm (b := src)]
  constructor
  · rintro ⟨_ | _, h⟩
    exacts [.inl h, .inr h]
  · rintro (h | h)
    exacts [⟨.raise, h⟩, ⟨.lower, h⟩]

/-- A source of each kind, with its parameters in their ranges. -/
theorem readSource_iff {n : Nat} : readSource n a b = some src ↔
    (n = 0 ∧ a + 256 * b ≤ 1439 ∧ src = .townAt (a + 256 * b)) ∨ (n = 1 ∧ src = .townDay) ∨
    (n = 2 ∧ ∃ j : Fin 8, a = j.1 ∧ (b = 0 ∧ src = .inputEdge j .rising ∨ b = 1 ∧ src = .inputEdge j .falling)) ∨
    (n = 3 ∧ ∃ j : Fin 8, a = j.1 ∧ src = .inputCount j) ∨
    (n = 4 ∧ ∃ x : Fin 48, a = x.1 ∧ (b = 0xFF ∧ src = .sectionEnter x none ∨ ∃ t : Fin 8, b = t.1 ∧ src = .sectionEnter x (some t))) ∨
    (n = 5 ∧ ∃ j : Fin 8, a = j.1 ∧ src = .axisIndex j) ∨ (n = 6 ∧ a ≤ 255 ∧ src = .cueMark a) ∨ (n = 7 ∧ src = .dressingEnd) ∨
    (n = 8 ∧ (a = 0 ∧ src = .railDone .raise ∨ a = 1 ∧ src = .railDone .lower)) := by
  match n with
  | 0 => simp [readSource_townAt]
  | 1 => simp [readSource, eq_comm]
  | 2 => simp [readSource_inputEdge]
  | 3 => simp [readSource_inputCount]
  | 4 => simp [readSource_sectionEnter]
  | 5 => simp [readSource_axisIndex]
  | 6 => simp [readSource_cueMark]
  | 7 => simp [readSource, eq_comm]
  | 8 => simp [readSource_railDone]
  | k + 9 => simp [readSource]

end

end Sys2Proof.Machine
end

section
/-! SUPPORT. The Trigger Unit's requests (R145, R147, R149, R150, R153), each stored and each turned away. -/

namespace Sys2Proof.Machine

variable {s : State} {n : Nat}

/-! ## INPUT_CONFIG and COUNTER_CONFIG (R145, R147) -/

theorem doInputConfig_stored (i : Fin 8) (debounce : Nat) : doInputConfig i.1 debounce s =
    (s.modInput i fun c => { c with debounce := max 1 (min 255 debounce) },
      okay.clampedBy (decide (debounce < 1) || decide (255 < debounce))) := by
  rw [doInputConfig, fin?_val]
  rfl

theorem doInputConfig_beyond (h : 7 < n) (debounce : Nat) : doInputConfig n debounce s = (s, refuse .outOfRange) := by
  rw [doInputConfig, fin?_of_le h]

theorem doCounterConfig_stored (i : Fin 8) (m : CounterMode) (e : Edge) {reload : Nat} (h : reload ≤ 65535) :
    doCounterConfig i.1 m.code e.code reload s =
      (s.modCounter i fun _ => { mode := m, edge := e, reload := reload, count := reload }, okay) := by
  rw [doCounterConfig, fin?_val, counterModeOf_eq_some_iff.mpr rfl, edgeOf_eq_some_iff.mpr rfl]
  exact if_neg (Nat.not_lt.mpr h)

theorem doCounterConfig_beyond {mode edge reload : Nat} (h : 7 < n ∨ 2 < mode ∨ 1 < edge ∨ 65535 < reload) :
    doCounterConfig n mode edge reload s = (s, refuse .outOfRange) := by
  unfold doCounterConfig
  split
  · next i m e hi hm he =>
    rcases h with h | h | h | h
    · rw [fin?_of_le h] at hi; cases hi
    · rw [counterModeOf_beyond h] at hm; cases hm
    · rw [edgeOf_beyond h] at he; cases he
    · exact if_pos h
  · rfl

/-! ## AUX_SET (R149; log entry 6) -/

theorem doAuxSet_stored (x : Fin 8) (on : Bool) : doAuxSet x.1 (if on then 0 else 1) s =
    (s.modTrig fun t => { t with aux := t.aux.set x on }, okay) := by
  rw [doAuxSet, fin?_val, onOffOf_code]

theorem doAuxSet_beyond {value : Nat} (h : 7 < n ∨ 1 < value) : doAuxSet n value s = (s, refuse .outOfRange) := by
  unfold doAuxSet
  split
  · next x on hx hon =>
    rcases h with h | h
    · rw [fin?_of_le h] at hx; cases hx
    · rw [onOffOf_beyond h] at hon; cases hon
  · rfl

/-! ## TRIGGER_SET, TRIGGER_ENABLE and TRIGGER_CLEAR_COUNTS (R150, R153) -/

theorem doTriggerSet_stored (k : Fin 32) {r : RawTrigger} {src : Source} {p : Fin 8} {l : Fin 64} {pol : Policy}
    (hsrc : readSource r.source r.par1 r.par2 = some src) (hp : r.player = p.1) (hl : r.list = l.1) (hpol : r.policy = pol.code) :
    doTriggerSet k.1 r s = (s.modTrigger k fun _ =>
      { enabled := r.enabled, source := src, player := p, list := l, policy := pol, fires := 0, suppressed := 0, last := .none,
        applied := false }, okay) := by
  rw [doTriggerSet, fin?_val, hsrc, hp, fin?_val, hl, fin?_val, hpol, policyOf_code]

theorem doTriggerSet_beyond {r : RawTrigger}
    (h : 31 < n ∨ readSource r.source r.par1 r.par2 = none ∨ 7 < r.player ∨ 63 < r.list ∨ 2 < r.policy) :
    doTriggerSet n r s = (s, refuse .outOfRange) := by
  unfold doTriggerSet
  split
  · next k src p l pol hk hsrc hp hl hpol =>
    rcases h with h | h | h | h | h
    · rw [fin?_of_le h] at hk; cases hk
    · rw [h] at hsrc; cases hsrc
    · rw [fin?_of_le h] at hp; cases hp
    · rw [fin?_of_le h] at hl; cases hl
    · rw [policyOf_beyond h] at hpol; cases hpol
  · rfl

theorem doTriggerEnable_stored (k : Fin 32) (flag : Bool) :
    doTriggerEnable k.1 flag s = (s.modTrigger k fun x => { x with enabled := flag }, okay) := by
  rw [doTriggerEnable, fin?_val]

theorem doTriggerEnable_beyond (h : 31 < n) (flag : Bool) : doTriggerEnable n flag s = (s, refuse .outOfRange) := by
  rw [doTriggerEnable, fin?_of_le h]

theorem doTriggerClearCounts_cleared (k : Fin 32) :
    doTriggerClearCounts k.1 s = (s.modTrigger k fun x => { x with fires := 0, suppressed := 0, last := .none }, okay) := by
  rw [doTriggerClearCounts, fin?_val]

theorem doTriggerClearCounts_beyond (h : 31 < n) : doTriggerClearCounts n s = (s, refuse .outOfRange) := by
  rw [doTriggerClearCounts, fin?_of_le h]

end Sys2Proof.Machine
end

section
/-! SUPPORT. The window inputs' conditioners and counters, the due sample of an input, and the rows that take it (R144, R146; log entries 2, 63). -/

namespace Sys2Proof.Machine

/-! ## The conditioner (R144) -/

section
variable {c : Conditioner}

/-- The first sample is taken as it is. -/
theorem Conditioner.sample_first (h : c.initialized = false) (level : Bool) :
    c.sample level = ({ c with high := level, run := 0, initialized := true }, none) := if_pos h

variable (h : c.initialized = true)
include h

theorem Conditioner.sample_same : c.sample c.high = ({ c with run := 0 }, none) :=
  (if_neg (by simp [h])).trans (if_pos rfl)

theorem Conditioner.sample_differs : c.sample (!c.high) =
    if c.debounce ≤ c.run + 1 then ({ c with high := !c.high, run := 0 }, some (edgeTo !c.high)) else ({ c with run := c.run + 1 }, none) :=
  (if_neg (by simp [h])).trans (if_neg (by simp))

theorem Conditioner.sample_counts (hrun : c.run + 1 < c.debounce) : c.sample (!c.high) = ({ c with run := c.run + 1 }, none) :=
  (Conditioner.sample_differs h).trans (if_neg (Nat.not_le.mpr hrun))

/-- The differing sample that reaches the debounce confirms the edge away from the level confirmed before. -/
theorem Conditioner.sample_confirms (hrun : c.debounce ≤ c.run + 1) :
    c.sample (!c.high) = ({ c with high := !c.high, run := 0 }, some (if c.high then .falling else .rising)) := by
  rw [Conditioner.sample_differs h, if_pos hrun]
  cases c.high <;> rfl

end

/-! ## The counter (R146) -/

section
variable {k : Counter} {e : Edge}

theorem Counter.count_uncounted (h : k.mode = .off ∨ k.edge ≠ e) : k.count_ e = (k, false) := if_pos h

variable (hmode : k.mode ≠ .off) (hedge : k.edge = e)
include hmode hedge

theorem Counter.count_down (h : 0 < k.count) : k.count_ e = ({ k with count := k.count - 1 }, false) :=
  (if_neg (by simp [hmode, hedge])).trans (if_pos h)

/-- A counted edge at count 0: the counter underflows, by its mode. -/
theorem Counter.count_underflows (h : k.count = 0) : k.count_ e =
    (if k.mode = .reload then { k with count := k.reload } else { k with mode := .off }, true) := by
  unfold Counter.count_
  rw [if_neg (by simp [hmode, hedge]), if_neg (by simp [h])]
  split
  · next hreload => rw [if_pos hreload]
  · next hreload => rw [if_neg hreload]

end

/-! ## The due sample of one input (R144, R146) -/

section
variable {s : State} {i : Fin 8}

/-- The edge reaches the Show Link and the blocks before the counter takes it. -/
theorem confirmEdge_eq (i : Fin 8) (e : Edge) (s : State) : confirmEdge i e s =
    let counted := (s.raise (.inputEdge i e)).modCounter i fun k => (k.count_ e).1
    if ((s.trig.counters.get i).count_ e).2 then counted.raise (.inputCount i) else counted := by
  have hcounted : ((s.raise (.inputEdge i e)).modCounter i fun _ => ((s.trig.counters.get i).count_ e).1) =
      (s.raise (.inputEdge i e)).modCounter i fun k => (k.count_ e).1 := by
    simp only [State.modCounter, Table.modify, State.raise_trig]
  unfold confirmEdge
  dsimp only
  rw [hcounted]

/-- An input's sample written, before the edge it confirms is taken. -/
def State.inputSampled (s : State) (i : Fin 8) : State :=
  (s.modSched fun d => { d with inputs := d.inputs &&& ~~~(1#8 <<< i.1) }).modInput i fun _ =>
    ((s.trig.inputs.get i).sample (s.windowInput i)).1

theorem sampleInput_quiet (h : s.wouldEdge i = none) : sampleInput i s = s.inputSampled i := by
  unfold State.wouldEdge at h
  simp only [sampleInput, h]
  rfl

theorem sampleInput_edge {e : Edge} (h : s.wouldEdge i = some e) : sampleInput i s = confirmEdge i e (s.inputSampled i) := by
  unfold State.wouldEdge at h
  simp only [sampleInput, h]
  rfl

/-! ## The rows (R144; log entries 2, 63) -/

theorem exec_inputSample (h : s.work.isClear = true) (levels : Nat) : exec (.inputSample levels) s =
    .next (finish (eachSettled s.dueInputs sampleInput (s.modPins fun p => { p with window := BitVec.ofNat 8 levels }))) :=
  perform_clear h _

theorem exec_inputEdge (h : s.work.isClear = true) (i : Fin 8) : exec (.inputEdge i.1) s = .next (edgeStep i s) :=
  (perform_clear h _).trans (congrArg _ (forItem_val i _ s))

/-- A line brought to the other level. -/
theorem setLine_not {w : Nat} (k : Nat) (level : Bool) (b : BitVec w) :
    setLine k (!level) b = if level then b &&& ~~~(1#w <<< k) else b ||| (1#w <<< k) := by
  cases level <;> rfl

end

end Sys2Proof.Machine
end

section
/-! SUPPORT. The statements of the inputs', counters' and triggers' family settled: each by its lemmas above. -/

namespace Sys2Proof.TriggerUnit

open Sys2Proof.Machine

/-- Settles O50: each request by its index and its words, a source by its kind. -/
theorem triggerUnitRequests : Obligations.TriggerUnitRequests := by
  refine fun tag i k debounce reload m e on flag s h => ⟨?_, fun hreload => ?_, ?_, ?_, ?_, fun n a b src => readSource_iff,
    fun r src p l pol hsrc hp hl hpol => ?_, fun r n hno => ?_, fun n v hno => ?_, fun n hno => ⟨?_, ?_⟩, fun n hno => ?_,
    fun n w v x hno => ?_⟩
  · exact exec_served h rfl rfl (doInputConfig_stored i debounce)
  · exact exec_served h rfl rfl (doCounterConfig_stored i m e hreload)
  · exact exec_served h rfl rfl (doAuxSet_stored i on)
  · exact exec_served h rfl rfl (doTriggerEnable_stored k flag)
  · exact exec_served h rfl rfl (doTriggerClearCounts_cleared k)
  · exact exec_served h rfl rfl (doTriggerSet_stored k hsrc hp hl hpol)
  · exact exec_query h rfl rfl (doTriggerSet_beyond hno)
  · exact exec_query h rfl rfl (doAuxSet_beyond hno)
  · exact exec_query h rfl rfl (doTriggerEnable_beyond hno flag)
  · exact exec_query h rfl rfl (doTriggerClearCounts_beyond hno)
  · exact exec_query h rfl rfl (doInputConfig_beyond hno debounce)
  · exact exec_query h rfl rfl (doCounterConfig_beyond hno)

/-- Settles O51: a sample by whether it differs and has lasted, a counted edge by the count and the mode, a row by the sample it takes. -/
theorem inputsAndCounters : Obligations.InputsAndCounters := by
  refine ⟨fun c k level e => ⟨fun h => c.sample_first h level, c.sample_same, c.sample_counts, c.sample_confirms, k.count_uncounted,
      k.count_down, fun hm he h => ?_, fun hm he h => ?_⟩,
    fun levels i s h => ⟨exec_inputSample h levels, ?_, ⟨rfl, sampleInput_quiet, fun e => sampleInput_edge⟩, fun e => confirmEdge_eq i e s⟩⟩
  · rw [Counter.count_underflows (by simp [hm]) he h, if_pos hm]
  · rw [Counter.count_underflows (by simp [hm]) he h, if_neg (by simp [hm])]
  · rw [exec_inputEdge h, edgeStep]
    simp only [setLine_not]

end Sys2Proof.TriggerUnit
end

section
/-! SUPPORT. The overload input, the cut-off and the lockout (R159, R160), and the rows that take them (log entry 2). -/

namespace Sys2Proof.Machine

variable {s : State} {level : Bool}

/-! ## An onset, and the end of the overload (R159, R160) -/

theorem onsetCutoff_active (h : s.supply.cutoff = true) : onsetCutoff s = s.modSupply fun k => { k with endTimer := none } := if_pos h

theorem onsetCutoff_begins (h : s.supply.cutoff = false) : onsetCutoff s =
    emergencyStop .overload ((s.modSupply fun k => { k with cutoff := true, endTimer := none }).raise (.overload .begin)) :=
  if_neg (by simp [h])

/-- Before the third onset the count goes up. -/
theorem overloadOnset_counts (h : s.supply.onsets < 2) :
    overloadOnset s = onsetCutoff (s.modSupply fun k => { k with quiet := none, onsets := k.onsets + 1 }) := by
  have hmin : min 2 (s.supply.onsets + 1) = s.supply.onsets + 1 := by omega
  simp only [overloadOnset, hmin]
  exact if_neg (by omega)

/-- The third onset locks out. -/
theorem overloadOnset_third (h : s.supply.onsets = 2) :
    overloadOnset s = lockout (onsetCutoff (s.modSupply fun k => { k with quiet := none, onsets := 2 })) := by
  simp only [overloadOnset, h]
  rfl

theorem overloadClear_starts (hc : s.supply.cutoff = true) (he : s.supply.endTimer = none) :
    overloadClear s = s.modSupply fun k => { k with endTimer := some 2000 } :=
  State.modSupply_congr (if_pos (by rw [hc, he]; rfl))

theorem overloadClear_kept (h : s.supply.cutoff = false ∨ s.supply.endTimer ≠ none) : overloadClear s = s := by
  refine (State.modSupply_congr (g := id) (if_neg ?_)).trans rfl
  rcases h with h | h <;> simp [h]

/-- A RAISE program ends at the lockout, whatever its step and its delay; a LOWER program goes on. -/
theorem lockout_eq (s : State) : lockout s = ((setRails { s.supply.rails with track := false } s).modSupply fun k => { k with
    seq := (match k.seq with | .active .raise _ _ => .idle | q => q), onsets := 0 }).raise (.overload .lockout) := by
  refine congrArg (State.raise (.overload .lockout)) (State.modSupply_congr ?_)
  rcases (setRails { s.supply.rails with track := false } s).supply.seq with _ | ⟨_ | _, _, _⟩ <;> rfl

/-! ## A due sample (R159) -/

theorem sampleOverload_same (h : s.pins.overload = s.supply.overload) :
    sampleOverload s = (s.modSched fun d => { d with overload := false }).modSupply fun k => { k with overloadRun := 0 } := by
  have hconfirm : s.supply.overloadConfirms s.pins.overload = none := if_pos h
  simp only [sampleOverload, hconfirm]
  exact State.modSupply_congr (if_pos h)

theorem sampleOverload_first (h : s.pins.overload ≠ s.supply.overload) (hr : s.supply.overloadRun ≠ 1) :
    sampleOverload s = (s.modSched fun d => { d with overload := false }).modSupply fun k => { k with overloadRun := 1 } := by
  have hconfirm : s.supply.overloadConfirms s.pins.overload = none := (if_neg h).trans (if_neg hr)
  simp only [sampleOverload, hconfirm]
  exact State.modSupply_congr ((if_neg h).trans (if_neg hr))

/-- The state in which an onset or a clear follows the confirmation of a level. -/
def State.overloadConfirmed (level : Bool) (s : State) : State :=
  ((s.modPins fun p => { p with overload := level }).modSched fun d => { d with overload := false }).modSupply
    fun k => { k with overload := level, overloadRun := 0 }

section
variable (h : level ≠ s.supply.overload) (hr : s.supply.overloadRun = 1)
include h hr

theorem overloadConfirms_second : s.supply.overloadConfirms level = some level := (if_neg h).trans (if_pos hr)

/-- The second sample of the other level is confirmed: an onset at the active level, a clear at the inactive one. -/
theorem sampleOverload_confirms :
    sampleOverload (s.modPins fun p => { p with overload := level }) =
      if level then overloadOnset (s.overloadConfirmed level) else overloadClear (s.overloadConfirmed level) := by
  have hsampled : ((s.modPins fun p => { p with overload := level }).modSched fun d => { d with overload := false }).modSupply
      (Supply.sampleOverload level) = s.overloadConfirmed level :=
    State.modSupply_congr ((if_neg h).trans (if_pos hr))
  simp only [sampleOverload, State.modPins_supply, State.modPins_pins, overloadConfirms_second h hr, hsampled]
  cases level <;> rfl

end

/-! ## The rows (log entry 2) -/

theorem overloadStep_eq (active : Bool) (s : State) : overloadStep active s = if s.sched.overload
    then finish (sampleOverload (s.modPins fun p => { p with overload := active })) else s.modPins fun p => { p with overload := active } := rfl

theorem overloadConfirmStep_due (hd : s.sched.overload = true) (h : level ≠ s.supply.overload) (hr : s.supply.overloadRun = 1) :
    overloadConfirmStep level s = finish (sampleOverload (s.modPins fun p => { p with overload := level })) :=
  if_pos (by rw [hd, overloadConfirms_second h hr]; simp)

theorem overloadConfirmStep_none (h : s.sched.overload = false ∨ s.supply.overloadRun ≠ 1) (level : Bool) :
    overloadConfirmStep level s = s := by
  refine if_neg ?_
  rcases h with h | h
  · simp [h]
  · have hconfirm : s.supply.overloadConfirms level = none := (congrArg _ (if_neg h)).trans (ite_self _)
    simp [hconfirm]

section
variable (hw : s.work.isClear = true)
include hw

theorem exec_overloadSample (active : Bool) : exec (.overloadSample active) s = .next (overloadStep active s) := perform_clear hw _

theorem exec_overloadConfirm (active : Bool) :
    (if active then exec .overloadOnset s else exec .overloadClear s) = .next (overloadConfirmStep active s) := by
  cases active
  case false => exact perform_clear hw _
  case true => exact perform_clear hw _

theorem exec_overloadOnset : exec .overloadOnset s = .next (overloadConfirmStep true s) := exec_overloadConfirm hw true

theorem exec_overloadClear : exec .overloadClear s = .next (overloadConfirmStep false s) := exec_overloadConfirm hw false

section
variable (hd : s.sched.overload = true) (hr : s.supply.overloadRun = 1)
include hd hr

theorem exec_overloadOnset_due (ho : s.supply.overload = false) :
    exec .overloadOnset s = .next (finish (overloadOnset (s.overloadConfirmed true))) := by
  have h : true ≠ s.supply.overload := by simp [ho]
  rw [exec_overloadOnset hw, overloadConfirmStep_due hd h hr, sampleOverload_confirms h hr]
  rfl

theorem exec_overloadClear_due (ho : s.supply.overload = true) :
    exec .overloadClear s = .next (finish (overloadClear (s.overloadConfirmed false))) := by
  have h : false ≠ s.supply.overload := by simp [ho]
  rw [exec_overloadClear hw, overloadConfirmStep_due hd h hr, sampleOverload_confirms h hr]
  rfl

end

theorem exec_overloadEnd : exec .overloadEnd s = .next (whenDue (s.supply.endTimer == some 0) overloadFinish s) :=
  perform_clear hw fun s => whenDue (s.supply.endTimer == some 0) overloadFinish s

theorem exec_overloadEnd_due (h : s.supply.endTimer = some 0) : exec .overloadEnd s = .next (finish (resyncAll
    ((s.modSupply fun k => { k with endTimer := none, cutoff := false, quiet := some 60000 }).raise (.overload .finish)))) := by
  have hfinish : overloadFinish s = resyncAll
      ((s.modSupply fun k => { k with endTimer := none, cutoff := false, quiet := some 60000 }).raise (.overload .finish)) := if_pos h
  rw [exec_overloadEnd hw, whenDue, if_pos (beq_iff_eq.mpr h), hfinish]

theorem exec_overloadEnd_running (h : s.supply.endTimer ≠ some 0) : exec .overloadEnd s = .next s := by
  rw [exec_overloadEnd hw, whenDue, if_neg (by simpa using h)]

theorem exec_quietTimerExpiry : exec .quietTimerExpiry s = .next (whenDue (s.supply.quiet == some 0) quietExpire s) :=
  perform_clear hw fun s => whenDue (s.supply.quiet == some 0) quietExpire s

theorem exec_quietTimerExpiry_due (h : s.supply.quiet = some 0) :
    exec .quietTimerExpiry s = .next (finish (s.modSupply fun k => { k with quiet := none, onsets := 0 })) := by
  have hexpire : quietExpire s = s.modSupply fun k => { k with quiet := none, onsets := 0 } := if_pos h
  rw [exec_quietTimerExpiry hw, whenDue, if_pos (beq_iff_eq.mpr h), hexpire]

theorem exec_quietTimerExpiry_running (h : s.supply.quiet ≠ some 0) : exec .quietTimerExpiry s = .next s := by
  rw [exec_quietTimerExpiry hw, whenDue, if_neg (by simpa using h)]

end

end Sys2Proof.Machine
end

section
/-! SUPPORT. The statement on the overload input settled by its lemmas above. -/

namespace Sys2Proof.SupplySequencer

open Sys2Proof.Machine

/-- Settles O54: the sample by the confirmed level and the run, the rows that confirm by the sample they take, an onset by the count, the
cut-off by whether it is active, each timer by whether it is at 0. -/
theorem overload : Obligations.Overload := by
  intro active s hw k read confirmed
  refine ⟨exec_overloadSample hw active, fun hd ho hr hn => ?_, fun hd ho hr hn => ?_, fun hd ho hr hc he => ?_,
    ⟨sampleOverload_same, sampleOverload_first⟩, fun hd hr h => ?_, fun hd ho hr h => ?_, fun h => ⟨?_, ?_⟩, onsetCutoff_active,
    onsetCutoff_begins, exec_overloadEnd_due hw, exec_overloadEnd_running hw, exec_quietTimerExpiry_due hw,
    exec_quietTimerExpiry_running hw, lockout_eq s⟩
  · rw [exec_overloadOnset_due hw hd hr ho, overloadOnset_counts (s := s.overloadConfirmed true) hn]
    rfl
  · rw [exec_overloadOnset_due hw hd hr ho, overloadOnset_third (s := s.overloadConfirmed true) hn]
    rfl
  · rw [exec_overloadClear_due hw hd hr ho, overloadClear_starts (s := s.overloadConfirmed false) hc he]
    rfl
  · rw [exec_overloadSample hw, exec_overloadConfirm hw, overloadStep_eq, if_pos hd, overloadConfirmStep_due hd h hr]
  · rw [exec_overloadClear_due hw hd hr ho, overloadClear_kept (s := s.overloadConfirmed false) h]
    rfl
  · rw [exec_overloadOnset hw, overloadConfirmStep_none h]
  · rw [exec_overloadClear hw, overloadConfirmStep_none h]

end Sys2Proof.SupplySequencer
end

section
/-! SUPPORT. The Show Link's records within their ranges under every command (R165, R169). -/

namespace Sys2Proof.Machine

variable {s : State} {l : ShowLink} {P : State → Prop}

/-! ## The ranges (R165, R169) -/

theorem ShowLink.wf_iff : l.wf = true ↔ l.slots.length ≤ 4 ∧ l.notices.length ≤ 32 ∧ l.lost ≤ 255 ∧
    (l.lost = 0 ∨ l.notices.length = 32) ∧ l.busyCount ≤ 4 := by
  unfold ShowLink.wf Config.slotCount Config.noticeRoom Config.busyRoom
  simp [and_assoc]

/-- The ranges speak of the slots, the replies and the notices alone. -/
theorem ShowLink.wf_congr {k : ShowLink} (hslots : k.slots.length ≤ l.slots.length) (hreplies : k.busyCount ≤ l.busyCount)
    (hnotices : k.notices = l.notices) (hlost : k.lost = l.lost) (h : l.wf = true) : k.wf = true := by
  obtain ⟨hs, hn, hl, hfull, hb⟩ := ShowLink.wf_iff.mp h
  rw [← hnotices] at hn hfull
  rw [← hlost] at hl hfull
  exact ShowLink.wf_iff.mpr ⟨hslots.trans hs, hn, hl, hfull, hreplies.trans hb⟩

theorem markTaken_length (l : List Slot) : (markTaken l).length = l.length := by
  induction l with
  | nil => rfl
  | cons x xs ih => unfold markTaken; split <;> simp [ih]

theorem freeTaken_length_le (l : List Slot) : (freeTaken l).length ≤ l.length := by
  induction l with
  | nil => exact le_rfl
  | cons x xs ih => unfold freeTaken; split <;> simp [ih]

theorem ShowLink.busyCount_addReply (r : Reply) (l : ShowLink) :
    (l.addReply r).busyCount = l.busyCount + if r.origin = .busy then 1 else 0 := by
  by_cases h : r.origin = .busy <;> simp [ShowLink.busyCount, ShowLink.addReply, h]

theorem originOf_ne_busy (waiting : Option Scope) : originOf waiting ≠ .busy := by
  cases waiting <;> nofun

/-- A reply that is no BUSY reply takes none of the room for those (R165, R166). -/
theorem ShowLink.wf_addReply {r : Reply} (hr : r.origin ≠ .busy) (h : l.wf = true) : (l.addReply r).wf = true :=
  ShowLink.wf_congr (l := l) le_rfl (by simp [ShowLink.busyCount_addReply, hr]) rfl rfl h

/-- A BUSY reply is made only while fewer than four wait (R165). -/
theorem ShowLink.wf_addBusy {r : Reply} (hb : l.busyCount < 4) (h : l.wf = true) : (l.addReply r).wf = true := by
  obtain ⟨hs, hn, hl, hfull, -⟩ := ShowLink.wf_iff.mp h
  refine ShowLink.wf_iff.mpr ⟨hs, hn, hl, hfull, ?_⟩
  rw [ShowLink.busyCount_addReply]
  split <;> omega

/-- A frame is held only while a slot is free (R165). -/
theorem ShowLink.wf_hold (f : Frame) (hs : l.slots.length < 4) (h : l.wf = true) : (l.hold f).wf = true := by
  obtain ⟨-, hn, hl, hfull, hb⟩ := ShowLink.wf_iff.mp h
  exact ShowLink.wf_iff.mpr ⟨by simpa [ShowLink.hold] using hs, hn, hl, hfull, hb⟩

/-! ## The notice queue (R169) -/

/-- An offered notice finds room or is counted as lost. -/
theorem ShowLink.wf_offer (report n : Notice) (h : l.wf = true) : (l.offer report n).wf = true := by
  obtain ⟨hs, hn, hl, hfull, hb⟩ := ShowLink.wf_iff.mp h
  have hcount (k : ShowLink) (hk : k.replies = l.replies) : k.busyCount ≤ 4 := by rwa [ShowLink.busyCount, hk]
  unfold ShowLink.offer Config.noticeRoom
  repeat' split
  all_goals
    refine ShowLink.wf_iff.mpr ⟨hs, ?_, ?_, ?_, hcount _ rfl⟩ <;> simp only [List.length_append, List.length_cons, List.length_nil] <;> omega

theorem announce_wf (e : Event) (h : s.link.wf = true) : (s.announce e).link.wf = true := by
  rw [State.announce_link]
  split
  · exact ShowLink.wf_offer _ _ h
  · exact h

/-- The room that a sent notice leaves takes the report of what was lost (R167, R169). -/
theorem pick_wf (h : s.link.wf = true) : (pick s).link.wf = true := by
  obtain ⟨hs, hn, hl, hfull, hb⟩ := ShowLink.wf_iff.mp h
  unfold pick
  split
  · next hr =>
    refine ShowLink.wf_congr (l := s.link) le_rfl ?_ rfl rfl h
    simp only [State.modLink_link, ShowLink.busyCount, hr]
    exact ((List.sublist_cons_self _ _).filter _).length_le
  · split
    · next hr n rest hnotices =>
      rw [hnotices, List.length_cons] at hn hfull
      unfold reportLost
      split
      · next hlost =>
        simp only [State.modLink_link] at hlost
        refine ShowLink.wf_iff.mpr ⟨hs, ?_, Nat.zero_le _, .inl rfl, hb⟩
        simp only [State.offerBlocks_link, State.modLink_link, List.length_append, List.length_cons, List.length_nil]
        omega
      · next hlost =>
        simp only [State.modLink_link] at hlost
        exact ShowLink.wf_iff.mpr ⟨hs, show rest.length ≤ 32 by omega, hl, .inl (Nat.eq_zero_of_not_pos hlost), hb⟩
    · exact h

theorem raise_wf (e : Event) (h : s.link.wf = true) : (s.raise e).link.wf = true := by
  obtain ⟨-, he⟩ | ⟨-, he⟩ := State.raise_cases s e <;> rw [he]
  · exact announce_wf e h
  · exact pick_wf (announce_wf e h)

/-! ## The blocks, the receiver and the slots -/

/-- No block's work changes the Show Link's records but by an event. -/
theorem stable_linkWf : Stable fun s => s.link.wf = true where
  light _ h := h
  track _ h := h
  trains _ h := h
  axes _ h := h
  cue _ h := h
  trig _ h := h
  supply _ h := h
  sched _ h := h
  outs _ h := h
  work _ h := h
  raise e h := raise_wf e h
  setRate _ _ _ _ _ h := h
  hold h := h
  resume h := h
  jump _ _ h := h
  lock h := h
  glide _ _ h := h

theorem rejectFrame_wf (reason : RejectReason) (h : s.link.wf = true) : (rejectFrame reason s).link.wf = true :=
  raise_wf (s := s.modLink fun l => { l with rx := .hunting }) _ h

/-- A valid frame takes a free slot, or makes a BUSY reply while there is room for one, or is discarded (R165). -/
theorem placeFrame_wf (f : Frame) (h : s.link.wf = true) : (placeFrame f s).link.wf = true := by
  unfold placeFrame
  split
  · next hs => exact ShowLink.wf_hold f hs h
  · split
    · next hb => exact ShowLink.wf_addBusy hb h
    · exact raise_wf _ h

theorem frameByte_wf (length : Nat) (bytes : List Byte) (b : Byte) (h : s.link.wf = true) : (frameByte length bytes b s).link.wf = true := by
  unfold frameByte
  extract_lets got
  split
  · exact h
  · split
    · exact placeFrame_wf (s := s.modLink fun l => { l with rx := .hunting }) _ h
    · exact rejectFrame_wf _ h

theorem acceptByte_wf (b : Byte) (gapUs : Nat) (h : s.link.wf = true) : (acceptByte b gapUs s).link.wf = true := by
  unfold acceptByte
  split
  · exact h
  · split
    · exact rejectFrame_wf .gap h
    · unfold lengthByte
      split
      · exact h
      · exact rejectFrame_wf .length h
  · split
    · exact rejectFrame_wf .gap h
    · exact frameByte_wf _ _ _ h

/-- NOTICE_MASK and RESET change the mask and the reset that waits (R168, R170). -/
theorem handle_ofLink_wf (r : Request) (hr : Request.ofLink r = true) (h : s.link.wf = true) : (handle r s).1.link.wf = true := by
  cases r <;> cases hr
  case reset scope =>
    change (doReset scope s).1.link.wf = true
    unfold doReset
    split <;> exact h
  case noticeMask mask =>
    change (doNoticeMask mask s).1.link.wf = true
    unfold doNoticeMask
    split <;> exact h

/-! ## The Town Clock's advance -/

/-- A property that no change of the clock's record breaks is kept by an advance, with its boundaries, its arrival and its hand-out
(R5, R11, R13 to R15). -/
theorem Stable.advanceClock (h : Stable P) (clock : ∀ {s} f, P s → P (s.modClock f)) (hs : P s) : P (advanceClock s) := by
  have hpass (b : Nat) (s : State) (hs : P s) : P (passBoundary b s) := by
    unfold passBoundary
    split
    · exact h.raise _ (clock _ (h.raise _ hs))
    · exact h.raise _ hs
  unfold Machine.advanceClock
  extract_lets d s1 s2
  have h1 : P s1 := keeps_forEach hpass _ (clock _ hs)
  have h2 : P s2 := by
    unfold s2 arrive
    split
    · exact h.raise _ (clock _ h1)
    · exact h1
  exact h.handOut _ h2

/-- Every step of the Show Link keeps its records within their ranges, and so does every command. -/
theorem stepStable_linkWf : StepStable fun s => s.link.wf = true where
  toStable := stable_linkWf
  start _ _ _ := rfl
  pending _ h := h
  pins _ h := h
  nextMs {s} h := stable_linkWf.advanceClock (s := countMs s) (fun _ h => h) h
  ofLink r hr h := handle_ofLink_wf r hr h
  acceptByte b gapUs h := acceptByte_wf b gapUs h
  placeFrame f h := placeFrame_wf f h
  mark h := ShowLink.wf_congr (markTaken_length _).le le_rfl rfl rfl h
  reply _ _ waiting h := ShowLink.wf_addReply (originOf_ne_busy waiting) h
  free h := ShowLink.wf_congr (freeTaken_length_le _) le_rfl rfl rfl h
  idle h := h
  resetTaken h := h
  pick h := pick_wf h

end Sys2Proof.Machine
end

section
/-! SUPPORT. Every command but a start waits for the handling before it and leaves the commands behind it as they are (R166; log entries 5
and 12). -/

namespace Sys2Proof.Machine

variable {s : State} {q : List Instr} {f : State → State}

/-! ## What keeps the queue -/

/-- The commands that wait in a state are the given ones. -/
def State.queues (q : List Instr) (s : State) : Prop := s.pending = q

/-- No block's work touches the waiting commands. -/
theorem stable_queues (q : List Instr) : Stable (State.queues q) := stable_port (Q := fun _ _ _ _ _ _ i => i = q)

theorem queues_modLink (l : ShowLink → ShowLink) (h : s.queues q) : (s.modLink l).queues q := h

theorem queues_settle (h : s.queues q) : (settle s).queues q := (stable_queues q).settle h

theorem queues_kick (h : s.queues q) : (kick s).queues q := by
  unfold kick
  split
  · exact (pick_pending s).trans h
  · exact h

theorem queues_finish (h : s.queues q) : (finish s).queues q := queues_settle (queues_kick (queues_settle h))

theorem queues_whenDue (hf : s.queues q → (f s).queues q) (due : Bool) (h : s.queues q) : (whenDue due f s).queues q := by
  unfold whenDue
  split
  · exact queues_finish (hf h)
  · exact h

/-! ## Requests and the transmitter -/

theorem queues_handleBody (b : Body) (h : s.queues q) : (handleBody b s).1.queues q := by
  cases b with
  | request r =>
    cases hr : Request.ofLink r with
    | true => exact keeps_ofLink (P := State.queues q) (fun _ h => h) r hr h
    | false => exact (stable_queues q).handle r hr h
  | unknownKind => exact h
  | badLength => exact h

theorem queues_takeOne (f : Frame) (h : s.queues q) : (takeOne f s).queues q :=
  queues_modLink _ (queues_settle (queues_handleBody _ (queues_modLink _ h)))

theorem queues_takeRequests (n : Nat) (h : s.queues q) : (takeRequests n s).queues q := by
  induction n generalizing s with
  | zero => exact h
  | succ n ih =>
    unfold takeRequests
    split
    · exact h
    · split
      · exact ih (queues_takeOne _ h)
      · exact h

theorem queues_deliver (f : Frame) (s : State) (h : s.queues q) : (deliver f s).queues q :=
  queues_finish (queues_takeRequests _ (queues_settle ((stable_queues q).keeps_placeFrame (fun _ h => h) f h)))

theorem queues_receive (b : Byte) (gapUs : Nat) (s : State) (h : s.queues q) : (receive b gapUs s).queues q :=
  queues_finish (queues_takeRequests _ (queues_settle ((stable_queues q).keeps_acceptByte (fun _ h => h) b gapUs h)))

/-- A COLD reset keeps the waiting commands, which are the outside's (log entry 12). -/
theorem queues_takeEffect (scope : Scope) (h : s.queues q) : (takeEffect scope s).queues q := by
  unfold takeEffect
  split
  · exact queues_modLink _ (queues_settle ((stable_queues q).warmReset (queues_modLink _ h)))
  · exact h

theorem queues_afterFrame (h : s.queues q) : (afterFrame s).queues q := by
  unfold afterFrame
  split
  · split
    · exact h
    · exact h
    · exact queues_takeEffect _ h
  · exact h
  · exact h

theorem queues_frameEnd (s : State) (h : s.queues q) : (frameEnd s).queues q := by
  unfold frameEnd
  split
  · exact h
  · exact queues_finish (queues_takeRequests _ (queues_settle (queues_kick (queues_afterFrame h))))

/-! ## The part's own steps -/

theorem queues_tick (h : s.queues q) : (tick s).queues q :=
  queues_finish ((stable_queues q).advanceClock (s := countMs s) (fun _ h => h) h)

theorem queues_glideArrivalStep (s : State) (h : s.queues q) : (glideArrivalStep s).queues q := by
  unfold glideArrivalStep
  extract_lets s1
  split
  · exact queues_tick ((stable_queues q).flush h)
  · exact h

theorem queues_fadeDoneStep (g : Fin 32) (s : State) (h : s.queues q) : (fadeDoneStep g s).queues q := by
  unfold fadeDoneStep
  split
  · exact queues_finish ((stable_queues q).lightFrame h)
  · extract_lets s1 n
    split
    · exact queues_tick ((stable_queues q).flush h)
    · exact h

theorem queues_confirmStep (c : Confirm) (x : Fin 48) (s : State) (h : s.queues q) : (confirmStep c x s).queues q := by
  unfold confirmStep
  extract_lets s1
  split
  · exact queues_finish ((stable_queues q).sampleDetector (s := s1) x h)
  · exact h

theorem queues_axisOutcome (input : Bool) (test : UpdateResult → Bool) (a : Fin 8) (s : State) (h : s.queues q) :
    (axisOutcome input test a s).queues q := by
  unfold axisOutcome
  extract_lets s1 x
  split
  · exact queues_finish ((stable_queues q).updateAxis (s := s1) a h)
  · exact h

theorem queues_edgeStep (i : Fin 8) (s : State) (h : s.queues q) : (edgeStep i s).queues q := by
  unfold edgeStep
  extract_lets s1
  split
  · exact queues_finish ((stable_queues q).sampleInput (s := s1) i h)
  · exact h

theorem queues_overloadStep (active : Bool) (s : State) (h : s.queues q) : (overloadStep active s).queues q := by
  unfold overloadStep
  extract_lets s1
  split
  · exact queues_finish ((stable_queues q).sampleOverload (s := s1) h)
  · exact h

theorem queues_overloadConfirmStep (active : Bool) (s : State) (h : s.queues q) : (overloadConfirmStep active s).queues q := by
  unfold overloadConfirmStep
  split
  · exact queues_finish ((stable_queues q).sampleOverload (s := s.modPins fun p => { p with overload := active }) h)
  · exact h

theorem queues_keyStep (on : Bool) (s : State) (h : s.queues q) : (keyStep on s).queues q := by
  unfold keyStep
  extract_lets s1
  split
  · exact queues_finish ((stable_queues q).sampleKey (s := s1) h)
  · exact h

theorem queues_dressingStep (s : State) (h : s.queues q) : (dressingStep s).queues q := by
  unfold dressingStep
  extract_lets level
  split
  · exact queues_finish ((stable_queues q).sampleKey (s := s.modPins fun p => { p with key := level }) h)
  · exact h

/-! ## Every command -/

/-- A change that is carried out once the handling before it has ended, and that leaves the queue as it is. -/
def Performs (c : Instr) : Prop := ∃ f : State → State, exec c = perform f ∧ ∀ q s, s.queues q → (f s).queues q

/-- Every command but a power-on and the reset pin waits for the handling before it (log entry 5). The part's own steps are named; every
other command is a request's frame. -/
theorem exec_performs (c : Instr) (hon : c ≠ .powerOn) (hpin : c ≠ .resetPin) : Performs c := by
  have hstable := stable_queues
  have hwhen {n : Nat} {due : Fin n → State → Bool} {f : Fin n → State → State} (k : Nat)
      (hf : ∀ q i s, s.queues q → (f i s).queues q) :
      ∀ q s, s.queues q → (forItem k (fun i s => whenDue (due i s) (f i) s) s).queues q :=
    fun q => keeps_forItem (f := fun i s => whenDue (due i s) (f i) s) (fun i _ => queues_whenDue (hf q i _) _) k
  cases c
  case powerOn => exact absurd rfl hon
  case resetPin => exact absurd rfl hpin
  case receiveByte => exact ⟨_, rfl, fun _ => queues_receive _ _⟩
  case transmitFrameEnd => exact ⟨_, rfl, fun _ => queues_frameEnd⟩
  case realMillisecond => exact ⟨_, rfl, fun q _ h => queues_tick ((hstable q).flush h)⟩
  case glideArrival => exact ⟨_, rfl, fun _ => queues_glideArrivalStep⟩
  case fadeDone => exact ⟨_, rfl, fun _ => keeps_forItem queues_fadeDoneStep _⟩
  case lightFrame => exact ⟨_, rfl, fun q _ => queues_whenDue (hstable q).lightFrame _⟩
  case blinkPhaseEnd | sodiumWarmReached | sodiumCoolingEnd => exact ⟨_, rfl, hwhen _ fun q _ _ => (hstable q).lightFrame⟩
  case detectorSample =>
    exact ⟨_, rfl, fun q _ h => queues_finish ((hstable q).eachSettled (fun x _ => (hstable q).sampleDetector x) _ h)⟩
  case detectorEnter | detectorLeave => exact ⟨_, rfl, fun _ => keeps_forItem (queues_confirmStep _) _⟩
  case clearanceExpiry => exact ⟨_, rfl, hwhen _ fun q x _ => (hstable q).expireSec x⟩
  case pulseEnd => exact ⟨_, rfl, fun q _ => queues_whenDue (hstable q).pulseFinish _⟩
  case rechargeEnd => exact ⟨_, rfl, fun q _ => queues_whenDue (hstable q).rechargeFinish _⟩
  case openDelayExpiry => exact ⟨_, rfl, hwhen _ fun q c _ => (hstable q).openDelayExpire c⟩
  case gateTimeoutExpiry => exact ⟨_, rfl, hwhen _ fun q c _ => (hstable q).gateTimeoutExpire c⟩
  case trainRampStep => exact ⟨_, rfl, hwhen _ fun q k _ => (hstable q).rampStep k⟩
  case axisUpdate =>
    exact ⟨_, rfl, fun q _ h => queues_finish ((hstable q).eachSettled (fun a _ => (hstable q).updateAxis a) _ h)⟩
  case axisArrival | speedReached | stopModeRest | indexConfirm | homeConfirm | indexMissing | homeMissing =>
    exact ⟨_, rfl, fun _ => keeps_forItem (queues_axisOutcome _ _) _⟩
  case waitExpiry => exact ⟨_, rfl, hwhen _ fun q p _ => (hstable q).waitExpire p⟩
  case waitTimeout => exact ⟨_, rfl, hwhen _ fun q p _ => (hstable q).waitTimeOut p⟩
  case inputSample =>
    exact ⟨_, rfl, fun q _ h => queues_finish ((hstable q).eachSettled (fun i _ => (hstable q).sampleInput i) _ h)⟩
  case inputEdge => exact ⟨_, rfl, fun _ => keeps_forItem queues_edgeStep _⟩
  case railProgramStep => exact ⟨_, rfl, fun q _ => queues_whenDue (hstable q).programStep _⟩
  case overloadSample => exact ⟨_, rfl, fun _ => queues_overloadStep _⟩
  case overloadOnset | overloadClear => exact ⟨_, rfl, fun _ => queues_overloadConfirmStep _⟩
  case overloadEnd =>
    exact ⟨fun s => whenDue (s.supply.endTimer == some 0) overloadFinish s, rfl, fun q _ => queues_whenDue (hstable q).overloadFinish _⟩
  case quietTimerExpiry =>
    exact ⟨fun s => whenDue (s.supply.quiet == some 0) quietExpire s, rfl, fun q _ => queues_whenDue (hstable q).quietExpire _⟩
  case dressingKeySample => exact ⟨_, rfl, fun _ => queues_keyStep _⟩
  case dressing => exact ⟨_, rfl, fun _ => queues_dressingStep⟩
  all_goals exact ⟨_, rfl, fun _ => queues_deliver _⟩

/-! ## The handling before a command (log entry 5) -/

/-- A command waits for the work left over, and carries it on. -/
theorem perform_settled (h : (settle s).work.isClear = true) (f : State → State) : perform f s = .next (f (settle s)) := by
  unfold perform
  split
  · next hw => rw [settle_clear hw]
  · exact if_pos h

/-- Work that does not come to its end stops the machine. -/
theorem perform_endless (h : (settle s).work.isClear = false) (f : State → State) : perform f s = .fault .endlessRun := by
  unfold perform
  split
  · next hw => rw [settle_clear hw, hw] at h; cases h
  · exact if_neg (by simp [h])

end Sys2Proof.Machine
end

section
/-! SUPPORT. The Show Link's steps one by one: the pick, the end of a command, the taking of requests, and the receiver (R164 to R170). -/

namespace Sys2Proof.Machine

variable {s t : State}

/-! ## One step -/

/-- A step takes the command at the front of the queue. -/
theorem step_cons {c : Instr} {rest : List Instr} (h : s.pending = c :: rest) : step s = exec c { s with pending := rest } := by
  unfold step
  rw [h]

/-- With no command waiting the part idles (log entry 21). -/
theorem step_nil (h : s.pending = []) : step s = .next s := by
  unfold step
  rw [h]

/-! ## The transmitter picks (R167) -/

theorem pick_reply {r : Reply} {rest : List Reply} (h : s.link.replies = r :: rest) :
    pick s = s.modLink fun l => { l with tx := .reply r, replies := rest } := by
  unfold pick
  rw [h]

theorem pick_notice {n : Notice} {rest : List Notice} (hr : s.link.replies = []) (hn : s.link.notices = n :: rest) :
    pick s = reportLost (s.modLink fun l => { l with tx := .notice n, notices := rest }) := by
  unfold pick
  rw [hr, hn]

theorem pick_nothing (hr : s.link.replies = []) (hn : s.link.notices = []) : pick s = s.modLink fun l => { l with tx := .idle } := by
  unfold pick
  rw [hr, hn]

theorem reportLost_none (h : s.link.lost = 0) : reportLost s = s := if_neg (by simp [h])

theorem reportLost_some (h : 0 < s.link.lost) : reportLost s = (s.modLink fun l => { l with
    notices := l.notices ++ [s.noticeOf (.noticesLost l.lost)], lost := 0 }).offerBlocks (.noticesLost s.link.lost) := if_pos h

/-- With no notice lost a pick makes nothing for the blocks to do. -/
theorem pick_work (h : s.link.lost = 0) : (pick s).work = s.work := by
  unfold pick
  split
  · rfl
  · split
    · unfold reportLost
      rw [if_neg (by simp [h])]
      rfl
    · rfl

theorem kick_idle (h : s.link.tx = .idle) : kick s = pick s := if_pos h

theorem kick_sending (h : s.link.tx ≠ .idle) : kick s = s := if_neg h

/-- A transmitter that stands as it does between two commands picks nothing (R167). -/
theorem kick_atRest (h : s.link.atRest = true) : kick s = s := by
  by_cases hi : s.link.tx = .idle
  · simp only [ShowLink.atRest, hi, bne_self_eq_false, Bool.false_or, Bool.and_eq_true, List.isEmpty_iff] at h
    rw [kick_idle hi, pick_nothing h.1 h.2, ← hi]
    rfl
  · exact kick_sending hi

/-! ## The end of a command -/

/-- The Show Link's records are no work. -/
theorem settle_modLink (h : s.work.isClear = true) (f : ShowLink → ShowLink) : settle (s.modLink f) = s.modLink f := settle_clear h

theorem finish_clear (h : s.work.isClear = true) : finish s = settle (kick s) := by rw [finish, settle_clear h]

theorem finish_atRest (h : s.work.isClear = true) (hl : s.link.atRest = true) : finish s = s := by
  rw [finish_clear h, kick_atRest hl, settle_clear h]

/-- A reply appended at the end of a command goes behind the replies that wait, and an IDLE transmitter takes the oldest (R166, R167). -/
theorem finish_addReply (h : s.work.isClear = true) (x : Reply) : finish (s.modLink (ShowLink.addReply x)) = s.modLink fun l =>
    match l.tx, l.replies with
    | .idle, [] => { l with tx := .reply x }
    | .idle, y :: rest => { l with tx := .reply y, replies := rest ++ [x] }
    | _, _ => { l with replies := l.replies ++ [x] } := by
  have hclear : (s.modLink (ShowLink.addReply x)).work.isClear = true := h
  rw [finish_clear hclear]
  by_cases hi : s.link.tx = .idle
  · rw [kick_idle (s := s.modLink (ShowLink.addReply x)) hi]
    cases hr : s.link.replies with
    | nil =>
      have hx : (s.modLink (ShowLink.addReply x)).link.replies = [x] := by simp [ShowLink.addReply, hr]
      rw [pick_reply hx, settle_modLink hclear]
      simp only [State.modLink, ShowLink.addReply, hi, hr]
    | cons y rest =>
      have hx : (s.modLink (ShowLink.addReply x)).link.replies = y :: (rest ++ [x]) := by simp [ShowLink.addReply, hr]
      rw [pick_reply hx, settle_modLink hclear]
      simp only [State.modLink, ShowLink.addReply, hi, hr]
  · rw [kick_sending (s := s.modLink (ShowLink.addReply x)) hi, settle_clear hclear]
    cases htx : s.link.tx with
    | idle => exact absurd htx hi
    | reply r => simp only [State.modLink, ShowLink.addReply, htx]
    | notice n => simp only [State.modLink, ShowLink.addReply, htx]

/-! ## The taking of requests (R165, R166) -/

theorem ready_iff : s.ready = true ↔ s.work.isClear = true ∧ s.link.resetWaiting = none ∧ s.link.slots.length < 4 ∧
    s.link.slots.all Slot.taken = true := by
  simp only [State.ready, Bool.and_eq_true, Option.isNone_iff_eq_none, decide_eq_true_eq, and_assoc]
  rfl

/-- No request is taken: a RESET waits, or every slot's request has been taken. -/
def ShowLink.stuck (l : ShowLink) : Prop := l.slots.all Slot.taken = true ∨ l.resetWaiting.isSome = true

theorem takeAll_stuck (h : s.link.stuck) : takeAll s = s := by
  rcases h with h | h
  · exact takeRequests_taken h _
  · unfold takeAll Config.slotCount takeRequests
    exact if_pos h

/-- The blocks' work takes no request. -/
theorem settle_stuck (h : s.link.stuck) : (settle s).link.stuck := by
  obtain ⟨-, hslots, -, -, hreset, -⟩ := settle_port s
  rwa [ShowLink.stuck, hslots, hreset]

theorem raise_stuck (h : s.link.stuck) (e : Event) : (s.raise e).link.stuck := by
  rwa [ShowLink.stuck, State.raise_link_slots, State.raise_link_resetWaiting]

/-- A frame whose request is taken as it arrives: it stands in a slot behind the others (R165, R166). -/
def State.took (f : Frame) (s : State) : State := s.modLink fun l => { l with slots := l.slots ++ [{ frame := f, taken := true }] }

/-- A frame that is taken at once, whatever it asks for: it is handled, what follows happens, and the reply is appended (R165, R166). -/
theorem deliver_ready (h : s.ready = true) {f : Frame} {a : Answer} (hb : handleBody f.body (s.took f) = (t, a))
    (hslots : t.link.slots = (s.took f).link.slots) :
    deliver f s = finish ((settle t).modLink (ShowLink.addReply (replyTo f a (originOf t.link.resetWaiting)))) := by
  obtain ⟨-, -, -, hall⟩ := ready_iff.mp h
  obtain ⟨-, hkept, -, -, hreset, -⟩ := settle_port t
  have htook : (s.modLink (ShowLink.hold f)).modLink (fun l => { l with slots := markTaken l.slots }) = s.took f := by
    simp only [State.modLink, State.took, ShowLink.hold]
    rw [markTaken_append hall]
  have hone : takeOne f (s.modLink (ShowLink.hold f)) =
      (settle t).modLink (ShowLink.addReply (replyTo f a (originOf t.link.resetWaiting))) := by
    unfold takeOne
    rw [htook, hb, ← hreset]
  have hstuck : ((settle t).modLink (ShowLink.addReply (replyTo f a (originOf t.link.resetWaiting)))).link.slots.all Slot.taken = true := by
    simp only [State.modLink_link, ShowLink.addReply, hkept, hslots, State.took, List.all_append, hall]
    rfl
  rw [deliver, takeAll_ready h, hone, takeRequests_taken hstuck]

/-- A frame that reaches no block, its own reply apart. -/
theorem deliver_unread (h : s.ready = true) {f : Frame} {a : Answer} (hb : handleBody f.body (s.took f) = (s.took f, a)) :
    deliver f s = finish (s.modLink fun l => { l with
      slots := l.slots ++ [{ frame := f, taken := true }], replies := l.replies ++ [replyTo f a .request] }) := by
  obtain ⟨hw, hn, -⟩ := ready_iff.mp h
  have hclear : (s.took f).work.isClear = true := hw
  have hreset : (s.took f).link.resetWaiting = none := hn
  rw [deliver_ready h hb rfl, settle_clear hclear, hreset]
  rfl

/-- A request of the Show Link's own that changes none of its slots and begins no reset (R168). -/
theorem deliver_served (h : s.ready = true) {tag : Nat} {r : Request} {f : State → State} {a : Answer}
    (hf : handle r (s.taking tag r) = (f (s.taking tag r), a)) (hslots : (f (s.taking tag r)).link.slots = (s.taking tag r).link.slots)
    (hreset : (f (s.taking tag r)).link.resetWaiting = s.link.resetWaiting) :
    deliver (requestFrame tag r) s = s.served tag r f a := by
  obtain ⟨-, hn, -⟩ := ready_iff.mp h
  rw [deliver_ready (f := requestFrame tag r) h hf hslots, hreset, hn]
  rfl

theorem doNoticeMask_taken {mask : Nat} (h : mask < 512) : doNoticeMask mask s =
    (s.modLink fun l => { l with mask := BitVec.ofNat 9 mask }, okWith (dat 2 mask)) := if_neg (Nat.not_le.mpr h)

theorem doNoticeMask_beyond {mask : Nat} (h : 512 ≤ mask) : doNoticeMask mask s = (s, refuse .outOfRange) := if_pos h

theorem doReset_beyond {scope : Nat} (h : 2 ≤ scope) : doReset scope s = (s, refuse .outOfRange) := by
  obtain ⟨n, rfl⟩ := Nat.exists_eq_add_of_le' h
  rfl

/-- A RESET's request begins the wait for its own reply (R170). -/
theorem deliver_reset (h : s.ready = true) {tag scope : Nat} {x : Scope} (hx : (scope = 0 ∧ x = .warm) ∨ (scope = 1 ∧ x = .cold)) :
    deliver (requestFrame tag (.reset scope)) s = finish ((s.taking tag (.reset scope)).modLink fun l =>
      { l with resetWaiting := some x, replies := l.replies ++ [{ kind := 0x83, tag := tag, answer := okay, origin := .reset x }] }) := by
  have hclear : ((s.taking tag (.reset scope)).modLink fun l => { l with resetWaiting := some x }).work.isClear = true := (ready_iff.mp h).1
  have hreset : doReset scope (s.taking tag (.reset scope)) =
      ((s.taking tag (.reset scope)).modLink fun l => { l with resetWaiting := some x }, okay) := by
    obtain ⟨rfl, rfl⟩ | ⟨rfl, rfl⟩ := hx <;> rfl
  rw [deliver_ready (f := requestFrame tag (.reset scope)) h hreset rfl, settle_clear hclear]
  rfl

/-- A request's command is its frame arriving (log entry 1). -/
theorem exec_request {c : Instr} {tag : Nat} {r : Request} (h : c.request = some (tag, r)) :
    exec c s = perform (deliver (requestFrame tag r)) s := by
  cases c <;> cases h <;> rfl

/-- A frame that arrives while no request is taken is placed, and that is all (R165, R170). -/
theorem deliver_stuck {f : Frame} (h : (placeFrame f s).link.stuck) : deliver f s = finish (settle (placeFrame f s)) := by
  rw [deliver, takeAll_stuck (settle_stuck h)]

theorem placeFrame_free {f : Frame} (h : s.link.slots.length < 4) : placeFrame f s = s.modLink (ShowLink.hold f) := if_pos h

theorem placeFrame_busy {f : Frame} (h : 4 ≤ s.link.slots.length) (hb : s.link.busyCount < 4) :
    placeFrame f s = s.modLink (ShowLink.addReply (replyTo f (refuse .busy) .busy)) := by
  unfold placeFrame Config.slotCount Config.busyRoom
  rw [if_neg (Nat.not_lt.mpr h), if_pos hb]

theorem placeFrame_noRoom {f : Frame} (h : 4 ≤ s.link.slots.length) (hb : 4 ≤ s.link.busyCount) :
    placeFrame f s = s.raise (.frameReject .noRoom) := by
  unfold placeFrame Config.slotCount Config.busyRoom
  rw [if_neg (Nat.not_lt.mpr h), if_neg (Nat.not_lt.mpr hb)]

/-! ## The receiver (R163, R164) -/

theorem exec_receiveByte (h : s.work.isClear = true) (b gap : Nat) :
    exec (.receiveByte b gap) s = .next (receive (BitVec.ofNat 8 b) gap s) := perform_clear h _

/-- A byte after which no request is taken. -/
theorem receive_stuck {b : Byte} {gap : Nat} (h : (acceptByte b gap s).link.stuck) :
    receive b gap s = finish (settle (acceptByte b gap s)) := by
  rw [receive, takeAll_stuck (settle_stuck h)]

theorem ofNat_eq_leadByte {b : Nat} (hb : b < 256) : BitVec.ofNat 8 b = leadByte ↔ b = 0xC5 := by
  rw [leadByte, ← BitVec.toNat_inj]
  simp only [BitVec.toNat_ofNat]
  omega

theorem huntByte_eq {b : Nat} (hb : b < 256) (s : State) : huntByte (BitVec.ofNat 8 b) s =
    s.modLink fun l => { l with rx := if b = 0xC5 then .atLength else .hunting } := by
  unfold huntByte
  simp only [ofNat_eq_leadByte hb]

section
variable {b gap n : Nat} {got : List Byte}

theorem acceptByte_hunting (h : s.link.rx = .hunting) (b : Byte) (gap : Nat) : acceptByte b gap s = huntByte b s := by
  unfold acceptByte
  rw [h]

/-- A late byte discards the frame in progress and is handled as in HUNTING (R164). -/
theorem acceptByte_late (h : s.link.rx ≠ .hunting) (hg : 5000 < gap) (b : Byte) :
    acceptByte b gap s = huntByte b (rejectFrame .gap s) := by
  unfold acceptByte
  split
  · next hx => exact absurd hx h
  · exact if_pos hg
  · exact if_pos hg

theorem acceptByte_atLength (h : s.link.rx = .atLength) (hg : gap ≤ 5000) (b : Byte) : acceptByte b gap s = lengthByte b s := by
  unfold acceptByte
  rw [h]
  exact if_neg (Nat.not_lt.mpr hg)

theorem acceptByte_inFrame (h : s.link.rx = .inFrame n got) (hg : gap ≤ 5000) (b : Byte) :
    acceptByte b gap s = frameByte n got b s := by
  unfold acceptByte
  rw [h]
  exact if_neg (Nat.not_lt.mpr hg)

theorem toNat_ofNat_byte (hb : b < 256) : (BitVec.ofNat 8 b).toNat = b := by
  rw [BitVec.toNat_ofNat]
  exact Nat.mod_eq_of_lt hb

theorem lengthByte_kept (h2 : 2 ≤ b) (h250 : b ≤ 250) :
    lengthByte (BitVec.ofNat 8 b) s = s.modLink fun l => { l with rx := .inFrame b [] } := by
  unfold lengthByte
  rw [toNat_ofNat_byte (by omega), if_pos ⟨h2, h250⟩]

theorem lengthByte_bad (hb : b < 256) (h : b < 2 ∨ 250 < b) : lengthByte (BitVec.ofNat 8 b) s = rejectFrame .length s := by
  unfold lengthByte
  rw [toNat_ofNat_byte hb, if_neg (by omega)]

theorem frameByte_more {b : Byte} (h : got.length + 1 < n + 2) :
    frameByte n got b s = s.modLink fun l => { l with rx := .inFrame n (got ++ [b]) } := if_pos (by simpa using h)

theorem frameByte_bad {b : Byte} (h : n + 2 ≤ got.length + 1) (hc : checkMatches n (got ++ [b]) = false) :
    frameByte n got b s = rejectFrame .check s := by
  unfold frameByte
  extract_lets all
  have hlen : ¬all.length < n + 2 := by simpa [all] using h
  rw [if_neg hlen, if_neg (by rw [hc]; exact Bool.false_ne_true)]

theorem frameByte_whole {b : Byte} (h : n + 2 ≤ got.length + 1) (hc : checkMatches n (got ++ [b]) = true) :
    frameByte n got b s = placeFrame (frameOf n (got ++ [b])) (s.modLink fun l => { l with rx := .hunting }) := by
  unfold frameByte
  extract_lets all
  have hlen : ¬all.length < n + 2 := by simpa [all] using h
  rw [if_neg hlen, if_pos hc]

end

end Sys2Proof.Machine
end

section
/-! SUPPORT. The end of a frame, the notices an event makes, and the bytes of what the part sends (R163, R167 to R170, R173, R174). -/

namespace Sys2Proof.Machine

variable {s : State}

theorem State.modLink_congr {f g : ShowLink → ShowLink} (h : f s.link = g s.link) : s.modLink f = s.modLink g := by
  unfold State.modLink
  rw [h]

/-! ## The end of a frame (R167, R170) -/

theorem exec_transmitFrameEnd (h : s.work.isClear = true) : exec .transmitFrameEnd s = .next (frameEnd s) := perform_clear h _

theorem frameEnd_idle (h : s.link.tx = .idle) : frameEnd s = s := if_pos h

theorem frameEnd_sending (h : s.link.tx ≠ .idle) : frameEnd s = finish (takeAll (settle (kick (afterFrame s)))) := if_neg h

theorem afterFrame_notice {n : Notice} (h : s.link.tx = .notice n) : afterFrame s = s.modLink fun l => { l with tx := .idle } := by
  unfold afterFrame
  rw [h]

section
variable {r : Reply} (h : s.link.tx = .reply r)
include h

theorem afterFrame_busy (ho : r.origin = .busy) : afterFrame s = s.modLink fun l => { l with tx := .idle } := by
  unfold afterFrame
  rw [h]
  dsimp only
  rw [ho]

theorem afterFrame_request (ho : r.origin = .request) :
    afterFrame s = s.modLink fun l => { l with slots := freeTaken l.slots, tx := .idle } := by
  unfold afterFrame
  rw [h]
  dsimp only
  rw [ho]

/-- A COLD reset at the end of its own reply is a start (R170). -/
theorem afterFrame_cold (ho : r.origin = .reset .cold) : afterFrame s = State.start .coldRequest s.pins s.pending := by
  unfold afterFrame
  rw [h]
  dsimp only
  rw [ho]
  rfl

end

/-- Nothing follows a start: the transmitter sends STARTED, no request waits and there is no work (R170). -/
theorem finish_start (cause : StartCause) (pins : Pins) (pending : List Instr) :
    finish (takeAll (settle (kick (State.start cause pins pending)))) = State.start cause pins pending := by
  have hclear : (State.start cause pins pending).work.isClear = true := rfl
  rw [kick_sending (by nofun), settle_clear hclear, takeAll_stuck (.inl rfl), finish_atRest hclear rfl]

/-- A pick leaves the transmitter with a frame to send, or with nothing that waits (R167). -/
theorem pick_atRest : (pick s).link.atRest = true := by
  unfold pick
  split
  · rfl
  · next hr =>
    split
    · unfold reportLost
      split <;> rfl
    · next hn => simp [ShowLink.atRest, hr, hn]

theorem freeTaken_taken {l : List Slot} (h : l.all Slot.taken = true) : freeTaken l = l.drop 1 := by
  cases l with
  | nil => rfl
  | cons x xs =>
    simp only [List.all_cons, Bool.and_eq_true] at h
    exact if_pos h.1

/-- What the end of a frame, no RESET's reply, makes of the slots: a request's reply frees the oldest (R165, R167; log entry 7). -/
theorem afterFrame_freed {freed : List Slot} (hall : s.link.slots.all Slot.taken = true)
    (h : (∃ n, s.link.tx = .notice n) ∧ freed = s.link.slots ∨ (∃ r, s.link.tx = .reply r ∧
      (r.origin = .busy ∧ freed = s.link.slots ∨ r.origin = .request ∧ freed = s.link.slots.drop 1))) :
    freed.all Slot.taken = true ∧ s.link.tx ≠ .idle ∧ afterFrame s = s.modLink fun l => { l with slots := freed, tx := .idle } := by
  obtain ⟨⟨n, htx⟩, rfl⟩ | ⟨r, htx, ⟨ho, rfl⟩ | ⟨ho, rfl⟩⟩ := h
  · exact ⟨hall, by simp [htx], afterFrame_notice htx⟩
  · exact ⟨hall, by simp [htx], afterFrame_busy htx ho⟩
  · have hdrop : (s.link.slots.drop 1).all Slot.taken = true :=
      List.all_eq_true.mpr fun x hx => List.all_eq_true.mp hall x (List.mem_of_mem_drop hx)
    refine ⟨hdrop, by simp [htx], (afterFrame_request htx ho).trans (State.modLink_congr ?_)⟩
    rw [freeTaken_taken hall]

/-- What a pick makes of the records with no notice lost: the oldest reply is sent, else the oldest notice, else nothing (R167). -/
def ShowLink.picked (l : ShowLink) : ShowLink :=
  match l.replies, l.notices with
  | r :: rest, _ => { l with tx := .reply r, replies := rest }
  | [], n :: rest => { l with tx := .notice n, notices := rest }
  | [], [] => { l with tx := .idle }

theorem pick_picked (h : s.link.lost = 0) : pick s = s.modLink ShowLink.picked := by
  cases hr : s.link.replies with
  | cons r rest =>
    rw [pick_reply hr]
    exact State.modLink_congr (by simp only [ShowLink.picked, hr])
  | nil =>
    cases hn : s.link.notices with
    | cons n rest =>
      rw [pick_notice hr hn, reportLost_none (by exact h)]
      exact State.modLink_congr (by simp only [ShowLink.picked, hr, hn])
    | nil =>
      rw [pick_nothing hr hn]
      exact State.modLink_congr (by simp only [ShowLink.picked, hr, hn])

/-- The next frame after the end of a frame that left the given slots, with no request untaken and no notice lost (R165, R167). -/
theorem frameEnd_picks {freed : List Slot} (hw : s.work.isClear = true) (hl : s.link.lost = 0) (hs : freed.all Slot.taken = true)
    (htx : s.link.tx ≠ .idle) (ha : afterFrame s = s.modLink fun l => { l with slots := freed, tx := .idle }) :
    frameEnd s = s.modLink fun l => { l with slots := freed, tx := .idle : ShowLink }.picked := by
  have hclear : (pick (s.modLink fun l => { l with slots := freed, tx := .idle })).work.isClear = true :=
    (congrArg Work.isClear (pick_work (s := s.modLink fun l => { l with slots := freed, tx := .idle }) hl)).trans hw
  have hstuck : (pick (s.modLink fun l => { l with slots := freed, tx := .idle })).link.stuck := .inl (by rwa [(pick_rest _).2.1])
  rw [frameEnd_sending htx, ha, kick_idle rfl, settle_clear hclear, takeAll_stuck hstuck, finish_atRest hclear pick_atRest,
    pick_picked (by exact hl)]
  rfl

/-! ## The notices an event makes (R168, R169) -/

theorem offer_room {l : ShowLink} {report n : Notice} (h : l.notices.length < 32) (hl : l.lost = 0) :
    l.offer report n = { l with notices := l.notices ++ [n] } := by
  unfold ShowLink.offer
  rw [if_pos (show l.notices.length < Config.noticeRoom from h), if_pos hl]

theorem offer_full {l : ShowLink} {report n : Notice} (h : 32 ≤ l.notices.length) :
    l.offer report n = { l with lost := min 255 (l.lost + 1) } := if_neg (Nat.not_lt.mpr h)

/-- What was lost is reported before the notice (R169). -/
theorem offer_report {l : ShowLink} {report n : Notice} (h : l.notices.length + 1 < 32) (hl : 0 < l.lost) :
    l.offer report n = { l with notices := l.notices ++ [report, n], lost := 0 } := by
  unfold ShowLink.offer Config.noticeRoom
  rw [if_pos (by omega), if_neg (by omega), if_pos h]

/-- The report takes the last place, and the notice is lost (R169). -/
theorem offer_reportLast {l : ShowLink} {report n : Notice} (h : l.notices.length = 31) (hl : 0 < l.lost) :
    l.offer report n = { l with notices := l.notices ++ [report], lost := 1 } := by
  unfold ShowLink.offer Config.noticeRoom
  rw [if_pos (by omega), if_neg (by omega), if_neg (by omega)]

theorem idles_iff {l : ShowLink} : l.idles = true ↔ l.tx = .idle ∧ l.replies = [] ∧ ∀ x ∈ l.slots, x.taken = false := by
  simp [ShowLink.idles, and_assoc]

theorem wants_iff {l : ShowLink} {e : Event} : l.wants e = true ↔
    (∃ cause, e = .started cause) ∨ (∃ count, e = .noticesLost count) ∨ l.mask.getLsbD e.cls.1 = true := by
  cases e <;> simp [ShowLink.wants, Event.always]

theorem reportsLost_iff {l : ShowLink} : l.reportsLost = true ↔ l.notices.length < 32 ∧ 0 < l.lost := by
  unfold ShowLink.reportsLost Config.noticeRoom
  simp

section
variable {e : Event}

theorem raise_waits (h : ¬s.link.idles = true) : s.raise e = s.announce e := by
  rcases State.raise_cases s e with ⟨-, he⟩ | ⟨hi, -⟩
  · exact he
  · exact absurd hi h

theorem raise_picks (h : s.link.idles = true) : s.raise e = pick (s.announce e) := by
  rcases State.raise_cases s e with ⟨hi, -⟩ | ⟨-, he⟩
  · rw [h] at hi; cases hi
  · exact he

theorem announce_unwanted (h : s.link.wants e = false) : s.announce e = s.offerBlocks e := if_neg (by simp [h])

/-- An event of an enabled class, with nothing to report before it. -/
theorem announce_plain (h : s.link.wants e = true) (hl : s.link.lost = 0 ∨ 32 ≤ s.link.notices.length) : s.announce e =
    (s.modLink (ShowLink.offer (s.noticeOf (.noticesLost s.link.lost)) (s.noticeOf e))).offerBlocks e := by
  unfold State.announce
  rw [if_pos h, if_neg (by rw [reportsLost_iff]; omega)]
  rfl

/-- An event of an enabled class after notices that were lost, with room for their report (R169). -/
theorem announce_report (h : s.link.wants e = true) (hn : s.link.notices.length < 32) (hl : 0 < s.link.lost) : s.announce e =
    ((s.offerBlocks (.noticesLost s.link.lost)).modLink
      (ShowLink.offer (s.noticeOf (.noticesLost s.link.lost)) (s.noticeOf e))).offerBlocks e := by
  unfold State.announce
  rw [if_pos h, if_pos (reportsLost_iff.mpr ⟨hn, hl⟩)]
  rfl

/-- An event that makes no notice goes to the blocks (R168). -/
theorem raise_unwanted (h : s.link.wants e = false) (hq : ¬s.link.idles = true ∨ s.link.notices = []) : s.raise e = s.offerBlocks e := by
  by_cases hi : s.link.idles = true
  · obtain ⟨htx, hr, -⟩ := idles_iff.mp hi
    have hn : (s.offerBlocks e).link.notices = [] := hq.resolve_left (not_not.mpr hi)
    rw [raise_picks hi, announce_unwanted h, pick_nothing (s := s.offerBlocks e) hr hn, ← htx]
    rfl
  · rw [raise_waits hi, announce_unwanted h]

/-- An IDLE transmitter sends a notice at once (log entry 7). -/
theorem raise_atOnce (h : s.link.wants e = true) (hi : s.link.idles = true) (hn : s.link.notices = []) (hl : s.link.lost = 0) :
    s.raise e = (s.modLink fun l => { l with tx := .notice (s.noticeOf e) }).offerBlocks e := by
  obtain ⟨-, hr, -⟩ := idles_iff.mp hi
  have hoffer : s.modLink (ShowLink.offer (s.noticeOf (.noticesLost s.link.lost)) (s.noticeOf e)) =
      s.modLink fun l => { l with notices := [s.noticeOf e] } :=
    State.modLink_congr ((offer_room (by simp [hn]) hl).trans (by rw [hn]; rfl))
  rw [raise_picks hi, announce_plain h (.inl hl), hoffer, pick_picked (by exact hl)]
  simp only [State.modLink, State.offerBlocks, ShowLink.picked, hr]
  rw [← hn]

end

/-! ## The bytes (R163, R173, R174) -/

/-- The low bytes of a number are its digits to the base 256. -/
theorem leBytes_eq (w x : Nat) : leBytes w x = (List.range w).map fun i => BitVec.ofNat 8 (x / 256 ^ i) := by
  induction w generalizing x with
  | zero => rfl
  | succ w ih =>
    rw [leBytes, ih, List.range_succ_eq_map, List.map_cons, List.map_map, pow_zero, Nat.div_one]
    refine congrArg _ (List.map_congr_left fun i _ => ?_)
    rw [Function.comp_apply, Nat.div_div_eq_div_mul, pow_succ']

theorem leBytes_length (w x : Nat) : (leBytes w x).length = w := by simp [leBytes_eq]

theorem datF_eq (f : Bool) : datF f = dat 1 (if f then 1 else 0) := by cases f <;> rfl

theorem Notice.record_length (n : Notice) : n.record.length = 19 := by
  simp only [Notice.record, dat, datS, List.length_append, leBytes_length]

end Sys2Proof.Machine
end

section
/-! SUPPORT. The lengths of payloads and the frames that reach no block (R165, R166, R170, R175). -/

namespace Sys2Proof.Machine

variable {s : State} {kind n : Nat} {p : List Nat}

/-! ## The lengths that suit a kind (R175) -/

/-- A payload that its kind reads as a request exactly when its length suits the kind. -/
def Body.readsWhen (b : Body) (suits : Prop) : Prop := (b = .badLength ↔ ¬suits) ∧ b ≠ .unknownKind

theorem fixed_readsWhen (n : Nat) (p : List Nat) (r : Request) : (fixed n p r).readsWhen (p.length = n) := by
  unfold fixed
  split
  · next h => exact ⟨by simp [h], nofun⟩
  · next h => exact ⟨by simp [h], nofun⟩

theorem listed_readsWhen (base lo hi : Nat) {width : Nat} (hw : 0 < width) (p : List Nat) (r : Nat → Request) :
    (listed base width lo hi p r).readsWhen (∃ k, lo ≤ k ∧ k ≤ hi ∧ p.length = base + width * k) := by
  unfold listed
  extract_lets n
  split
  · next h =>
    obtain ⟨hlen, hlo, hhi⟩ := h
    exact ⟨by simpa using ⟨n, hlo, hhi, hlen⟩, nofun⟩
  · next h =>
    have hno : ¬∃ k, lo ≤ k ∧ k ≤ hi ∧ p.length = base + width * k := by
      rintro ⟨k, hlo, hhi, hlen⟩
      have hn : n = k := by simp only [n, hlen, Nat.add_sub_cancel_left, Nat.mul_div_cancel_left _ hw]
      exact h ⟨by rw [hn, hlen], by rwa [hn], by rwa [hn]⟩
    exact ⟨by simp only [hno, not_false_eq_true], nofun⟩

/-- The kinds whose payload has one length, by that length (R175). -/
def kindsOfLength : Nat → List Nat
  | 0 => [0x01, 0x02, 0x09, 0x0A, 0x0C, 0x20, 0x21, 0x2C, 0x64, 0x71, 0x72, 0x74]
  | 1 => [0x03, 0x16, 0x1B, 0x1C, 0x23, 0x29, 0x2A, 0x2B, 0x32, 0x34, 0x36, 0x37, 0x38, 0x39, 0x44, 0x45, 0x46, 0x51, 0x54, 0x55,
    0x56, 0x58, 0x62, 0x67, 0x68, 0x73]
  | 2 => [0x04, 0x10, 0x19, 0x1D, 0x26, 0x27, 0x28, 0x33, 0x57, 0x63, 0x66]
  | 3 => [0x12, 0x18, 0x42, 0x52, 0x53, 0x60]
  | 4 => [0x30, 0x41]
  | 5 => [0x0B, 0x14, 0x43, 0x61]
  | 6 => [0x13, 0x1A]
  | 8 => [0x65]
  | 9 => [0x24]
  | 11 => [0x22]
  | 15 => [0x17]
  | 17 => [0x70]
  | 30 => [0x40]
  | 35 => [0x15]
  | _ => []

theorem kindsOfLength_readsWhen (p : List Nat) (n : Nat) : ∀ kind ∈ kindsOfLength n, (parseRequest kind p).readsWhen (p.length = n) := by
  unfold kindsOfLength
  split
  all_goals
    repeat' refine List.forall_mem_cons.mpr ⟨fixed_readsWhen _ _ _, ?_⟩
    exact List.forall_mem_nil _

/-- The kinds with more than one length: CLOCK_SET_RATE and those that carry a list (R175). -/
def openKinds : List Nat := [0x08, 0x11, 0x25, 0x31, 0x35, 0x50]

/-- The lengths of those kinds (R175). -/
def openLengths (kind n : Nat) : Prop :=
  match kind with
  | 0x08 => n = 4 ∨ n = 6
  | 0x11 => ∃ k, 0 ≤ k ∧ k ≤ 16 ∧ n = 1 + 4 * k
  | 0x25 => ∃ k, 0 ≤ k ∧ k ≤ 4 ∧ n = 7 + 1 * k
  | 0x31 => ∃ k, 1 ≤ k ∧ k ≤ 4 ∧ n = 1 + 2 * k
  | 0x35 => ∃ k, 1 ≤ k ∧ k ≤ 12 ∧ n = 2 + 1 * k
  | 0x50 => ∃ k, 0 ≤ k ∧ k ≤ 17 ∧ n = 3 + 14 * k
  | _ => False

theorem mem_openKinds (h : openLengths kind n) : kind ∈ openKinds := by
  unfold openLengths at h
  split at h
  case h_7 => exact h.elim
  all_goals decide

theorem parseRequest_clockSetRate (p : List Nat) : (parseRequest 0x08 p).readsWhen (p.length = 4 ∨ p.length = 6) := by
  change (if p.length = 4 then Body.request _ else fixed 6 p _).readsWhen _
  split
  · next h => exact ⟨by simp [h], nofun⟩
  · next h => simpa [h] using fixed_readsWhen 6 p _

theorem openKinds_readsWhen (p : List Nat) : ∀ kind ∈ openKinds, (parseRequest kind p).readsWhen (openLengths kind p.length) := by
  refine List.forall_mem_cons.mpr ⟨parseRequest_clockSetRate p, ?_⟩
  simp only [List.forall_mem_cons, parseRequest, openLengths]
  exact ⟨listed_readsWhen 1 0 16 (width := 4) (by decide) p _, listed_readsWhen 7 0 4 (width := 1) (by decide) p _,
    listed_readsWhen 1 1 4 (width := 2) (by decide) p _, listed_readsWhen 2 1 12 (width := 1) (by decide) p _,
    listed_readsWhen 3 0 17 (width := 14) (by decide) p _, List.forall_mem_nil _⟩

/-- The lengths that suit a kind (R175). -/
def suitsKind (kind n : Nat) : Prop := kind ∈ kindsOfLength n ∨ openLengths kind n

/-- The lengths that suit a kind, as the rows of R175's table by length. -/
theorem suitsKind_iff : suitsKind kind n ↔
    (n = 0 ∧ kind ∈ [0x01, 0x02, 0x09, 0x0A, 0x0C, 0x20, 0x21, 0x2C, 0x64, 0x71, 0x72, 0x74]) ∨
    (n = 1 ∧ kind ∈ [0x03, 0x16, 0x1B, 0x1C, 0x23, 0x29, 0x2A, 0x2B, 0x32, 0x34, 0x36, 0x37, 0x38, 0x39, 0x44, 0x45, 0x46, 0x51, 0x54, 0x55,
      0x56, 0x58, 0x62, 0x67, 0x68, 0x73]) ∨
    (n = 2 ∧ kind ∈ [0x04, 0x10, 0x19, 0x1D, 0x26, 0x27, 0x28, 0x33, 0x57, 0x63, 0x66]) ∨
    (n = 3 ∧ kind ∈ [0x12, 0x18, 0x42, 0x52, 0x53, 0x60]) ∨ (n = 4 ∧ kind ∈ [0x08, 0x30, 0x41]) ∨
    (n = 5 ∧ kind ∈ [0x0B, 0x14, 0x43, 0x61]) ∨ (n = 6 ∧ kind ∈ [0x08, 0x13, 0x1A]) ∨ (kind = 0x65 ∧ n = 8) ∨ (kind = 0x24 ∧ n = 9) ∨
    (kind = 0x22 ∧ n = 11) ∨ (kind = 0x17 ∧ n = 15) ∨ (kind = 0x70 ∧ n = 17) ∨ (kind = 0x40 ∧ n = 30) ∨ (kind = 0x15 ∧ n = 35) ∨
    (kind = 0x11 ∧ ∃ k, k ≤ 16 ∧ n = 1 + 4 * k) ∨ (kind = 0x25 ∧ ∃ k, k ≤ 4 ∧ n = 7 + k) ∨
    (kind = 0x31 ∧ ∃ k, 1 ≤ k ∧ k ≤ 4 ∧ n = 1 + 2 * k) ∨ (kind = 0x35 ∧ ∃ k, 1 ≤ k ∧ k ≤ 12 ∧ n = 2 + k) ∨
    (kind = 0x50 ∧ ∃ k, k ≤ 17 ∧ n = 3 + 14 * k) := by
  constructor
  · rintro (h | h)
    · unfold kindsOfLength at h
      split at h
      case h_1 | h_2 | h_3 | h_4 | h_6 => simp only [h, and_self, true_or, or_true]
      case h_5 | h_7 => simp only [List.mem_cons_of_mem _ h, and_self, true_or, or_true]
      case h_15 => cases h
      all_goals simp only [List.mem_singleton.mp h, and_self, true_or, or_true]
    · unfold openLengths at h
      split at h
      case h_1 => rcases h with rfl | rfl <;> simp only [List.mem_cons_self, and_self, true_or, or_true]
      case h_7 => exact h.elim
      all_goals
        obtain ⟨k, hlo, hhi, rfl⟩ := h
        simp [hlo, hhi]
  · rintro (⟨rfl, h⟩ | ⟨rfl, h⟩ | ⟨rfl, h⟩ | ⟨rfl, h⟩ | ⟨rfl, h⟩ | ⟨rfl, h⟩ | ⟨rfl, h⟩ | ⟨rfl, rfl⟩ | ⟨rfl, rfl⟩ | ⟨rfl, rfl⟩ | ⟨rfl, rfl⟩ |
      ⟨rfl, rfl⟩ | ⟨rfl, rfl⟩ | ⟨rfl, rfl⟩ | ⟨rfl, h⟩ | ⟨rfl, h⟩ | ⟨rfl, h⟩ | ⟨rfl, h⟩ | ⟨rfl, h⟩)
    case inr.inr.inr.inr.inl | inr.inr.inr.inr.inr.inr.inl => exact (List.mem_cons.mp h).elim (fun e => .inr (by simp [e, openLengths])) .inl
    exacts [.inl h, .inl h, .inl h, .inl h, .inl h, .inl (by decide), .inl (by decide), .inl (by decide), .inl (by decide), .inl (by decide),
      .inl (by decide), .inl (by decide), .inr (by simpa [openLengths] using h), .inr (by simpa [openLengths] using h), .inr h,
      .inr (by simpa [openLengths] using h), .inr (by simpa [openLengths] using h)]

/-- A kind that names a request has its one length or is one of those with several (R175). -/
theorem requestKinds_length : ∀ kind ∈ requestKinds, kind ∈ openKinds ∨ ∃ n ∈ List.range 36, kind ∈ kindsOfLength n := by decide +kernel

/-- A kind that names a request reads the payloads whose length suits it, and no others (R166, R175). -/
theorem parseRequest_readsWhen (h : kind ∈ requestKinds) (p : List Nat) : (parseRequest kind p).readsWhen (suitsKind kind p.length) := by
  refine ⟨⟨?_, fun hno => ?_⟩, ?_⟩
  · rintro hbad (hk | ho)
    · exact (kindsOfLength_readsWhen p _ _ hk).1.mp hbad rfl
    · exact (openKinds_readsWhen p _ (mem_openKinds ho)).1.mp hbad ho
  · obtain ho | ⟨n, -, hk⟩ := requestKinds_length kind h
    · exact (openKinds_readsWhen p _ ho).1.mpr fun hl => hno (.inr hl)
    · exact (kindsOfLength_readsWhen p _ _ hk).1.mpr fun hl => hno (.inl (hl ▸ hk))
  · obtain ho | ⟨n, -, hk⟩ := requestKinds_length kind h
    · exact (openKinds_readsWhen p _ ho).2
    · exact (kindsOfLength_readsWhen p _ _ hk).2

/-- Any other kind names no request (R166). -/
theorem parseRequest_unknown (h : requestKinds.contains kind = false) (p : List Nat) : parseRequest kind p = .unknownKind := by
  unfold parseRequest
  split
  case h_77 => rfl
  all_goals cases h

theorem parseRequest_badLength_iff (kind : Nat) (p : List Nat) :
    parseRequest kind p = .badLength ↔ requestKinds.contains kind = true ∧ ¬suitsKind kind p.length := by
  cases h : requestKinds.contains kind with
  | true => exact (parseRequest_readsWhen (List.contains_iff_mem.mp h) p).1.trans (by simp)
  | false => simp [parseRequest_unknown h]

theorem parseRequest_unknown_iff (kind : Nat) (p : List Nat) : parseRequest kind p = .unknownKind ↔ requestKinds.contains kind = false := by
  cases h : requestKinds.contains kind with
  | true => simpa using (parseRequest_readsWhen (List.contains_iff_mem.mp h) p).2
  | false => simp [parseRequest_unknown h]

/-! ## The last byte of a frame whose check matches (R163, R164) -/

section
variable {kind tag b : Byte} {payload got : List Byte} {gap : Nat}

/-- The bytes that a frame's check covers (R163). -/
def frameCheck (kind tag : Byte) (payload : List Byte) : BitVec 16 := crc16 (BitVec.ofNat 8 (payload.length + 2) :: kind :: tag :: payload)

/-- The two bytes of a frame's check, high byte first (R163). -/
def checkBytes (kind tag : Byte) (payload : List Byte) : List Byte :=
  [(frameCheck kind tag payload >>> 8).truncate 8, (frameCheck kind tag payload).truncate 8]

theorem checkMatches_frame : checkMatches (payload.length + 2) (kind :: tag :: payload ++ checkBytes kind tag payload) = true := by
  simp [checkMatches, checkBytes, frameCheck]

theorem frameOf_frame : frameOf (payload.length + 2) (kind :: tag :: payload ++ checkBytes kind tag payload) =
    readFrame kind.toNat tag.toNat (payload.map BitVec.toNat) := by
  simp [frameOf]

/-- The last byte of a valid frame hands it in, with the receiver HUNTING (R164, R165). -/
theorem receive_last (hx : s.link.rx = .inFrame (payload.length + 2) got) (hg : gap ≤ 5000)
    (hgot : got ++ [b] = kind :: tag :: payload ++ checkBytes kind tag payload) :
    receive b gap s = deliver (readFrame kind.toNat tag.toNat (payload.map BitVec.toNat)) (s.modLink fun l => { l with rx := .hunting }) := by
  have hlen := congrArg List.length hgot
  simp only [checkBytes, List.length_append, List.length_cons, List.length_nil] at hlen
  rw [receive, acceptByte_inFrame hx hg, frameByte_whole (by omega) (hgot ▸ checkMatches_frame), hgot, frameOf_frame]
  rfl

end

end Sys2Proof.Machine
end

section
/-! SUPPORT. A refusal changes nothing (R166). -/

namespace Sys2Proof.Machine

variable {s t : State} {a : Answer}

/-- A handling that leaves the state as it is when it refuses. -/
def Unmoved (s : State) (h : Handled) : Prop := h.2.code.refuses = true → h.1 = s

theorem unmoved_same (s : State) (a : Answer) : Unmoved s (s, a) := fun _ => rfl

theorem unmoved_taken (t : State) (h : a.code.refuses = false) : Unmoved s (t, a) := fun h' => by rw [h] at h'; cases h'

/-- A JUMP and a GLIDE: only a GLIDE of a clock that is HELD is refused (R9, R10). -/
theorem doClockSetTime_unmoved (target mode : Nat) (s : State) : Unmoved s (doClockSetTime target mode s) := by
  unfold doClockSetTime jumpTo glideTo
  repeat' split
  all_goals first | exact unmoved_same _ _ | exact unmoved_taken _ rfl

theorem startProgram_unmoved (q : Program) (s : State) : Unmoved s (startProgram q s) := by
  unfold startProgram
  split
  · exact unmoved_same _ _
  · exact unmoved_taken _ rfl

/-- A start that is refused leaves the player (R139). -/
theorem doPlayerStart_unmoved (player list policy : Nat) (s : State) : Unmoved s (doPlayerStart player list policy s) := by
  unfold doPlayerStart startPlayer
  repeat' split
  all_goals first | exact unmoved_same _ _ | exact unmoved_taken _ rfl

/-- Only the validation of a closing LIST_WRITE refuses after a change (R124, R125). -/
theorem doListWrite_unmoved (list first : Nat) (steps : List StepRec) (s : State) : Unmoved s (doListWrite list first false steps s) := by
  simp only [doListWrite, if_true]
  repeat' split
  all_goals first | exact unmoved_same _ _ | exact unmoved_taken _ rfl

/-- Every block refuses before it changes anything, the closing LIST_WRITE apart (R124, R166): each branch of a request answers with the state
as it was, or with no refusal. The requests stand by their blocks. -/
theorem handle_unmoved (r : Request) (hr : ∀ l f steps, r ≠ .listWrite l f true steps) (s : State) : Unmoved s (handle r s) := by
  cases r
  case clockSetTime => exact doClockSetTime_unmoved _ _ s
  case playerStart => exact doPlayerStart_unmoved _ _ _ s
  case railRaise => exact startProgram_unmoved _ s
  case railLower => exact startProgram_unmoved _ s
  case listWrite endFlag _ =>
    cases endFlag with
    | false => exact doListWrite_unmoved _ _ _ s
    | true => exact absurd rfl (hr _ _ _)
  -- The queries
  case identify | status | clockQuery | gammaQuery | groupQuery | channelQuery | layoutQuery | sectionQuery | crossingQuery | throwQuery |
      trainQuery | axisQuery | listQuery | playerQuery | inputQuery | auxQuery | triggerQuery | supplyQuery =>
    simp only [handle, doIdentify, doStatus, doClockQuery, doGammaQuery, doGroupQuery, doChannelQuery, doLayoutQuery, doSectionQuery,
      doCrossingQuery, doThrowQuery, doTrainQuery, doAxisQuery, doListQuery, doPlayerQuery, doInputQuery, doAuxQuery, doTriggerQuery,
      doSupplyQuery]
    repeat' split
    all_goals exact unmoved_same _ _
  -- The Show Link and the Town Clock
  case reset | noticeMask | clockSetRate | clockHold | clockRun =>
    simp only [handle, doReset, doNoticeMask, doClockSetRate, doClockHold, doClockRun]
    repeat' split
    all_goals first | exact unmoved_same _ _ | exact unmoved_taken _ rfl
  -- The Light Engine
  case groupSetMode | groupSetCurve | groupConfig | groupSetLevel | groupSetBlink | gammaWrite | channelConfig | pwmMap | chainLength |
      segmentSet | segmentClear =>
    simp only [handle, doGroupSetMode, doGroupSetCurve, doGroupConfig, doGroupSetLevel, doGroupSetBlink, doGammaWrite, doChannelConfig, doPwmMap,
      doChainLength, doSegmentSet, doSegmentClear]
    repeat' split
    all_goals first | exact unmoved_same _ _ | exact unmoved_taken _ rfl
  -- The Track Controller
  case layoutOpen | layoutClose | sectionDefine | sectionForget | pointDefine | crossingDefine | pointThrow | throwUnitConfig | gateRetry =>
    simp only [handle, doLayoutOpen, doLayoutClose, doSectionDefine, doSectionForget, doPointDefine, doCrossingDefine, doPointThrow,
      doThrowUnitConfig, doGateRetry]
    repeat' split
    all_goals first | exact unmoved_same _ _ | exact unmoved_taken _ rfl
  -- The Train Controller
  case trainConfig | trainPlace | trainRemove | trainSpeed | trainStop | trainRoute | trainRelease | trainDirection | trainClearFault =>
    simp only [handle, doTrainConfig, doTrainPlace, doTrainRemove, doTrainSpeed, doTrainStop, doTrainRoute, doTrainRelease, doTrainDirection,
      doTrainClearFault]
    repeat' split
    all_goals first | exact unmoved_same _ _ | exact unmoved_taken _ rfl
  -- The Motion Controller
  case axisConfig | axisSpeed | axisStopAt | axisMove | axisHome | axisStop =>
    simp only [handle, doAxisConfig, doAxisSpeed, doAxisStopAt, doAxisMove, doAxisHome, doAxisStop]
    repeat' split
    all_goals first | exact unmoved_same _ _ | exact unmoved_taken _ rfl
  -- The Cue Engine
  case listErase | playerStop | playerPause | playerResume | playerPriority =>
    simp only [handle, doListErase, doPlayerStop, doPlayerPause, doPlayerResume, doPlayerPriority]
    repeat' split
    all_goals first | exact unmoved_same _ _ | exact unmoved_taken _ rfl
  -- The Trigger Unit and the Supply Sequencer
  case inputConfig | counterConfig | auxSet | triggerSet | triggerEnable | triggerClearCounts | railProgram | railSet =>
    simp only [handle, doInputConfig, doCounterConfig, doAuxSet, doTriggerSet, doTriggerEnable, doTriggerClearCounts, doRailProgram, doRailSet]
    repeat' split
    all_goals first | exact unmoved_same _ _ | exact unmoved_taken _ rfl

end Sys2Proof.Machine
end

section
/-! SUPPORT. The payload of a well-formed request, read by its kind, is that request (R172, R175, R176, R178, R179). -/

namespace Sys2Proof

theorem isByte_iff {x : Nat} : isByte x = true ↔ x < 256 := by simp [isByte]

theorem isWord_iff {x : Nat} : isWord x = true ↔ x < 65536 := by simp [isWord]

theorem isLong_iff {x : Nat} : isLong x = true ↔ x < 4294967296 := by simp [isLong]

end Sys2Proof

namespace Sys2Proof.Machine

variable {α : Type} {p : List Nat} {x : Nat}

/-! ## Fields (R172) -/

/-- A two-byte value is put together from its bytes. -/
theorem word_bytes (h : isWord x = true) : x % 256 + 256 * (x / 256 % 256) = x := by
  rw [isWord_iff] at h
  omega

/-- A four-byte value is put together from its words, and they from their bytes. -/
theorem long_bytes (h : isLong x = true) : x % 256 + 256 * (x % 65536 / 256 % 256) +
    65536 * (x / 65536 % 256 + 256 * (x / 65536 % 65536 / 256 % 256)) = x := by
  rw [isLong_iff] at h
  omega

theorem toUnsigned_word {y : Int} : isWord (toUnsigned 2 y) = true := by
  rw [isWord_iff, toUnsigned]
  omega

theorem toUnsigned_long {y : Int} : isLong (toUnsigned 4 y) = true := by
  rw [isLong_iff, toUnsigned]
  omega

/-- A signed two-byte value is its two's complement number read back. -/
theorem toSigned_toUnsigned_word {y : Int} (h : isSignedWord y = true) : toSigned 2 (toUnsigned 2 y) = y := by
  simp only [isSignedWord, Bool.and_eq_true, decide_eq_true_eq] at h
  unfold toSigned toUnsigned
  split <;> omega

theorem toSigned_toUnsigned_long {y : Int} (h : isSignedLong y = true) : toSigned 4 (toUnsigned 4 y) = y := by
  simp only [isSignedLong, Bool.and_eq_true, decide_eq_true_eq] at h
  unfold toSigned toUnsigned
  split <;> omega

/-! ## Items behind other bytes -/

section
variable (pre q : List Nat) (i : Nat)

theorem getD_append : (pre ++ q).getD (pre.length + i) 0 = q.getD i 0 := by
  rw [List.getD_append_right _ _ _ _ (Nat.le_add_right _ _), Nat.add_sub_cancel_left]

theorem u8_append : u8 (pre ++ q) (pre.length + i) = u8 q i := getD_append pre q i

theorem u8_append_zero : u8 (pre ++ q) pre.length = u8 q 0 := u8_append pre q 0

theorem u16_append : u16 (pre ++ q) (pre.length + i) = u16 q i := by
  rw [u16, getD_append, Nat.add_assoc, getD_append]
  rfl

theorem u16_append_zero : u16 (pre ++ q) pre.length = u16 q 0 := u16_append pre q 0

end

/-- A record's bytes are read back as the record wherever they stand. -/
def ReadsBack (f : List Nat → Nat → α) (g : α → List Nat) (x : α) : Prop := ∀ pre post, f (pre ++ (g x ++ post)) pre.length = x

theorem readsBack_point {x : Nat × Nat} (h : isWordPair x = true) : ReadsBack pointAt (fun x => b16 x.1 ++ b16 x.2) x := by
  simp only [isWordPair, Bool.and_eq_true] at h
  intro pre post
  simp only [pointAt, u16_append, u16_append_zero]
  simp [u16, b16, word_bytes, h]

theorem readsBack_word (h : isWord x = true) : ReadsBack u16 b16 x := by
  intro pre post
  rw [u16_append_zero]
  simp [u16, b16, word_bytes, h]

theorem readsBack_pair (x : Nat × Nat) : ReadsBack pairAt (fun x => [x.1, x.2]) x := by
  intro pre post
  rw [pairAt, u8_append_zero, u8_append]
  rfl

theorem readsBack_step {r : StepRec} (h : r.wellFormed = true) : ReadsBack stepAt bStep r := by
  simp only [StepRec.wellFormed, Bool.and_eq_true] at h
  intro pre post
  simp only [stepAt, u8_append, u8_append_zero, u16_append]
  simp [bStep, u8, u16, b16, word_bytes, h]

section
variable {f : List Nat → Nat → α} {g : α → List Nat} {w : Nat} {l : List α}

theorem length_flatMap_items (hlen : ∀ x ∈ l, (g x).length = w) : (l.flatMap g).length = w * l.length := by
  rw [List.length_flatMap, List.map_congr_left hlen, List.map_const', List.sum_replicate, smul_eq_mul, Nat.mul_comm]

/-- Items written one behind the other are read back in order. -/
theorem itemsFrom_flatMap (pre : List Nat) (hlen : ∀ x ∈ l, (g x).length = w) (hread : ∀ x ∈ l, ReadsBack f g x) :
    itemsFrom f w (pre ++ l.flatMap g) pre.length l.length = l := by
  induction l generalizing pre with
  | nil => rfl
  | cons x l ih =>
    have hrest := ih (pre ++ g x) (fun y hy => hlen y (.tail _ hy)) fun y hy => hread y (.tail _ hy)
    rw [List.length_append, hlen x (.head _), List.append_assoc] at hrest
    rw [List.flatMap_cons, List.length_cons, itemsFrom, hread x (.head _), hrest]

end

/-- A payload whose length is that of a list of `n` items. -/
theorem listed_of_length {base width lo hi n : Nat} (hw : 0 < width) (hlen : p.length = base + width * n) (hlo : lo ≤ n) (hhi : n ≤ hi)
    (r : Nat → Request) : listed base width lo hi p r = .request (r n) := by
  have hn : (p.length - base) / width = n := by rw [hlen, Nat.add_sub_cancel_left, Nat.mul_div_cancel_left _ hw]
  simp only [listed, hn]
  exact if_pos ⟨hlen, hlo, hhi⟩

/-- A payload that carries a list of items behind its first bytes (R175, R178). -/
theorem listed_items {f : List Nat → Nat → α} {g : α → List Nat} {w lo hi : Nat} {l : List α} {pre : List Nat} (r : List α → Request)
    (hw : 0 < w) (hlen : ∀ x ∈ l, (g x).length = w) (hread : ∀ x ∈ l, ReadsBack f g x) (hlo : lo ≤ l.length) (hhi : l.length ≤ hi) :
    listed pre.length w lo hi (pre ++ l.flatMap g) (fun n => r (itemsFrom f w (pre ++ l.flatMap g) pre.length n)) = .request (r l) := by
  rw [listed_of_length hw (by rw [List.length_append, length_flatMap_items hlen]) hlo hhi, itemsFrom_flatMap pre hlen hread]

/-- A payload that carries a list of a fixed number of items (R175). -/
theorem fixed_items {f : List Nat → Nat → α} {g : α → List Nat} {w m n : Nat} {l : List α} {pre : List Nat} (r : List α → Request)
    (hlen : ∀ x ∈ l, (g x).length = w) (hread : ∀ x ∈ l, ReadsBack f g x) (hl : l.length = n) (hm : pre.length + w * n = m) :
    fixed m (pre ++ l.flatMap g) (r (itemsFrom f w (pre ++ l.flatMap g) pre.length n)) = .request (r l) := by
  subst hl
  rw [itemsFrom_flatMap pre hlen hread]
  exact if_pos (by rw [List.length_append, length_flatMap_items hlen, hm])

theorem flagAt_one {f : Bool} : (bFlag f % 2 == 1) = f := by cases f <;> rfl

/-! ## The requests (R175, R176, R178, R179) -/

/-- A channel's configuration is read back whatever its kind; the bytes of the binding field that the kind does not use are 0 (R176). -/
theorem parseRequest_channelConfig {channel group kind warm restrike : Nat} {trim : Int} {binding : RawBinding}
    (h : (Request.channelConfig channel group kind trim binding warm restrike).wellFormed = true) :
    parseRequest 0x17 (requestPayload (.channelConfig channel group kind trim binding warm restrike)) =
      .request (.channelConfig channel group kind trim binding warm restrike) := by
  obtain ⟨item, aspect, start, width⟩ := binding
  simp only [Request.wellFormed, Bool.and_eq_true] at h
  obtain ⟨⟨⟨⟨⟨⟨hchannel, -⟩, -⟩, htrim⟩, hbinding⟩, hwarm⟩, hrestrike⟩ := h
  obtain rfl | rfl | rfl | ⟨h2, h3, h4⟩ : kind = 2 ∨ kind = 3 ∨ kind = 4 ∨ kind ≠ 2 ∧ kind ≠ 3 ∧ kind ≠ 4 := by omega
  case inr.inr.inr =>
    simp only [RawBinding.wellFormed, if_neg h2, if_neg h3, if_neg h4, Bool.and_eq_true, beq_iff_eq] at hbinding
    simp [requestPayload, bBinding, parseRequest, fixed, bindingAt, u8, u16, b16, word_bytes, toUnsigned_word, toSigned_toUnsigned_word,
      hchannel, htrim, hwarm, hrestrike, hbinding, h2, h3, h4]
  all_goals
    simp only [RawBinding.wellFormed, Nat.reduceEqDiff, if_true, if_false, Bool.and_eq_true, beq_iff_eq] at hbinding
    simp [requestPayload, bBinding, parseRequest, fixed, bindingAt, u8, u16, b16, word_bytes, toUnsigned_word, toSigned_toUnsigned_word,
      hchannel, htrim, hwarm, hrestrike, hbinding]

/-- The payload of a well-formed request, read by its kind, is the request. -/
theorem parseRequest_requestPayload (r : Request) (h : r.wellFormed = true) : parseRequest (requestKind r) (requestPayload r) = .request r := by
  cases r
  case noticeMask | channelQuery | throwUnitConfig | groupSetLevel | segmentSet | sectionDefine | axisSpeed | axisStopAt | inputConfig |
      counterConfig =>
    simp only [Request.wellFormed, Bool.and_eq_true] at h
    simp [requestKind, requestPayload, parseRequest, fixed, u8, u16, b16, word_bytes, h, linkAt, bLink]
  case clockSetTime | axisMove | axisConfig =>
    simp only [Request.wellFormed, RawAxisConfig.wellFormed, Bool.and_eq_true] at h
    simp [requestKind, requestPayload, parseRequest, fixed, u8, u16, u32, b16, b32, bAxisConfig, axisConfigAt, word_bytes,
      long_bytes, h, toUnsigned_long, toSigned_toUnsigned_long]
  case clockSetRate p m q glide =>
    simp only [Request.wellFormed, Bool.and_eq_true] at h
    cases glide <;> simp [requestKind, requestPayload, parseRequest, fixed, u8, u16, b16] at h ⊢ <;> simp [word_bytes, h]
  case pwmMap output channel =>
    cases channel with
    | none => simp [requestKind, requestPayload, parseRequest, fixed, u8, u16, b16, none16]
    | some c =>
      simp only [Request.wellFormed, Bool.and_eq_true, Option.all_some, decide_eq_true_eq] at h
      have hw : isWord c = true := isWord_iff.mpr (by omega)
      have hne : c ≠ none16 := h.2.ne
      simp [requestKind, requestPayload, parseRequest, fixed, u8, u16, b16, word_bytes, hw, hne]
  case channelConfig channel group kind trim binding warm restrike => exact parseRequest_channelConfig h
  case pointDefine point d =>
    cases d with
    | none => rfl
    | some d =>
      simp only [Request.wellFormed, RawPoint.wellFormed, Bool.and_eq_true, Option.all_some] at h
      simp [requestKind, requestPayload, parseRequest, fixed, pointDefAt, flagAt, u8, u16, b16, word_bytes, h]
  case crossingDefine crossing d =>
    cases d with
    | none =>
      exact listed_of_length (base := 7) (width := 1) (lo := 0) (hi := 4) (n := 0) (p := [crossing, 0, 0, 0, 0, 0, 0]) (by decide) rfl
        (by decide) (by decide) (fun _ => .crossingDefine crossing none)
    | some d =>
      simp only [Request.wellFormed, RawCrossing.wellFormed, Bool.and_eq_true, Option.all_some, decide_eq_true_eq] at h
      have hlen : (requestPayload (.crossingDefine crossing (some d))).length = 7 + 1 * d.members.length := by
        simp [requestPayload, b16]; omega
      refine (listed_of_length (base := 7) (width := 1) (lo := 0) (hi := 4) (by decide) hlen (Nat.zero_le _) h.2.2
        (fun _ => .crossingDefine (u8 _ 0) (crossingDefAt _))).trans ?_
      simp [requestPayload, crossingDefAt, bytesFrom, flagAt, u8, u16, b16, word_bytes, h]
  case groupSetCurve group points =>
    simp only [Request.wellFormed, Bool.and_eq_true, List.all_eq_true, decide_eq_true_eq] at h
    exact listed_items (pre := [group]) (g := fun x => b16 x.1 ++ b16 x.2) (w := 4) (lo := 0) (hi := 16) (f := pointAt) (.groupSetCurve group)
      (by decide) (fun _ _ => rfl) (fun x hx => readsBack_point (h.1.2 x hx)) (Nat.zero_le _) h.2
  case trainPlace train secs =>
    simp only [Request.wellFormed, Bool.and_eq_true, decide_eq_true_eq] at h
    exact listed_items (pre := [train]) (g := fun x => [x.1, x.2]) (w := 2) (lo := 1) (hi := 4) (f := pairAt) (.trainPlace train)
      (by decide) (fun _ _ => rfl) (fun x _ => readsBack_pair x) h.1.2 h.2
  case listWrite list first endFlag steps =>
    simp only [Request.wellFormed, Bool.and_eq_true, List.all_eq_true, decide_eq_true_eq] at h
    refine (listed_items (pre := [list, first, bFlag endFlag]) (g := bStep) (w := 14) (lo := 0) (hi := 17) (f := stepAt)
      (.listWrite list first (bFlag endFlag % 2 == 1)) (by decide) (fun _ _ => rfl) (fun x hx => readsBack_step (h.1.2 x hx))
      (Nat.zero_le _) h.2).trans ?_
    rw [flagAt_one]
  case gammaWrite table entries =>
    simp only [Request.wellFormed, Bool.and_eq_true, List.all_eq_true, beq_iff_eq] at h
    exact fixed_items (pre := [table]) (g := b16) (w := 2) (m := 35) (n := 17) (f := u16) (.gammaWrite table)
      (fun _ _ => rfl) (fun x hx => readsBack_word (h.1.2 x hx)) h.2 rfl
  case trainRoute train mode secs =>
    simp only [Request.wellFormed, Bool.and_eq_true, decide_eq_true_eq] at h
    have hlen : (requestPayload (.trainRoute train mode secs)).length = 2 + 1 * secs.length := by simp [requestPayload]; omega
    exact listed_of_length (lo := 1) (hi := 12) (by decide) hlen h.1.2 h.2 (fun _ => .trainRoute train mode secs)
  case railProgram program steps =>
    simp only [Request.wellFormed, Bool.and_eq_true, beq_iff_eq] at h
    exact fixed_items (pre := [program]) (g := fun x => [x.1, x.2]) (w := 2) (m := 17) (n := 8) (f := pairAt) (.railProgram program)
      (fun _ _ => rfl) (fun x _ => readsBack_pair x) h.2 rfl
  case triggerSet | triggerEnable => simp [requestKind, requestPayload, parseRequest, fixed, flagAt, u8, flagAt_one]
  all_goals rfl

end Sys2Proof.Machine
end

section
/-! SUPPORT. The bytes of a request's frame, received one by one, hand in the request (R163 to R166, R173). -/

namespace Sys2Proof.Machine

variable {s : State} {r : Request}

/-! ## The bytes of a payload (R172) -/

@[simp] theorem all_isByte_b16 (x : Nat) : (b16 x).all isByte = true := by simp [b16, isByte_iff, Nat.mod_lt]

@[simp] theorem all_isByte_b32 (x : Nat) : (b32 x).all isByte = true := by simp only [b32, List.all_append, all_isByte_b16, Bool.and_self]

@[simp] theorem isByte_zero : isByte 0 = true := rfl

@[simp] theorem isByte_one : isByte 1 = true := rfl

@[simp] theorem isByte_bFlag (f : Bool) : isByte (bFlag f) = true := by cases f <;> rfl

theorem all_isByte_bLink {l : RawLink} (h : l.wellFormed = true) : (bLink l).all isByte = true := by
  simpa [bLink, RawLink.wellFormed, and_assoc] using h

theorem all_isByte_bStep {x : StepRec} (h : x.wellFormed = true) : (bStep x).all isByte = true := by
  simp only [StepRec.wellFormed, Bool.and_eq_true] at h
  simp only [bStep, List.all_append, List.all_cons, List.all_nil, all_isByte_b16, h, Bool.and_self]

theorem all_isByte_bBinding {kind : Nat} {b : RawBinding} (h : b.wellFormed kind = true) : (bBinding kind b).all isByte = true := by
  obtain rfl | rfl | rfl | ⟨h2, h3, h4⟩ : kind = 2 ∨ kind = 3 ∨ kind = 4 ∨ kind ≠ 2 ∧ kind ≠ 3 ∧ kind ≠ 4 := by omega
  case inr.inr.inr =>
    rw [bBinding, if_neg h2, if_neg h3, if_neg h4]
    rfl
  all_goals
    simp only [RawBinding.wellFormed, Nat.reduceEqDiff, if_true, if_false, Bool.and_eq_true] at h
    simp [bBinding, h, -List.all_eq_true]

theorem all_isByte_bAxisConfig {c : RawAxisConfig} (h : c.wellFormed = true) : (bAxisConfig c).all isByte = true := by
  simp only [RawAxisConfig.wellFormed, Bool.and_eq_true] at h
  simp only [bAxisConfig, List.cons_append, List.all_cons, List.all_append, all_isByte_b16, all_isByte_b32, h, Bool.and_self]

/-- The bytes of a list's items. -/
theorem all_isByte_flatMap {α : Type} {g : α → List Nat} {l : List α} (h : ∀ x ∈ l, (g x).all isByte = true) :
    (l.flatMap g).all isByte = true := by rwa [List.all_flatMap, List.all_eq_true]

theorem all_isByte_pairs {l : List (Nat × Nat)} (h : l.all isPair = true) : (l.flatMap fun x => [x.1, x.2]).all isByte = true := by
  refine all_isByte_flatMap fun x hx => ?_
  simpa [isPair] using List.all_eq_true.mp h x hx

/-- The payload of a well-formed request is bytes. -/
theorem all_isByte_requestPayload (h : r.wellFormed = true) : (requestPayload r).all isByte = true := by
  cases r
  case clockSetRate p m q glide =>
    simp only [Request.wellFormed, Bool.and_eq_true] at h
    cases glide <;> simp [requestPayload, h, -List.all_eq_true]
  case pointDefine point d =>
    simp only [Request.wellFormed, Bool.and_eq_true] at h
    cases d with
    | none => simp [requestPayload, h, -List.all_eq_true]
    | some d =>
      simp only [RawPoint.wellFormed, Option.all_some, Bool.and_eq_true] at h
      simp [requestPayload, h, -List.all_eq_true]
  case crossingDefine crossing d =>
    simp only [Request.wellFormed, Bool.and_eq_true] at h
    cases d with
    | none => simp [requestPayload, h, -List.all_eq_true]
    | some d =>
      simp only [RawCrossing.wellFormed, Option.all_some, Bool.and_eq_true] at h
      simp [requestPayload, h, -List.all_eq_true]
  case groupSetCurve group points =>
    simp only [Request.wellFormed, Bool.and_eq_true] at h
    have hitems := all_isByte_flatMap (g := fun x => b16 x.1 ++ b16 x.2) (l := points) fun x _ => by simp [-List.all_eq_true]
    rw [requestPayload, List.all_cons, h.1.1, hitems, Bool.and_self]
  case gammaWrite table entries =>
    simp only [Request.wellFormed, Bool.and_eq_true] at h
    rw [requestPayload, List.all_cons, h.1.1, all_isByte_flatMap fun x _ => all_isByte_b16 x, Bool.and_self]
  case channelConfig =>
    simp only [Request.wellFormed, Bool.and_eq_true] at h
    simp [requestPayload, all_isByte_bBinding, h, -List.all_eq_true]
  case sectionDefine =>
    simp only [Request.wellFormed, Bool.and_eq_true] at h
    simp [requestPayload, all_isByte_bLink, h, -List.all_eq_true]
  case axisConfig =>
    simp only [Request.wellFormed, Bool.and_eq_true] at h
    rw [requestPayload, List.all_cons, h.1, all_isByte_bAxisConfig h.2, Bool.and_self]
  case trainPlace train secs =>
    simp only [Request.wellFormed, Bool.and_eq_true] at h
    rw [requestPayload, List.all_cons, h.1.1.1, all_isByte_pairs h.1.1.2, Bool.and_self]
  case railProgram program steps =>
    simp only [Request.wellFormed, Bool.and_eq_true] at h
    rw [requestPayload, List.all_cons, h.1.1, all_isByte_pairs h.1.2, Bool.and_self]
  case listWrite list first endFlag steps =>
    simp only [Request.wellFormed, Bool.and_eq_true] at h
    have hitems := all_isByte_flatMap fun x hx => all_isByte_bStep (List.all_eq_true.mp h.1.2 x hx)
    simp only [requestPayload, List.all_append, List.all_cons, List.all_nil, h, hitems, isByte_bFlag, Bool.and_self]
  case triggerSet trigger x =>
    simp only [Request.wellFormed, RawTrigger.wellFormed, Bool.and_eq_true] at h
    simp only [requestPayload, List.all_cons, List.all_nil, isByte_bFlag, h, Bool.and_self]
  all_goals
    simp only [Request.wellFormed, Bool.and_eq_true] at h
    simp [requestPayload, h, -List.all_eq_true]

/-- The bytes of a payload on the line are its values (R172). -/
theorem map_toNat_ofNat {p : List Nat} (h : p.all isByte = true) : (p.map (BitVec.ofNat 8)).map BitVec.toNat = p := by
  rw [List.map_map]
  exact (List.map_congr_left fun x hx => toNat_ofNat_byte (isByte_iff.mp (List.all_eq_true.mp h x hx))).trans p.map_id

/-! ## The length of a payload (R163, R175) -/

/-- A kind's payload fits a frame. -/
theorem suitsKind_le {kind n : Nat} (h : suitsKind kind n) : n ≤ 248 := by
  obtain hk | ho := h
  · unfold kindsOfLength at hk
    split at hk
    case h_15 => cases hk
    all_goals decide
  · unfold openLengths at ho
    split at ho
    case h_1 => omega
    case h_7 => exact ho.elim
    all_goals
      obtain ⟨k, -, hk, rfl⟩ := ho
      omega

theorem requestKind_mem (h : r.wellFormed = true) : requestKind r ∈ requestKinds := by
  refine List.contains_iff_mem.mp (eq_true_of_ne_false fun hno => ?_)
  have hp := parseRequest_requestPayload r h
  rw [parseRequest_unknown hno] at hp
  cases hp

theorem requestKind_lt (h : r.wellFormed = true) : requestKind r < 256 :=
  (by decide : ∀ kind ∈ requestKinds, kind < 256) _ (requestKind_mem h)

theorem length_requestPayload_le (h : r.wellFormed = true) : (requestPayload r).length ≤ 248 := by
  refine suitsKind_le (kind := requestKind r) (by_contra fun hno => ?_)
  have hp := parseRequest_requestPayload r h
  rw [(parseRequest_readsWhen (requestKind_mem h) _).1.mpr hno] at hp
  cases hp

/-- The frame on the line of a well-formed request is read as the request (R166, R173). -/
theorem readFrame_requestPayload {tag : Nat} (htag : tag < 256) (h : r.wellFormed = true) :
    readFrame (BitVec.ofNat 8 (requestKind r)).toNat (BitVec.ofNat 8 tag).toNat
      (((requestPayload r).map (BitVec.ofNat 8)).map BitVec.toNat) = requestFrame tag r := by
  rw [toNat_ofNat_byte (requestKind_lt h), toNat_ofNat_byte htag, map_toNat_ofNat (all_isByte_requestPayload h), readFrame,
    parseRequest_requestPayload r h, requestFrame]

/-! ## A frame byte by byte (R163, R164) -/

/-- A state with its receiver moved, all else as it stands. -/
def State.hearing (x : Receiver) (s : State) : State := s.modLink fun l => { l with rx := x }

theorem State.hearing_self {x : Receiver} (h : s.link.rx = x) : s.hearing x = s := by
  subst h
  rfl

theorem receiveAll_cons {t : State} {b : Byte} {gap : Nat} (h : exec (.receiveByte b.toNat gap) s = .next t) (l : List (Byte × Nat)) :
    receiveAll ((b, gap) :: l) s = receiveAll l t := by rw [receiveAll, h]

theorem exec_receiveByte_toNat (h : s.work.isClear = true) (b : Byte) (gap : Nat) :
    exec (.receiveByte b.toNat gap) s = .next (receive b gap s) := by
  rw [exec_receiveByte h, BitVec.ofNat_toNat, BitVec.setWidth_eq]

/-- A byte that moves the receiver alone, between two commands of a part whose requests are all taken. -/
theorem exec_receiveByte_hearing {b : Byte} {gap : Nat} {x : Receiver} (hs : s.ready = true) (hrest : s.link.atRest = true)
    (hb : acceptByte b gap s = s.hearing x) : exec (.receiveByte b.toNat gap) s = .next (s.hearing x) := by
  obtain ⟨hw, -, -, hall⟩ := ready_iff.mp hs
  have hclear : (s.hearing x).work.isClear = true := hw
  have hstuck : (s.hearing x).link.stuck := .inl hall
  rw [exec_receiveByte_toNat hw, receive_stuck (hb ▸ hstuck), hb, settle_clear hclear, finish_atRest hclear hrest]

section
variable {kind tag : Byte} {payload : List Byte}

/-- The rest of a valid frame, whatever of it has arrived, hands the frame in. -/
theorem receiveAll_inFrame (hs : s.ready = true) (hrest : s.link.atRest = true) {bytes : List Byte} {got : List Byte} {gaps : List Nat}
    (hlen : gaps.length = bytes.length) (hgaps : ∀ g ∈ gaps, g ≤ 5000) (hne : bytes ≠ [])
    (hgot : got ++ bytes = kind :: tag :: payload ++ checkBytes kind tag payload) :
    receiveAll (bytes.zip gaps) (s.hearing (.inFrame (payload.length + 2) got)) =
      .next (deliver (readFrame kind.toNat tag.toNat (payload.map BitVec.toNat)) (s.hearing .hunting)) := by
  have hready (x : Receiver) : (s.hearing x).ready = true := hs
  induction bytes generalizing got gaps with
  | nil => exact absurd rfl hne
  | cons b bytes ih =>
    cases gaps with
    | nil => cases hlen
    | cons g gaps =>
      rw [List.forall_mem_cons] at hgaps
      rw [List.zip_cons_cons]
      by_cases hend : bytes = []
      · subst hend
        rw [receiveAll_cons (exec_receiveByte_toNat (ready_iff.mp (hready _)).1 b g), receive_last rfl hgaps.1 hgot]
        rfl
      · have hmore : got.length + 1 < payload.length + 2 + 2 := by
          have hsum := congrArg List.length hgot
          have hpos := List.length_pos_iff.mpr hend
          simp only [checkBytes, List.length_append, List.length_cons, List.length_nil] at hsum
          omega
        have hbyte : exec (.receiveByte b.toNat g) (s.hearing (.inFrame (payload.length + 2) got)) =
            .next (s.hearing (.inFrame (payload.length + 2) (got ++ [b]))) :=
          exec_receiveByte_hearing (hready _) hrest ((acceptByte_inFrame rfl hgaps.1 b).trans (frameByte_more hmore))
        rw [receiveAll_cons hbyte]
        exact ih (Nat.succ.inj hlen) hgaps.2 hend (by rw [List.append_assoc, List.singleton_append, hgot])

end

/-- A whole valid frame from a HUNTING receiver is handed in (R163 to R165). -/
theorem receiveAll_frame {kind tag : Nat} {payload : List Byte} {gaps : List Nat} (hs : s.ready = true) (hx : s.link.rx = .hunting)
    (hrest : s.link.atRest = true) (hfit : payload.length ≤ 248) (hlen : gaps.length = payload.length + 6) (hgaps : ∀ g ∈ gaps, g ≤ 5000) :
    receiveAll ((frameBytes kind tag payload).zip gaps) s =
      .next (deliver (readFrame (BitVec.ofNat 8 kind).toNat (BitVec.ofNat 8 tag).toNat (payload.map BitVec.toNat)) s) := by
  obtain _ | ⟨g, _ | ⟨h, gaps⟩⟩ := gaps
  · cases hlen
  · cases hlen
  · simp only [List.forall_mem_cons] at hgaps
    obtain ⟨-, hh, hgaps⟩ := hgaps
    have hlead : exec (.receiveByte leadByte.toNat g) s = .next (s.hearing .atLength) :=
      exec_receiveByte_hearing hs hrest ((acceptByte_hunting hx _ g).trans (huntByte_eq (b := 0xC5) (by decide) s))
    have hlength : exec (.receiveByte (BitVec.ofNat 8 (payload.length + 2)).toNat h) (s.hearing .atLength) =
        .next (s.hearing (.inFrame (payload.length + 2) [])) :=
      exec_receiveByte_hearing (s := s.hearing .atLength) hs hrest
        ((acceptByte_atLength rfl hh _).trans (lengthByte_kept (Nat.le_add_left _ _) (Nat.add_le_add_right hfit 2)))
    have hframe : frameBytes kind tag payload = leadByte :: BitVec.ofNat 8 (payload.length + 2) ::
        (BitVec.ofNat 8 kind :: BitVec.ofNat 8 tag :: payload ++ checkBytes (BitVec.ofNat 8 kind) (BitVec.ofNat 8 tag) payload) := rfl
    rw [hframe, List.zip_cons_cons, List.zip_cons_cons, receiveAll_cons hlead, receiveAll_cons hlength]
    refine (receiveAll_inFrame (got := []) (kind := BitVec.ofNat 8 kind) (tag := BitVec.ofNat 8 tag) (payload := payload) hs hrest
      (by simpa [checkBytes] using hlen) hgaps (List.cons_ne_nil _ _) (List.nil_append _)).trans ?_
    rw [State.hearing_self hx]

/-- A request's command is its frame, received byte by byte (R163 to R166). -/
theorem receiveAll_request {c : Instr} {tag : Nat} {gaps : List Nat} (hc : c.request = some (tag, r)) (hwf : c.wellFormed = true)
    (hs : s.ready = true) (hx : s.link.rx = .hunting) (hrest : s.link.atRest = true) (hlen : gaps.length = (requestPayload r).length + 6)
    (hgaps : ∀ g ∈ gaps, g ≤ 5000) :
    receiveAll ((frameBytes (requestKind r) tag ((requestPayload r).map (BitVec.ofNat 8))).zip gaps) s = exec c s := by
  have hfit : isByte tag = true ∧ r.wellFormed = true := by simpa only [Instr.wellFormed, hc, Bool.and_eq_true] using hwf
  obtain ⟨htag, hr⟩ := hfit
  rw [receiveAll_frame hs hx hrest (by simpa using length_requestPayload_le hr) (by simpa using hlen) hgaps,
    readFrame_requestPayload (isByte_iff.mp htag) hr, exec_request hc, perform_clear (ready_iff.mp hs).1]

end Sys2Proof.Machine
end

section
/-! SUPPORT. The statements of the Show Link's family settled: each by its lemmas above. -/

namespace Sys2Proof.Link

open Sys2Proof.Machine

/-- Settles O58: the ranges of the Show Link's records are a stable property that the Show Link's own steps keep too. -/
theorem linkInvariant : Obligations.LinkInvariant := fun _ _ h e => stepStable_linkWf.step h e

/-- Settles O2: every command but a start is a change that waits for the work left over, which comes to its end or does not. -/
theorem everyCommandCompletes : Obligations.EveryCommandCompletes := by
  refine ⟨fun c s h => ?_, fun c s h hon hpin => ?_⟩
  · by_cases hon : c = .powerOn
    · exact hon ▸ ⟨_, rfl, rfl⟩
    by_cases hpin : c = .resetPin
    · exact hpin ▸ ⟨_, rfl, rfl⟩
    obtain ⟨f, hf, hq⟩ := exec_performs c hon hpin
    exact ⟨f (settle s), by rw [hf, perform_settled h], hq _ _ (queues_settle rfl)⟩
  · obtain ⟨f, hf, -⟩ := exec_performs c hon hpin
    rw [hf, perform_endless h]

/-- Settles O1, by the queue's two shapes. -/
theorem stepTakesFront : Obligations.StepTakesFront := ⟨fun _ _ _ => step_cons, fun _ => step_nil⟩

/-- Settles O3: with nothing left to carry out, the end of a command is the pick of an IDLE transmitter. -/
theorem replyEnds : Obligations.ReplyEnds := by
  intro tag r a t h
  rw [State.replied, settle_clear h, finish_addReply h]
  rfl

/-- Settles O6, each request by its check. -/
theorem linkOwnRequests : Obligations.LinkOwnRequests := by
  refine ⟨fun tag mask s h => ?_, fun tag s h => ⟨fun scope hs => ?_, fun scope x hx => ?_⟩⟩
  · have hw := (ready_iff.mp h).1
    split
    · next hm =>
      rw [exec_request rfl, perform_clear hw]
      exact congrArg _ (deliver_served h (doNoticeMask_taken hm) rfl rfl)
    · next hm =>
      rw [exec_request rfl, perform_clear hw]
      exact congrArg _ (deliver_served (f := id) h (doNoticeMask_beyond (Nat.not_lt.mp hm)) rfl rfl)
  · rw [exec_request rfl, perform_clear (ready_iff.mp h).1]
    exact congrArg _ (deliver_served (f := id) h (doReset_beyond hs) rfl rfl)
  · rw [exec_request rfl, perform_clear (ready_iff.mp h).1]
    exact congrArg _ (deliver_reset h hx)

/-- Settles O9: a start has nothing to follow, and a COLD reset is a start. -/
theorem startsAnew : Obligations.StartsAnew := by
  refine ⟨fun s => ⟨rfl, rfl⟩, fun r s hw htx ho => ?_⟩
  rw [exec_transmitFrameEnd hw, frameEnd_sending (by rw [htx]; nofun), afterFrame_cold htx ho, finish_start]
  rfl

/-- Settles O11, by the receiver's state, the gap and what the byte completes. -/
theorem receiverByte : Obligations.ReceiverByte := by
  intro b gap s hb hw hall rx hunt
  have hstep {u : State} (h : acceptByte (BitVec.ofNat 8 b) gap s = u) (hu : u.link.slots = s.link.slots) :
      exec (.receiveByte b gap) s = .next (finish (settle u)) := by
    have hstuck : (acceptByte (BitVec.ofNat 8 b) gap s).link.stuck := .inl (by rw [h, hu, hall])
    rw [exec_receiveByte hw, receive_stuck hstuck, h]
  have hplain {f : ShowLink → ShowLink} (h : acceptByte (BitVec.ofNat 8 b) gap s = s.modLink f) (hf : (f s.link).slots = s.link.slots) :
      exec (.receiveByte b gap) s = .next (finish (s.modLink f)) := by
    rw [hstep h hf, settle_modLink hw]
  refine ⟨fun hx => ?_, fun hx hg h2 h250 => ?_, fun hx hg h => ?_, fun hx hg => ?_, fun n got hx hg => ⟨fun h => ?_, fun h hc => ?_⟩⟩
  · exact hplain ((acceptByte_hunting hx _ _).trans (huntByte_eq hb s)) rfl
  · exact hplain ((acceptByte_atLength hx hg _).trans (lengthByte_kept h2 h250)) rfl
  · exact hstep ((acceptByte_atLength hx hg _).trans (lengthByte_bad hb h)) (State.raise_link_slots _ _)
  · exact hstep ((acceptByte_late hx hg _).trans (huntByte_eq hb _)) (State.raise_link_slots _ _)
  · exact hplain ((acceptByte_inFrame hx hg _).trans (frameByte_more h)) rfl
  · exact hstep ((acceptByte_inFrame hx hg _).trans (frameByte_bad h hc)) (State.raise_link_slots _ _)

/-- Settles O4: every block refuses before it changes anything. -/
theorem refusedChangesNothing : Obligations.RefusedChangesNothing := fun r s h hr => handle_unmoved r hr s h

/-- Settles O7: a request that is not taken by the slots, the BUSY replies and their room; a frame that reaches no block by its kind and its
length. -/
theorem frameHandedIn : Obligations.FrameHandedIn := by
  refine ⟨fun c tag r s hc hw => ⟨fun hr hs => ?_, fun hs hstuck hb => ?_, fun hs hstuck hb => ?_⟩, fun kind tag payload s hk h => ?_, ?_,
    fun kind payload => ?_⟩
  · have hstuck : (placeFrame (requestFrame tag r) s).link.stuck := .inr (by rw [placeFrame_free hs]; exact hr)
    rw [exec_request hc, perform_clear hw, deliver_stuck hstuck, placeFrame_free hs, settle_modLink hw]
    rfl
  · have hstuck' : (placeFrame (requestFrame tag r) s).link.stuck := by rw [placeFrame_busy hs hb]; exact hstuck
    rw [exec_request hc, perform_clear hw, deliver_stuck hstuck', placeFrame_busy hs hb, settle_modLink hw]
    rfl
  · have hstuck' : (placeFrame (requestFrame tag r) s).link.stuck := by rw [placeFrame_noRoom hs hb]; exact raise_stuck hstuck _
    rw [exec_request hc, perform_clear hw, deliver_stuck hstuck', placeFrame_noRoom hs hb]
  · have hread : readFrame kind tag payload = { kind := kind, tag := tag, body := .unknownKind } := by rw [readFrame, parseRequest_unknown hk]
    have hexec : exec (.unknownKind kind tag payload) s = perform (deliver (readFrame kind tag payload)) s := rfl
    rw [hexec, perform_clear (ready_iff.mp h).1, hread, deliver_unread h rfl]
    rfl
  · intro kind tag payload got last gap s h hg hp covered hx hgot hbad
    have hread : readFrame kind.toNat tag.toNat (payload.map BitVec.toNat) = { kind := kind.toNat, tag := tag.toNat, body := .badLength } := by
      rw [readFrame, hbad]
    have hready : (s.modLink fun l => { l with rx := .hunting }).ready = true := h
    rw [exec_receiveByte (ready_iff.mp h).1, receive_last hx hg hgot, hread, deliver_unread hready rfl]
    rfl
  · exact ⟨(parseRequest_badLength_iff kind payload).trans (by rw [suitsKind_iff]), parseRequest_unknown_iff kind payload⟩

/-- Settles O8: the frame's end by what was sent, an event by its class, the transmitter and the queue, and the bytes as they are made. -/
theorem transmitterAndNotices : Obligations.TransmitterAndNotices := by
  refine ⟨fun s hw hall hl => ⟨fun htx => ?_, fun freed hfreed => ?_⟩,
    fun report n l hwf => ⟨fun hn => ?_, fun hn => offer_full hn.ge, ShowLink.wf_offer _ _ hwf, fun s m rest hs hr hn hl => ?_⟩,
    fun e s => ?_, fun r n s => ?_, fun e => ?_, fun c => ?_⟩
  · rw [exec_transmitFrameEnd hw, frameEnd_idle htx]
  · obtain ⟨hfree, hsend, hafter⟩ := afterFrame_freed hall hfreed
    rw [exec_transmitFrameEnd hw, frameEnd_picks hw hl hfree hsend hafter]
    rfl
  · obtain ⟨-, -, -, hfull, -⟩ := ShowLink.wf_iff.mp hwf
    exact offer_room hn (by omega)
  · subst hs
    rw [pick_notice hr hn, reportLost_some (by exact hl)]
    rfl
  · intro l n report atOnce with_
    have hidles : s.link.idles = true ↔ atOnce := idles_iff
    rw [← hidles]
    refine ⟨wants_iff, raise_unwanted, raise_atOnce, fun hwant hi hn hl => ?_, fun hwant hi hn hl => ?_, fun hwant hi hn hl => ?_,
      fun hwant hi hn => ?_, by cases e <;> rfl⟩
    · rw [raise_waits hi, announce_plain hwant (.inl hl)]
      exact congrArg (State.offerBlocks e) (State.modLink_congr (offer_room hn hl))
    · rw [raise_waits hi, announce_report hwant (Nat.lt_of_succ_lt hn) hl]
      exact congrArg (State.offerBlocks e) (State.modLink_congr (offer_report hn hl))
    · rw [raise_waits hi, announce_report hwant (hn.trans_lt (by decide)) hl]
      exact congrArg (State.offerBlocks e) (State.modLink_congr (offer_reportLast hn hl))
    · rw [raise_waits hi, announce_plain hwant (.inr hn)]
      exact congrArg (State.offerBlocks e) (State.modLink_congr (offer_full hn))
  · intro low framed e
    have hlow : low = leBytes := funext₂ fun w x => (leBytes_eq w x).symm
    rw [hlow]
    refine ⟨?_, rfl, n.record_length, rfl, rfl, by decide +kernel⟩
    rw [Reply.bytes, Answer.payload, datF_eq]
    rfl
  · cases e with
    | axisIndex a error slip => cases slip <;> rfl
    | railChange rail up => cases up <;> rfl
    | dressing on => cases on <;> rfl
    | _ => rfl
  · cases c <;> rfl

/-- Settles O12: the payload of a well-formed request is bytes, fits a frame and is read back as the request, and a valid frame moves
the receiver alone until its last byte hands it in. -/
theorem bytesAreTheRequest : Obligations.BytesAreTheRequest := fun _ _ _ _ _ => receiveAll_request

end Sys2Proof.Link
end
